-- ==== Sys2Proof/Word.lean ====
section
/-! DEFINITION. The plainest types of the part: bytes, belt coordinates, the six positions, and the
small records that hold one value per position or per gauge axis (00_scope.md, Conventions). -/

namespace Sys2Proof

/-- One byte of tariff memory or of the host line. -/
abbrev Byte := BitVec 8

/-- A belt coordinate: a value of P, or one computed from it (00_scope.md, Belt coordinates). -/
abbrev Coord := BitVec 32

/-- A counter position, 1 (most upstream) to 6 (most downstream). Channel WCHk, gauge Gk, induct eye k
and induct lamp k belong to position k. -/
inductive Pos where
  | p1 | p2 | p3 | p4 | p5 | p6
deriving DecidableEq, Repr

/-- The number of a position, 1 to 6. -/
def Pos.number : Pos → Nat
  | .p1 => 1 | .p2 => 2 | .p3 => 3 | .p4 => 4 | .p5 => 5 | .p6 => 6

/-- The position a request's position field names, if it lies within 1 to 6. -/
def Pos.ofNumber : Nat → Option Pos
  | 1 => some .p1 | 2 => some .p2 | 3 => some .p3 | 4 => some .p4 | 5 => some .p5 | 6 => some .p6
  | _ => none

/-- All positions in ascending order. -/
def Pos.all : List Pos := [.p1, .p2, .p3, .p4, .p5, .p6]

/-- The next position in the ascending order 1, 2, 3, 4, 5, 6, 1. -/
def Pos.next : Pos → Pos
  | .p1 => .p2 | .p2 => .p3 | .p3 => .p4 | .p4 => .p5 | .p5 => .p6 | .p6 => .p1

/-- One value for each of the six positions. -/
structure Six (α : Type) where
  v1 : α
  v2 : α
  v3 : α
  v4 : α
  v5 : α
  v6 : α
deriving DecidableEq, Repr, Inhabited

namespace Six
variable {α β : Type}

/-- The value of position k. -/
def get (v : Six α) : Pos → α
  | .p1 => v.v1 | .p2 => v.v2 | .p3 => v.v3 | .p4 => v.v4 | .p5 => v.v5 | .p6 => v.v6

/-- `v` with the value of position k replaced. -/
def set (v : Six α) (k : Pos) (x : α) : Six α :=
  match k with
  | .p1 => { v with v1 := x }
  | .p2 => { v with v2 := x }
  | .p3 => { v with v3 := x }
  | .p4 => { v with v4 := x }
  | .p5 => { v with v5 := x }
  | .p6 => { v with v6 := x }

/-- The same value at every position. -/
def fill (x : α) : Six α := ⟨x, x, x, x, x, x⟩

/-- `f` applied at every position. -/
def map (f : α → β) (v : Six α) : Six β := ⟨f v.v1, f v.v2, f v.v3, f v.v4, f v.v5, f v.v6⟩

/-- The value `f k` at every position k. -/
def of (f : Pos → α) : Six α := ⟨f .p1, f .p2, f .p3, f .p4, f .p5, f .p6⟩

/-- The values in ascending order of position. -/
def toList (v : Six α) : List α := [v.v1, v.v2, v.v3, v.v4, v.v5, v.v6]

end Six

/-- The three arms of a gauge, in the order L, W, H. -/
inductive Axis where
  | length | width | height
deriving DecidableEq, Repr

/-- The axes in the order a failed latch names them (R29). -/
def Axis.all : List Axis := [.length, .width, .height]

/-- One value for each axis of a gauge. -/
structure Three (α : Type) where
  l : α
  w : α
  h : α
deriving DecidableEq, Repr, Inhabited

namespace Three
variable {α β : Type}

/-- The value of an axis. -/
def get (v : Three α) : Axis → α
  | .length => v.l | .width => v.w | .height => v.h

/-- `v` with the value of one axis replaced. -/
def set (v : Three α) (a : Axis) (x : α) : Three α :=
  match a with
  | .length => { v with l := x }
  | .width => { v with w := x }
  | .height => { v with h := x }

/-- The same value on every axis. -/
def fill (x : α) : Three α := ⟨x, x, x⟩

/-- `f` applied on every axis. -/
def map (f : α → β) (v : Three α) : Three β := ⟨f v.l, f v.w, f v.h⟩

/-- The values in the order L, W, H. -/
def toList (v : Three α) : List α := [v.l, v.w, v.h]

end Three

/-- One of the two halves of tariff memory (R37). -/
inductive Bank where
  | a | b
deriving DecidableEq, Repr

/-- The other bank. -/
def Bank.other : Bank → Bank
  | .a => .b | .b => .a

/-- One value for each bank. -/
structure Two (α : Type) where
  a : α
  b : α
deriving DecidableEq, Repr

namespace Two
variable {α : Type}

/-- The value of a bank. -/
def get (v : Two α) : Bank → α
  | .a => v.a | .b => v.b

/-- `v` with the value of one bank replaced. -/
def set (v : Two α) (k : Bank) (x : α) : Two α :=
  match k with
  | .a => { v with a := x }
  | .b => { v with b := x }

/-- The same value for both banks. -/
def fill (x : α) : Two α := ⟨x, x⟩

end Two

/-- One of the two copies of the settings record (R200). -/
inductive CopyId where
  | one | two
deriving DecidableEq, Repr

/-- The other copy. -/
def CopyId.other : CopyId → CopyId
  | .one => .two | .two => .one

/-- One of the 8 request slots (R194). -/
abbrev SlotId := Fin 8

/-- The request slots in the order dispatch looks through them. -/
def SlotId.all : List SlotId := [0, 1, 2, 3, 4, 5, 6, 7]

end Sys2Proof
end

