-- ==== Sys2Proof/Machine/Kinds.lean ====
section
/-! DEFINITION. The names and records the blocks of the part share: states, reasons, records handed
from block to block, notices and the fields of replies. Plain data, one type for each thing the
manual names. -/

namespace Sys2Proof

/-! ## Calendar (R197) -/

/-- A calendar minute: a calendar value truncated to the minute (00_scope.md, Units). -/
structure Minute where
  year : Nat
  month : Nat
  day : Nat
  hour : Nat
  minute : Nat
deriving DecidableEq, Repr

/-- A calendar value, years 2000 to 2099. -/
structure Clock where
  minute : Minute
  second : Nat
deriving DecidableEq, Repr

/-! ## Weighing (01_weighing_channels.md) -/

/-- Channel state (R8). -/
inductive ChanState where
  | offline | zeroing | motion | stable | over | under
deriving DecidableEq, Repr

/-- Calibration status (R13, R14). -/
inductive Calibration where
  | uncalibrated | zeroOnly | calibrated
deriving DecidableEq, Repr, Inhabited

/-- The five notice classes of a channel, each enabled or disabled (R21). -/
structure Enables where
  motionStable : Bool
  fault : Bool
  removal : Bool
  disturb : Bool
  serviceLimit : Bool
deriving DecidableEq, Repr, Inhabited

/-- The factory notice enables of R21. -/
def Enables.factory : Enables := ⟨false, true, false, true, true⟩

/-- A weight report: gross and net in grams, the interval e, the stale mark (R4, R1). -/
structure Report where
  gross : Int
  net : Int
  e : Nat
  stale : Bool
deriving DecidableEq, Repr

/-- A capture record: net, interval, calendar minute (absent while the calendar is UNSET) (R15). -/
structure Capture where
  net : Int
  e : Nat
  minute : Option Minute
deriving DecidableEq, Repr

/-- The comparator a capture was lost to (R17). -/
inductive LostCause where
  | disturb | serviceLimit
deriving DecidableEq, Repr

/-- The event a WEIGHT_STATE notice reports (R21). -/
inductive WeightEvent where
  | change (before after : ChanState)
  | zeroRange
  | removalOn
  | removalOff
  | disturb
  | serviceLimit
deriving DecidableEq, Repr

/-! ## Gauges (02_dimension_gauges.md) -/

/-- Axis state (R27, R28). -/
inductive AxisState where
  | unreferenced | ready | over
deriving DecidableEq, Repr

/-- What started a latch (R29). -/
inductive LatchSource where
  | button | request | rating
deriving DecidableEq, Repr

/-- A latch record: the three counts, the three dimensions in cm, source and claimed mark (R29). -/
structure LatchRecord where
  counts : Three Int
  cm : Three Nat
  source : LatchSource
  claimed : Bool
deriving DecidableEq, Repr

/-- The filtered state of a latch button (R30). -/
inductive Button where
  | released | pressed
deriving DecidableEq, Repr

/-- The event a GAUGE_FAULT notice reports (R35). -/
inductive GaugeEvent where
  | phaseError
  | countLimit
  | homeSlip (correction : Int)
  | referenced
  | latchFailed
deriving DecidableEq, Repr

/-! ## Tariff (03_tariff_image_and_banks.md) -/

/-- Bank state (R39). -/
inductive BankState where
  | empty | loading | verifying | staged | active | damaged
deriving DecidableEq, Repr

/-- The state a bank state record says (R38). VERIFYING is not recorded. -/
inductive RecordedState where
  | empty | loading | staged | active | damaged
deriving DecidableEq, Repr

/-- A format marker as it is read: the format's own, or anything else (R38, R200; log 6, 55: its value and
width are not given). -/
inductive FormatMarker where
  | right | wrong
deriving DecidableEq, Repr, Inhabited

/-- The fields of a bank state record between its marker and its CRC-16 (R38). -/
structure RecordFields where
  seq : BitVec 32
  state : RecordedState
  length : Nat
  crc : BitVec 32
  tariffId : Nat
  version : Nat
  effective : Minute
deriving DecidableEq, Repr

/-- A bank state record as it stands in its sector, its format marker and CRC-16 right or wrong (R38). -/
structure StateRecord extends RecordFields where
  marker : FormatMarker
  check : BitVec 16
deriving DecidableEq, Repr

/-- The checks of verification (R51). -/
inductive VerifyCheck where
  | recordForm | recordCrc | sequence | fieldRange | order | duplicate | ladderUnoffered
  | ladderOffset | surchargeLimit | countMismatch | ladderMissing | imageCrc
deriving DecidableEq, Repr

/-- A last verification result (R52). -/
inductive VerifyResult where
  | passed
  | failed (check : VerifyCheck) (record : Nat)
deriving DecidableEq, Repr

/-- The description of a bank: what the load gave, and what its header gave once verified. -/
structure Description where
  length : Nat
  crc : BitVec 32
  tariff : Option (Nat × Nat × Minute)
deriving DecidableEq, Repr

/-- The fields of an image header (R41). -/
structure Header where
  tariffId : Nat
  version : Nat
  effective : Minute
  tax : Nat
  granularity : Nat
  divisor : Nat
  discounts : List Nat
  nServices : Nat
  nZones : Nat
  nLadders : Nat
  nSurcharges : Nat
deriving DecidableEq, Repr

/-- A service record's fields (R42), with its record number and, for each zone 1 to 12, the record
number of the ladder at its ladder offset (0 when none has been seen). -/
structure Service where
  code : Nat
  name : List Byte
  maxWeight : Nat
  maxLength : Nat
  maxGirth : Nat
  volumetric : Bool
  express : Bool
  cover : Nat
  zoneMask : BitVec 16
  offsets : List Nat
  record : Nat
  ladderRecords : List Nat
deriving DecidableEq, Repr

/-- The kinds of surcharge (R45). -/
inductive SurchargeKind where
  | lengthOver | girthOver | weightOver | irregular | fragile | signature | declaredValue
deriving DecidableEq, Repr

/-- A surcharge record (R45); `permille` is mode PERMILLE. -/
structure Surcharge where
  code : Nat
  kind : SurchargeKind
  threshold : Nat
  permille : Bool
  amount : Nat
  unit : Nat
  mask : BitVec 16
deriving DecidableEq, Repr

/-- A tariff summary: the part of an image the controller keeps on chip. -/
structure Summary where
  header : Header
  services : List Service
  surcharges : List Surcharge
deriving DecidableEq, Repr

/-- A zone range record (R43). -/
structure ZoneRange where
  low : Nat
  high : Nat
  zone : Nat
  sort : Byte × Byte
deriving DecidableEq, Repr

/-- A ladder record (R44): steps as (upper bound, price), the tail as (step, increment). -/
structure Ladder where
  service : Nat
  zone : Nat
  steps : List (Nat × Nat)
  tail : Option (Nat × Nat)
deriving DecidableEq, Repr

/-- What caused an activation (R53, R54). -/
inductive ActivationCause where
  | time | request
deriving DecidableEq, Repr

/-! ## Rate cache and rating (04, 05) -/

/-- A lookup the Rating Unit gives the cache (R63, R64). -/
inductive Lookup where
  | zone (k : Pos) (x : Nat)
  | price (service zone cw : Nat)
deriving DecidableEq, Repr

/-- The answer to a lookup (R63, R64). -/
inductive Answer where
  | noTariff
  | notOffered
  | noZone
  | zoneFound (zone : Nat) (sort : Byte × Byte)
  | step (price low high : Nat)
  | tail (start price step increment : Nat)
  | overweight (lastBound : Nat)
  | tariffFault
  | restart
deriving DecidableEq, Repr

/-- A point entry of the cache (R60). -/
structure PointEntry where
  valid : Bool := false
  generation : Nat := 0
  service : Nat := 0
  zone : Nat := 0
  low : Nat := 0
  high : Nat := 0
  price : Nat := 0
deriving DecidableEq, Repr

/-- A band entry of the cache (R61). -/
structure BandEntry where
  valid : Bool := false
  generation : Nat := 0
  service : Nat := 0
  zone : Nat := 0
  start : Nat := 0
  price : Nat := 0
  step : Nat := 0
  increment : Nat := 0
  maxWeight : Nat := 0
deriving DecidableEq, Repr

/-- A zone lookaside (R62). -/
structure Lookaside where
  valid : Bool := false
  generation : Nat := 0
  low : Nat := 0
  high : Nat := 0
  zone : Nat := 0
  sort : Byte × Byte := (0, 0)
deriving DecidableEq, Repr

/-- The seven statistics of the cache (R74). -/
structure CacheStats where
  pointHits : Nat := 0
  bandHits : Nat := 0
  priceMisses : Nat := 0
  zoneHits : Nat := 0
  zoneMisses : Nat := 0
  walkReads : Nat := 0
  recordErrors : Nat := 0
deriving DecidableEq, Repr

/-- The reasons of a NOT_RATEABLE result (R98). -/
inductive RateReason where
  | noTariff | notOffered | oversize | valueOverCover | overweight | noZone | tariffFault | priceLimit
deriving DecidableEq, Repr

/-- Which limit an OVERSIZE names, or which stage a PRICE_LIMIT names (R98). -/
inductive RateStage where
  | length | girth | base | surcharge | net | total
deriving DecidableEq, Repr

/-- Why a rating is NOT_RATEABLE: reason, stage or limit kind, failing value, limit (R98). -/
structure RateFailure where
  reason : RateReason
  stage : Option RateStage := none
  value : Option Nat := none
  limit : Option Nat := none
deriving DecidableEq, Repr

/-- The price basis of a result (R92). -/
inductive Basis where
  | step
  | tail (k : Nat)
deriving DecidableEq, Repr

/-- A rating's result record (R99). `failure` absent is status RATED; a field whose stage was not
reached is absent. -/
structure RateResult where
  failure : Option RateFailure := none
  generation : Nat
  service : Option (Nat × List Byte) := none
  wt : Nat
  dims : Option (Nat × Nat × Nat) := none
  girth : Option Nat := none
  vw : Option Nat := none
  cw : Option Nat := none
  zone : Option (Nat × (Byte × Byte)) := none
  basis : Option Basis := none
  p0 : Option Nat := none
  surcharges : Option (List (Nat × Nat)) := none
  dsc : Option Nat := none
  net : Option Nat := none
  tax : Option Nat := none
  totalRaw : Option Nat := none
  total : Option Nat := none
  rounding : Option Int := none
  volumetricUsed : Bool := false
  keyed : Bool := false
  dimsClamped : Bool := false
  expressClass : Bool := false
deriving DecidableEq, Repr

/-! ## Items (06_items_and_numbers.md) -/

/-- The fields every open item holds (R101). -/
structure ItemFields where
  service : Nat
  postcode : Nat
  value : Nat
  fragile : Bool
  signature : Bool
  irregular : Bool
  tier : Nat
  lines : List (List Byte)
deriving DecidableEq, Repr

/-- The phases of a rating request in its slot (R101). -/
inductive RatePhase where
  | gathering | queued | inProgress
deriving DecidableEq, Repr

/-- The state of an open-item slot (R101), as notices and I_STATUS name it. -/
inductive SlotState where
  | idle | opened | rating | rated
deriving DecidableEq, Repr

/-- Release class (R118). -/
inductive ReleaseClass where
  | express | standard
deriving DecidableEq, Repr

/-- State of a register entry (R118). -/
inductive RegState where
  | awaitRelease | released | onBelt
deriving DecidableEq, Repr

/-- Label state of an ITEM (R178). -/
inductive LabelState where
  | notStarted | printing | presented | applied | skipped | wasted
deriving DecidableEq, Repr

/-- Reject reasons (R140). -/
inductive RejectReason where
  | overlap | unknown | overlength | reversed | estop | noLabel | applyFailed | voided
deriving DecidableEq, Repr

/-- Outcomes of a closed item (R121). -/
inductive ItemOutcome where
  | labelled
  | rejected (reason : RejectReason)
  | missing
  | voided
deriving DecidableEq, Repr

/-- An entry of the item register (R118). `track` is its ITEM entry in the tracking queue. -/
structure RegEntry where
  number : Nat
  position : Pos
  accepted : Minute
  postcode : Nat
  fragile : Bool
  signature : Bool
  irregular : Bool
  result : RateResult
  lines : List (List Byte)
  cls : ReleaseClass
  state : RegState
  attempts : Nat
  track : Option Nat
  label : Option LabelState
  reject : Option RejectReason
deriving DecidableEq, Repr

/-- A block of serials in the number pool (R113). -/
structure SerialBlock where
  first : Nat
  last : Nat
  next : Nat
deriving DecidableEq, Repr

/-! ## Belt and release (07, 08) -/

/-- Drive state (R127). -/
inductive Drive where
  | stopped | starting | running | creeping | stopping | estopped
deriving DecidableEq, Repr

/-- Stop reason (07, table of the chapter's opening). -/
inductive StopReason where
  | none | host | labelWait | estop | jam
deriving DecidableEq, Repr

/-- The body of a tracking queue entry (R139). A STRAY's origin is absent for APPLICATOR.
`retireDue` marks an ITEM whose retirement point P passed during its tamp cycle (R149). -/
inductive EntryBody where
  | reservation (k : Pos) (p0 : Coord) (item : Nat)
  | item (item : Nat) (origin : Pos) (length : Option Int) (label : LabelState) (matched retireDue : Bool)
  | stray (origin : Option Pos) (matched : Bool)
deriving DecidableEq, Repr

/-- An entry of the tracking queue (R139). `id` is the model's name for it. -/
structure Entry where
  id : Nat
  front : Coord
  tail : Coord
  flag : Option RejectReason
  body : EntryBody
deriving DecidableEq, Repr

/-- An eye record (R143). `grown` marks a placed object that has blocked the eye beyond Lmax (R146). -/
structure EyeRecord where
  blocked : Bool := false
  front : Coord := 0
  entry : Option Nat := none
  passing : Bool := false
  grown : Bool := false
deriving DecidableEq, Repr

/-- Controller state of the Release Controller. -/
inductive RelState where
  | idle | negotiating | rotating | suspended
deriving DecidableEq, Repr

/-- Mode of a rotation timer (R158). -/
inductive TimerMode where
  | running | held | stopped
deriving DecidableEq, Repr

/-- The candidate: register entry, whether chosen on EXPRESS terms (express count below X), and its
express wait timer (R162, R163). -/
structure Candidate where
  item : Nat
  expressTerms : Bool
  wait : Option Nat
deriving DecidableEq, Repr

/-- The lit release (R164). -/
structure LitRelease where
  position : Pos
  item : Nat
  cls : ReleaseClass
  p0 : Coord
deriving DecidableEq, Repr

/-- The five release statistics (R171). -/
structure RelStats where
  rotations : Nat := 0
  late : Nat := 0
  overruns : Nat := 0
  grants : Nat := 0
  unused : Nat := 0
deriving DecidableEq, Repr

/-! ## Labels (09) -/

/-- Kinds of printer fault. TIMEOUT and UNKNOWN are the unit's own. -/
inductive FaultKind where
  | outOfLabels | headOpen | jam | timeout | unknown
deriving DecidableEq, Repr

/-- The kinds a FAULT report gives (R173). -/
inductive ReportedFault where
  | outOfLabels | headOpen | jam
deriving DecidableEq, Repr

/-- The fault kind a FAULT report sets. -/
def ReportedFault.kind : ReportedFault → FaultKind
  | .outOfLabels => .outOfLabels | .headOpen => .headOpen | .jam => .jam

/-- Printer state with its fault kind (R173). -/
inductive Printer where
  | ready | printing | presented
  | fault (kind : FaultKind)
deriving DecidableEq, Repr

/-- The record of a JOB (R174). -/
structure LabelRecord where
  number : Nat
  name : List Byte
  sort : Byte × Byte
  zone : Nat
  postcode : Nat
  cw : Nat
  total : Nat
  paid : Bool
  accepted : Minute
  office : Nat
  position : Pos
  fragile : Bool
  signature : Bool
  keyed : Bool
  lines : List (List Byte)
deriving DecidableEq, Repr

/-- A message to the printer (R173). -/
inductive PrinterMessage where
  | query
  | job (record : LabelRecord)
deriving DecidableEq, Repr

/-- The current job (R175, R176). -/
structure Job where
  entry : Nat
  record : LabelRecord
  timer : Nat
  interrupted : Bool
  waste : Bool
deriving DecidableEq, Repr

/-- The pad, with the entry whose label is on it (R179). -/
inductive Pad where
  | empty
  | holding (entry : Nat)
  | applying (entry : Nat)
deriving DecidableEq, Repr

/-- The tamp, with its entry and tamp point or phase time left (R184, R185). -/
inductive Tamp where
  | retracted
  | armed (entry : Nat) (point : Coord)
  | extend (entry : Nat) (left : Nat)
  | dwell (entry : Nat) (left : Nat)
  | retract (entry : Nat) (left : Nat)
deriving DecidableEq, Repr

/-- Diverter position (R187). -/
inductive Diverter where
  | pass | reject
deriving DecidableEq, Repr

/-- A reading of the pad sensor (R179). -/
inductive PadSensor where
  | clear | label
deriving DecidableEq, Repr, Inhabited

/-- The eleven label statistics (R189). -/
structure LabelStats where
  jobs : Nat := 0
  resends : Nat := 0
  presented : Nat := 0
  applied : Nat := 0
  applyFailures : Nat := 0
  wasted : Nat := 0
  displaced : Nat := 0
  skipped : Nat := 0
  unexpected : Nat := 0
  timeouts : Nat := 0
  diversions : Nat := 0
deriving DecidableEq, Repr

/-! ## Settings (10) -/

/-- The geometry of the line and the ramp rates (R138). -/
structure Geometry where
  d : Six Nat
  aOff : Nat
  dDiv : Nat
  pitch : Nat
  gap : Nat
  lres : Nat
  tol : Nat
  slow : Nat
  accel : Nat
  decel : Nat
deriving DecidableEq, Repr, Inhabited

/-- The host fields of the settings record (R200). -/
structure HostFields where
  office : Nat
  homeOffsets : Six (Three Nat)
  geo : Geometry
  labelLength : Nat
  printSpeed : Nat
  applyMs : Nat
  lowWater : Nat
  defaults : Six (Nat × Nat)
deriving DecidableEq, Repr, Inhabited

/-- The fields of one channel in the settings record (R200). -/
structure ChannelSettings where
  zc : Int
  k : Int
  calibration : Calibration
  n : Nat
  b : Nat
  enables : Enables
deriving DecidableEq, Repr, Inhabited

/-- The fields of a settings record (R200). -/
structure SettingsRecord where
  host : HostFields
  channels : Six ChannelSettings
  timeout : Nat
deriving DecidableEq, Repr, Inhabited

/-- The default geometry of R138. -/
def Geometry.default : Geometry where
  d := ⟨14500, 12000, 9500, 7000, 4500, 2000⟩
  aOff := 150
  dDiv := 1200
  pitch := 700
  gap := 300
  lres := 1500
  tol := 60
  slow := 400
  accel := 500
  decel := 500

/-- The default host fields of R200. -/
def HostFields.default : HostFields where
  office := 0
  homeOffsets := .fill (.fill 20)
  geo := .default
  labelLength := 150
  printSpeed := 150
  applyMs := 250
  lowWater := 200
  defaults := .fill (10000, 1)

/-- The default channel fields of R200. -/
def ChannelSettings.default : ChannelSettings := ⟨0, 500000, .uncalibrated, 10, 1, .factory⟩

/-- The default settings record of R200. -/
def SettingsRecord.default : SettingsRecord := ⟨.default, .fill .default, 3000⟩

/-- Which check a copy of the settings record failed (R201). -/
inductive CopyFault where
  | marker | crc | range
deriving DecidableEq, Repr

/-- A copy of the settings record in non-volatile memory: its format marker, its sequence number, its fields
and its CRC-16, as they stand there, right or wrong (R200). -/
structure Copy where
  marker : FormatMarker
  seq : BitVec 32
  record : SettingsRecord
  crc : BitVec 16
deriving DecidableEq, Repr, Inhabited

/-- A copy as a memory never written holds it: its marker is wrong (log 4). -/
def Copy.blank : Copy := ⟨.wrong, 0, .default, 0⟩

/-- Where the record in force came from (R201). -/
inductive Source where
  | copy (c : CopyId)
  | defaulted
deriving DecidableEq, Repr

/-! ## Host link (10) -/

/-- The requests this manual names, each with one message code of its own (R193). -/
inductive ReqName where
  | wSet | wTimeout | wZero | wTare | wClearTare | wCalibrate | wStatus
  | gLatch | gStatus
  | tOpen | tData | tClose | tDiscard | tActivate | tStatus
  | cPurge | cStats | cRead
  | iOpen | iAmend | iRate | iConfirm | iCancel | iVoid | iStatus | iRead | iList | iCounts
  | nLoad | nStatus
  | bRun | bStop | bReset | bStatus | bQueue
  | pOpen | pClose | pStatus | pStats
  | lStatus | lStats
  | sClockSet | sStore | sGet | sStatus | sRestart
deriving DecidableEq, Repr

/-- The requests in the order of the chapters. -/
def ReqName.all : List ReqName :=
  [.wSet, .wTimeout, .wZero, .wTare, .wClearTare, .wCalibrate, .wStatus,
    .gLatch, .gStatus,
    .tOpen, .tData, .tClose, .tDiscard, .tActivate, .tStatus,
    .cPurge, .cStats, .cRead,
    .iOpen, .iAmend, .iRate, .iConfirm, .iCancel, .iVoid, .iStatus, .iRead, .iList, .iCounts,
    .nLoad, .nStatus,
    .bRun, .bStop, .bReset, .bStatus, .bQueue,
    .pOpen, .pClose, .pStatus, .pStats,
    .lStatus, .lStats,
    .sClockSet, .sStore, .sGet, .sStatus, .sRestart]

/-- A message code: the code of a named request, or a byte that is none (R193). -/
inductive MsgCode where
  | req (n : ReqName)
  | other (b : Byte)
deriving DecidableEq, Repr

/-- Part state (R204). -/
inductive PartState where
  | starting | ready
deriving DecidableEq, Repr

/-- Reason codes of a REFUSED reply. -/
inductive Reason where
  | badField | channelOffline | channelZeroing | channelOver | channelUnder | unstable | captureHeld
  | tareHeld | zeroRange | tareRange | notZeroed | kRange | uncalibrated | removeFirst | tooLight
  | tooHeavy | weightUnstable | gaugeNotReady | latchHeld | bankActive | bankBusy | loadOpen
  | notLoading | outOfOrder | overrun | short | discarded | writeFault | verifyFailed | noneStaged
  | positionClosed | slotBusy | noItem | busyRating | notRateable | cancelled | disturbed | notRated
  | ratingStale | clockUnset | registerFull | noNumbers | poolFull | overlap | historyFull
  | noSuchItem | stopping | estopped | estopActive | notEstopped | notStaffed | storeBusy | beltBusy
  | storeFault | starting
deriving DecidableEq, Repr

/-- The field a BAD_FIELD names. Settings fields stand in the order of R200. -/
inductive FieldName where
  | channel | milliseconds | grams | gauge | bank | length | data | kind | index
  | position | service | postcode | value | flags | tier | lines | keyed
  | number | count | firstSerial | x
  | year | month | day | hour | minute | second
  | office | homeOffset (k : Pos) (a : Axis) | induct (k : Pos) | tampOffset | diverterDistance
  | pitch | gap | releaseLength | tolerance | slowdown | acceleration | deceleration
  | labelLength | printSpeed | applyMs | lowWater | defaultTreq (k : Pos) | defaultX (k : Pos)
deriving DecidableEq, Repr

/-- The reply of W_STATUS (R22). -/
structure ChannelView where
  state : ChanState
  report : Option Report
  tare : Option Int
  capture : Option Capture
  waiting : Bool
  removal : Bool
  disturb : Option Int
  limit : Option Nat
  interlock : Bool
  zc : Int
  z0 : Option Int
  zw : Int
  k : Int
  calibration : Calibration
  n : Nat
  b : Nat
  enables : Enables
  timeout : Nat
deriving DecidableEq, Repr

/-- One axis in the reply of G_STATUS (R35). -/
structure AxisView where
  state : AxisState
  count : Int
  valid : Bool
  pair : BitVec 2
  closed : Bool
  homeOffset : Nat
  correction : Option Int
  phaseErrors : Nat
deriving DecidableEq, Repr

/-- The reply of G_STATUS (R35). -/
structure GaugeView where
  axes : Three AxisView
  button : Button
  record : Option LatchRecord
deriving DecidableEq, Repr

/-- One bank in the reply of T_STATUS (R58). -/
structure BankView where
  state : BankState
  description : Option Description
  lastResult : Option VerifyResult
  recordFault : Bool
deriving DecidableEq, Repr

/-- The reply of T_STATUS (R58). `session` is ERASING or not, declared length, received count;
`active` the header of the active summary. -/
structure TariffView where
  bankA : BankView
  bankB : BankView
  session : Option (Bool × Nat × Nat)
  queue : List Bank
  position : Option Nat
  generation : Nat
  active : Option Header
  waitingWalk : Nat
  waitingVerify : Nat
  waitingProgramming : Nat
deriving DecidableEq, Repr

/-- The reply of C_STATS (R74). `walk` is its kind (true for ZONE), generation and reads so far. -/
structure CacheView where
  stats : CacheStats
  validPoints : Nat
  validBands : Nat
  validLookasides : Nat
  pointPtr : Nat
  bandPtr : Nat
  generation : Nat
  walk : Option (Bool × Nat × Nat)
deriving DecidableEq, Repr

/-- The reply of I_STATUS for a slot that is not IDLE (R112). -/
structure SlotView where
  state : SlotState
  fields : ItemFields
  keyed : Option (Three Nat)
  latched : Option LatchRecord
  capture : Option Capture
  result : Option (RateResult × Bool)
  phase : Option (RatePhase × Byte)
deriving DecidableEq, Repr

/-- One line of the reply of I_LIST (R122). -/
structure RegLine where
  number : Nat
  position : Pos
  state : RegState
  label : Option LabelState
  reject : Option RejectReason
deriving DecidableEq, Repr

/-- The reply of I_COUNTS (R122). -/
structure CountsView where
  confirmed : Nat
  labelled : Nat
  rejected : Nat
  missing : Nat
  voided : Nat
  occupancy : Nat
deriving DecidableEq, Repr

/-- The reply of N_STATUS (R122). -/
structure PoolView where
  blocks : List SerialBlock
  remaining : Nat
  lowWater : Nat
  lowMark : Bool
  issued : List (Nat × Nat)
deriving DecidableEq, Repr

/-- The reply of B_STATUS (R137). The setpoint is in hundredths of mm/s. -/
structure BeltView where
  drive : Drive
  reason : StopReason
  runTarget : Nat
  target : Nat
  setpoint : Nat
  vmax : Nat
  enable : Bool
  estopInput : Bool
  p : Coord
  high : Coord
  measured : Int
  jamCount : Nat
  waitEntry : Option Entry
  reservations : Nat
  items : Nat
  strays : Nat
  eyes : Six EyeRecord
  applicator : EyeRecord
deriving DecidableEq, Repr

/-- One position in the reply of P_STATUS (R171). -/
structure PlaceView where
  staffed : Bool
  treq : Nat
  x : Nat
  trt : Nat
  mode : TimerMode
  late : Bool
  lamp : Bool
  defaultTreq : Nat
  defaultX : Nat
deriving DecidableEq, Repr

/-- The reply of P_STATUS (R171). -/
structure ReleaseView where
  state : RelState
  ttrt : Option Nat
  token : Option Pos
  tht : Nat
  negotiation : Nat
  pendingMark : Bool
  express : Nat
  visited : List Nat
  candidate : Option Candidate
  lit : Option LitRelease
  places : Six PlaceView
deriving DecidableEq, Repr

/-- The reply of L_STATUS (R189). `job` is item number, job timer, interrupted and waste marks;
`pad` and `tamp` come with the item number of their entry. -/
structure LabelView where
  printer : Printer
  job : Option (Nat × Nat × Bool × Bool)
  query : Nat
  pad : Pad
  padItem : Option Nat
  sensor : PadSensor
  tamp : Tamp
  tampItem : Option Nat
  diverter : Diverter
  labelLength : Nat
  printSpeed : Nat
  printMs : Nat
  applyMs : Nat
deriving DecidableEq, Repr

/-- The reply of S_STATUS (R205). -/
structure PartView where
  part : PartState
  partCode : Nat
  revision : Nat
  calendar : Option Clock
  bankA : BankState
  bankB : BankState
  source : Source
  seq : BitVec 32
  storing : Bool
  slotsHeld : Nat
  busyEntries : Nat
  notices : Nat
  drops : Nat
  frameErrors : Nat
  lostRequests : Nat
deriving DecidableEq, Repr

/-- The fields a reply carries after its status and reason. -/
inductive Fields where
  | none
  | field (f : FieldName)
  | fieldAndReceived (f : FieldName) (n : Nat)
  | settle (n b : Nat)
  | milliseconds (ms : Nat)
  | channel (v : ChannelView)
  | latch (r : LatchRecord)
  | latchFailed (axis : Axis) (states : Three AxisState)
  | gauge (v : GaugeView)
  | received (n : Nat)
  | verified (bank : Bank) (tariffId version : Nat) (effective : Minute)
  | verifyFailed (check : VerifyCheck) (record : Nat)
  | activated (bank : Bank) (tariffId version generation : Nat)
  | tariff (v : TariffView)
  | cache (v : CacheView)
  | point (e : PointEntry)
  | band (e : BandEntry)
  | lookaside (e : Lookaside)
  | result (r : RateResult)
  | confirmed (number total occupancy : Nat)
  | voided
  | voidPending
  | idleSlot
  | slot (v : SlotView)
  | regEntry (e : RegEntry)
  | regList (l : List RegLine)
  | counts (v : CountsView)
  | remaining (n : Nat)
  | serialBlock (b : SerialBlock)
  | serialRange (first last : Nat)
  | pool (v : PoolView)
  | speed (v : Nat)
  | belt (v : BeltView)
  | queue (l : List (Entry × Int))
  | release (v : ReleaseView)
  | relStats (v : RelStats)
  | label (v : LabelView)
  | labelStats (v : LabelStats)
  | clock (before : Option Clock)
  | stored (c : CopyId) (seq : BitVec 32)
  | settings (r : SettingsRecord) (seq : BitVec 32) (source : Source)
  | part (v : PartView)
deriving DecidableEq, Repr

/-- A reply held in a request slot (R195). BUSY holds no slot. -/
inductive Reply where
  | ok (f : Fields)
  | clamped (f : Fields)
  | refused (r : Reason) (f : Fields)
  | unknown
  | badLength
deriving DecidableEq, Repr

/-- The status of a reply (R195). -/
inductive Status where
  | ok | clamped | refused | busy | unknown | badLength
deriving DecidableEq, Repr

/-- What a PRINTER_STATE notice reports (R176, R177). -/
inductive PrinterEvent where
  | state | unexpectedLabel
deriving DecidableEq, Repr

/-- A notice with the fields its rule gives (R196). -/
inductive Notice where
  | weightState (channel : Pos) (event : WeightEvent) (state : ChanState) (report : Option Report)
  | itemDisturbed (position : Pos) (cause : LostCause) (before : SlotState)
  | gaugeFault (gauge : Pos) (event : GaugeEvent) (axis : Option (Axis × AxisState × Int))
  | tariffActivated (bank : Bank) (tariffId version : Nat) (effective : Minute) (generation : Nat)
      (cause : ActivationCause)
  | tariffDamaged (bank : Bank) (tariffId version generation record : Nat)
  | numbersLow (remaining blocks : Nat) (next : Option Nat)
  | beltState (drive : Drive) (reason : StopReason) (runTarget setpoint : Nat) (p : Coord)
  | jam (setpoint : Nat) (measured : Int)
  | trackingLost (p high : Coord)
  | stray (origin : Option Pos) (p front tail : Coord) (inserted : Bool) (flagged : Nat)
  | queueFull
  | releaseUnused (position : Pos) (number : Nat) (p0 p : Coord) (attempts : Nat)
  | rotationOverrun (position : Pos) (ttrt : Option Nat) (token : Option Pos) (lit : Bool)
  | printerState (event : PrinterEvent) (printer : Printer) (item : Option Nat) (pad : Pad)
  | itemClosed (number : Nat) (position : Pos) (outcome : ItemOutcome) (label : Option LabelState)
      (total : Nat)
  | settingsDefaulted (copy1 copy2 : CopyFault)
deriving DecidableEq, Repr

/-- The code a notice carries as its message code (R196). -/
def Notice.code : Notice → Nat
  | .weightState .. => 1 | .itemDisturbed .. => 2 | .gaugeFault .. => 3 | .tariffActivated .. => 4
  | .tariffDamaged .. => 5 | .numbersLow .. => 6 | .beltState .. => 7 | .jam .. => 8
  | .trackingLost .. => 9 | .stray .. => 10 | .queueFull => 11 | .releaseUnused .. => 12
  | .rotationOverrun .. => 13 | .printerState .. => 14 | .itemClosed .. => 15
  | .settingsDefaulted .. => 16

end Sys2Proof
end

