-- ==== Sys2Proof/Syntax.lean ====
section
/-! DEFINITION. The commands of the part: one constructor of `Instr` for each row of
spec/opcode_table.json, and the requests as their payload is read from a frame (R193). A request row
carries the tag of its frame; its other operands are the request's fields, unchecked. -/

namespace Sys2Proof

/-- The handling flags field of I_OPEN and I_AMEND; `other` is a flag that is none of the three (R103). -/
structure FlagField where
  fragile : Bool
  signature : Bool
  irregular : Bool
  other : Bool
deriving DecidableEq, Repr

/-- The keyed dimensions field: each of L, W and H given or not (R34, R103). -/
structure KeyedField where
  l : Option Nat
  w : Option Nat
  h : Option Nat
deriving DecidableEq, Repr

/-- The fields of I_OPEN (R102). The postcode is given by its digits. -/
structure OpenFields where
  position : Nat
  service : Nat
  postcode : List Nat
  value : Nat
  flags : FlagField
  tier : Nat
  lines : List (List Byte)
  keyed : KeyedField
deriving DecidableEq, Repr

/-- The changes of I_AMEND (R104): new values of the fields named, and the three changes by name. -/
structure AmendFields where
  position : Nat
  service : Option Nat
  postcode : Option (List Nat)
  value : Option Nat
  flags : Option FlagField
  tier : Option Nat
  lines : Option (List (List Byte))
  keyed : KeyedField
  removeKeyed : Bool
  remeasure : Bool
  reweigh : Bool
deriving DecidableEq, Repr

/-- The kind field of C_READ (R75). -/
inductive CacheKind where
  | point | band | lookaside | other
deriving DecidableEq, Repr

/-- A request as read from the payload of a frame (R193): its name and its fields. -/
inductive Request where
  | wSet (channel n b : Nat) (enables : Enables)
  | wTimeout (ms : Nat)
  | wZero (channel : Nat)
  | wTare (channel : Nat)
  | wClearTare (channel : Nat)
  | wCalibrateZero (channel : Nat)
  | wCalibrateSpan (channel grams : Nat)
  | wStatus (channel : Nat)
  | gLatch (gauge : Nat)
  | gStatus (gauge : Nat)
  | tOpen (bank : Option Bank) (length : Nat) (crc : BitVec 32)
  | tData (offset : Nat) (data : List Byte)
  | tClose
  | tDiscard (bank : Option Bank)
  | tActivate
  | tStatus
  | cPurge
  | cStats (clear : Bool)
  | cRead (kind : CacheKind) (index : Nat)
  | iOpen (f : OpenFields)
  | iAmend (f : AmendFields)
  | iRate (position : Nat)
  | iConfirm (position : Nat)
  | iCancel (position : Nat)
  | iVoid (number : List Nat)
  | iStatus (position : Nat)
  | iRead (number : List Nat)
  | iList
  | iCounts
  | nLoad (first count : Nat)
  | nStatus
  | bRun (speed : Nat)
  | bStop
  | bReset
  | bStatus
  | bQueue
  | pOpen (position : Nat) (treq x : Option Nat)
  | pClose (position : Nat)
  | pStatus
  | pStats (clear : Bool)
  | lStatus
  | lStats (clear : Bool)
  | sClockSet (c : Clock)
  | sStore (h : HostFields)
  | sGet
  | sStatus (clear : Bool)
  | sRestart
deriving DecidableEq, Repr

/-- The name of a request, which fixes its message code (R193). -/
def Request.name : Request → ReqName
  | .wSet .. => .wSet | .wTimeout .. => .wTimeout | .wZero .. => .wZero | .wTare .. => .wTare
  | .wClearTare .. => .wClearTare | .wCalibrateZero .. => .wCalibrate
  | .wCalibrateSpan .. => .wCalibrate | .wStatus .. => .wStatus
  | .gLatch .. => .gLatch | .gStatus .. => .gStatus
  | .tOpen .. => .tOpen | .tData .. => .tData | .tClose => .tClose | .tDiscard .. => .tDiscard
  | .tActivate => .tActivate | .tStatus => .tStatus
  | .cPurge => .cPurge | .cStats .. => .cStats | .cRead .. => .cRead
  | .iOpen .. => .iOpen | .iAmend .. => .iAmend | .iRate .. => .iRate | .iConfirm .. => .iConfirm
  | .iCancel .. => .iCancel | .iVoid .. => .iVoid | .iStatus .. => .iStatus | .iRead .. => .iRead
  | .iList => .iList | .iCounts => .iCounts | .nLoad .. => .nLoad | .nStatus => .nStatus
  | .bRun .. => .bRun | .bStop => .bStop | .bReset => .bReset | .bStatus => .bStatus
  | .bQueue => .bQueue
  | .pOpen .. => .pOpen | .pClose .. => .pClose | .pStatus => .pStatus | .pStats .. => .pStats
  | .lStatus => .lStatus | .lStats .. => .lStats
  | .sClockSet .. => .sClockSet | .sStore .. => .sStore | .sGet => .sGet | .sStatus .. => .sStatus
  | .sRestart => .sRestart

/-- What dispatch reads in a payload (R193): no known message code, a known code with a payload of the
wrong length, or a request. -/
inductive Reading where
  | unknown
  | badLength (n : ReqName)
  | request (r : Request)
deriving DecidableEq, Repr

/-- The commands: one constructor for each row of spec/opcode_table.json. -/
inductive Instr where
  -- weighing channels
  | sampleArrival (channel : Pos) (raw : BitVec 24)
  | sampleTimerExpiry (channel : Pos)
  | captureTimeout (channel : Pos)
  | wSet (tag : Byte) (channel n b : Nat) (enables : Enables)
  | wTimeout (tag : Byte) (ms : Nat)
  | wZero (tag : Byte) (channel : Nat)
  | wTare (tag : Byte) (channel : Nat)
  | wClearTare (tag : Byte) (channel : Nat)
  | wCalibrateZero (tag : Byte) (channel : Nat)
  | wCalibrateSpan (tag : Byte) (channel grams : Nat)
  | wStatus (tag : Byte) (channel : Nat)
  -- dimension gauges
  | encoderStep (gauge : Pos) (axis : Axis) (pair : BitVec 2)
  | homeEvent (gauge : Pos) (axis : Axis)
  | buttonPress (gauge : Pos)
  | buttonRelease (gauge : Pos)
  | gLatch (tag : Byte) (gauge : Nat)
  | gStatus (tag : Byte) (gauge : Nat)
  -- tariff controller; `delivered` absent means the bytes as the memory holds them
  | tOpen (tag : Byte) (bank : Option Bank) (length : Nat) (crc : BitVec 32)
  | tData (tag : Byte) (offset : Nat) (data : List Byte)
  | tClose (tag : Byte)
  | tDiscard (tag : Byte) (bank : Option Bank)
  | tActivate (tag : Byte)
  | tStatus (tag : Byte)
  | programmingAccessComplete (success : Bool)
  | verificationReadComplete (delivered : Option (List Byte))
  | walkReadComplete (delivered : Option (List Byte))
  -- rate cache
  | cPurge (tag : Byte)
  | cStats (tag : Byte) (clear : Bool)
  | cRead (tag : Byte) (kind : CacheKind) (index : Nat)
  -- items and numbers; an item number is given by its digits
  | iOpen (tag : Byte) (f : OpenFields)
  | iAmend (tag : Byte) (f : AmendFields)
  | iRate (tag : Byte) (position : Nat)
  | iConfirm (tag : Byte) (position : Nat)
  | iCancel (tag : Byte) (position : Nat)
  | iVoid (tag : Byte) (number : List Nat)
  | iStatus (tag : Byte) (position : Nat)
  | iRead (tag : Byte) (number : List Nat)
  | iList (tag : Byte)
  | iCounts (tag : Byte)
  | nLoad (tag : Byte) (first count : Nat)
  | nStatus (tag : Byte)
  -- belt drive and tracking
  | beltEncoderCount (forward : Bool)
  | speedWindowEnd
  | rampStep
  | bRun (tag : Byte) (speed : Nat)
  | bStop (tag : Byte)
  | bReset (tag : Byte)
  | bStatus (tag : Byte)
  | bQueue (tag : Byte)
  | emergencyStopAsserted
  | emergencyStopReleased
  | inductEyeFrontEdge (eye : Pos)
  | inductEyeTrailingEdge (eye : Pos)
  | applicatorEyeFrontEdge
  | applicatorEyeTrailingEdge
  -- induction release
  | pOpen (tag : Byte) (position : Nat) (treq x : Option Nat)
  | pClose (tag : Byte) (position : Nat)
  | pStatus (tag : Byte)
  | pStats (tag : Byte) (clear : Bool)
  | negotiationTimerExpiry
  | rotationTimerExpiry (position : Pos)
  | tokenPass
  | thtExpiry
  | expressWaitExpiry
  -- labels, applicator and diverter
  | printerReadyReport
  | printerPresentedReport
  | printerFaultReport (kind : ReportedFault)
  | jobTimerExpiry
  | queryTimerExpiry
  | tampExtendEnd
  | tampDwellEnd
  | tampRetractEnd (sensor : PadSensor)
  | lStatus (tag : Byte)
  | lStats (tag : Byte) (clear : Bool)
  -- host link, calendar, settings, resets
  | frameReceived (byte : Byte)
  | byteFramingError
  | byteGapTimeout
  | transmitFrameEnd
  | calendarSecond
  | sClockSet (tag : Byte) (c : Clock)
  | sStore (tag : Byte) (h : HostFields)
  | storeWriteComplete (success : Bool)
  | sGet (tag : Byte)
  | sStatus (tag : Byte) (clear : Bool)
  | sRestart (tag : Byte)
  | powerOnReset (sensor : PadSensor)
  | pinReset (sensor : PadSensor)
  | byteReceived (byte : Byte)
  | homeSwitchOpened (gauge : Pos) (axis : Axis)
  | resetLineAsserted
  | powerLoss
deriving DecidableEq, Repr

/-- The request a row of the host's requests carries; absent for an event. -/
def Instr.request : Instr → Option (Byte × Request)
  | .wSet t c n b e => some (t, .wSet c n b e)
  | .wTimeout t ms => some (t, .wTimeout ms)
  | .wZero t c => some (t, .wZero c)
  | .wTare t c => some (t, .wTare c)
  | .wClearTare t c => some (t, .wClearTare c)
  | .wCalibrateZero t c => some (t, .wCalibrateZero c)
  | .wCalibrateSpan t c g => some (t, .wCalibrateSpan c g)
  | .wStatus t c => some (t, .wStatus c)
  | .gLatch t g => some (t, .gLatch g)
  | .gStatus t g => some (t, .gStatus g)
  | .tOpen t b l c => some (t, .tOpen b l c)
  | .tData t o d => some (t, .tData o d)
  | .tClose t => some (t, .tClose)
  | .tDiscard t b => some (t, .tDiscard b)
  | .tActivate t => some (t, .tActivate)
  | .tStatus t => some (t, .tStatus)
  | .cPurge t => some (t, .cPurge)
  | .cStats t c => some (t, .cStats c)
  | .cRead t k i => some (t, .cRead k i)
  | .iOpen t f => some (t, .iOpen f)
  | .iAmend t f => some (t, .iAmend f)
  | .iRate t p => some (t, .iRate p)
  | .iConfirm t p => some (t, .iConfirm p)
  | .iCancel t p => some (t, .iCancel p)
  | .iVoid t n => some (t, .iVoid n)
  | .iStatus t p => some (t, .iStatus p)
  | .iRead t n => some (t, .iRead n)
  | .iList t => some (t, .iList)
  | .iCounts t => some (t, .iCounts)
  | .nLoad t f c => some (t, .nLoad f c)
  | .nStatus t => some (t, .nStatus)
  | .bRun t v => some (t, .bRun v)
  | .bStop t => some (t, .bStop)
  | .bReset t => some (t, .bReset)
  | .bStatus t => some (t, .bStatus)
  | .bQueue t => some (t, .bQueue)
  | .pOpen t p q x => some (t, .pOpen p q x)
  | .pClose t p => some (t, .pClose p)
  | .pStatus t => some (t, .pStatus)
  | .pStats t c => some (t, .pStats c)
  | .lStatus t => some (t, .lStatus)
  | .lStats t c => some (t, .lStats c)
  | .sClockSet t c => some (t, .sClockSet c)
  | .sStore t h => some (t, .sStore h)
  | .sGet t => some (t, .sGet)
  | .sStatus t c => some (t, .sStatus c)
  | .sRestart t => some (t, .sRestart)
  | .sampleArrival .. | .sampleTimerExpiry .. | .captureTimeout .. | .encoderStep .. | .homeEvent ..
  | .buttonPress .. | .buttonRelease .. | .programmingAccessComplete .. | .verificationReadComplete ..
  | .walkReadComplete .. | .beltEncoderCount .. | .speedWindowEnd | .rampStep
  | .emergencyStopAsserted | .emergencyStopReleased | .inductEyeFrontEdge ..
  | .inductEyeTrailingEdge .. | .applicatorEyeFrontEdge | .applicatorEyeTrailingEdge
  | .negotiationTimerExpiry | .rotationTimerExpiry .. | .tokenPass | .thtExpiry | .expressWaitExpiry
  | .printerReadyReport | .printerPresentedReport | .printerFaultReport .. | .jobTimerExpiry
  | .queryTimerExpiry | .tampExtendEnd | .tampDwellEnd | .tampRetractEnd .. | .frameReceived ..
  | .byteFramingError | .byteGapTimeout | .transmitFrameEnd | .calendarSecond
  | .storeWriteComplete .. | .powerOnReset .. | .pinReset .. | .byteReceived ..
  | .homeSwitchOpened .. | .resetLineAsserted | .powerLoss => none

end Sys2Proof
end

