-- ==== Sys2Proof/Config.lean ====
section
/-! DEFINITION. What is fixed for the part: the constants the manual states, and the values it leaves
open, which are opaque constants without a body (free values): nothing can be proved of them but that
each is some value of its type. A free value read afresh is a constant here applied to
`State.fresh`, which the read advances. -/

namespace Sys2Proof.Config

/-- Bytes of tariff memory (R37). -/
def flashBytes : Nat := 8388608
/-- Bytes of the image area of a bank (R37). -/
def imageBytes : Nat := 4190208
/-- Bytes of an erase sector (R37). -/
def sectorBytes : Nat := 4096
/-- Bytes of a program page (R37). -/
def pageBytes : Nat := 256
/-- Most bytes of a verification read (R51). -/
def verifyBytes : Nat := 256
/-- Most bytes of a T_DATA piece (R47). -/
def pieceBytes : Nat := 512
/-- Largest payload of a frame (R191). -/
def payloadBytes : Nat := 1024
/-- Entries of the BUSY list at most (R194). -/
def busyEntries : Nat := 8
/-- Notices held in the notice queue at most (R196). -/
def noticeEntries : Nat := 64
/-- Register entries at most (R118). -/
def registerEntries : Nat := 32
/-- Blocks of the number pool at most (R113). -/
def poolBlocks : Nat := 4
/-- Ranges of the issued record at most (R114, R115). -/
def issuedRanges : Nat := 64
/-- Largest serial (R114). -/
def lastSerial : Nat := 9999999
/-- Tracking queue entries at most (R140). -/
def queueEntries : Nat := 24
/-- Maximum item length Lmax, mm (R138). -/
def itemLength : Nat := 1500
/-- Reversal distance, mm (R125). -/
def reversal : Int := 50
/-- Creep speed, mm/s (R127). -/
def creepSpeed : Nat := 100
/-- Spare travel each side of the diverter, mm (R149, R187). -/
def spare : Nat := 100
/-- Sample timer, ms (R1). -/
def samplePeriod : Nat := 20
/-- Missed samples that make a channel OFFLINE (R1). -/
def offlineMisses : Nat := 10
/-- Period of the ramp, ms (R128). -/
def rampPeriod : Nat := 10
/-- Length of a speed window, ms (R126). -/
def speedPeriod : Nat := 100
/-- Negotiation period, ms (R156). -/
def negotiationPeriod : Nat := 100
/-- Express wait, ms (R163). -/
def expressWait : Nat := 1000
/-- Query period in FAULT, ms (R176). -/
def queryPeriod : Nat := 1000
/-- Time allowed to a job beyond print_ms, ms (R175). -/
def jobSlack : Nat := 500
/-- Byte gap timer, ms (R192). -/
def byteGap : Nat := 10
/-- Largest money amount a result may hold, minor units (R92, R93, R95, R97). -/
def priceLimit : Nat := 99999999
/-- A 32-bit statistic stops here. -/
def stat32 : Nat := 4294967295
/-- A 16-bit count stops here. -/
def stat16 : Nat := 65535
/-- The part code of S_STATUS (R205). -/
def partCode : Nat := 6120

/-- FREE VALUE (log 30): the part's revision number (R205). The manual does not give it. -/
opaque revision : Nat

/-- FREE VALUE (log 7): an order of the 256 bytes that gives the requests their message codes. The manual
gives no code, but one of its own to each request (R193), and an order gives no byte to two. -/
opaque codeOrder : Equiv.Perm Byte

/-- The message code of a request: the byte that `codeOrder` has at its place in `ReqName.all` (R193). -/
def messageCode (n : ReqName) : Byte := codeOrder (BitVec.ofNat 8 (ReqName.all.idxOf n))

/-- FREE VALUE (log 7): the request that the bytes after a request's message code spell, or none where their
number is wrong for it or for the counts and lengths among them (R193). The manual gives no layout of fields.
`readPayload` asks it only of a request that has fields. -/
opaque readFields : (n : ReqName) → (fields : List Byte) → Option { r : Request // r.name = n }

/-- FREE VALUE (log 7): the byte of a status in a reply (R195). The manual gives its size, one byte, with the
BUSY frame of 9 bytes: 7 of frame and a payload of message code and status. -/
opaque statusByte : Status → Byte

/-- FREE VALUE (log 7): the bytes of a reason code in a reply (R195). -/
opaque reasonBytes : Reason → List Byte

/-- FREE VALUE (log 7): the bytes of a reply's fields (R195). -/
opaque replyFieldBytes : Fields → List Byte

/-- FREE VALUE (log 7): the bytes of a notice's fields (R196). -/
opaque noticeFieldBytes : Notice → List Byte

/-- FREE VALUE (log 55): the bytes of a copy of the settings record that its CRC-16 covers: the format's
marker, the sequence number and the fields (R200). The manual gives neither the marker nor the layout. -/
opaque settingsBytes : (seq : BitVec 32) → SettingsRecord → List Byte

/-- FREE VALUE (log 6): the bytes of a bank state record that its CRC-16 covers: the format's marker and the
fields (R38). The manual gives neither the marker nor the layout. -/
opaque recordBytes : RecordFields → List Byte

/-- FREE VALUE (log 9): a reading of the pad sensor that no command carries. -/
opaque padSensor : Nat → PadSensor

/-- FREE VALUE (log 22): a byte of tariff memory in a sector or page whose erase or program failed or
was cut short: the n-th such access leaves `failedByte n address`. -/
opaque failedByte : Nat → Nat → Byte

/-- FREE VALUE (log 22): what a state record sector holds after an erase or program of it failed: a record,
its marker and CRC-16 right or wrong, or none when it is erased. -/
opaque failedRecord : Nat → Option StateRecord

/-- FREE VALUE (log 22): whether a state record sector whose erase a reset cut short already reads as
erased (R38, R59). -/
opaque eraseTookHold : Nat → Bool

/-- FREE VALUE (log 35): a byte a walk read delivers from beyond the image area of its bank. -/
opaque strayByte : Nat → Nat → Byte

/-- FREE VALUE (log 23): what a settings copy holds after a write of it failed or was cut short, where that
is invalid (R201, R203). -/
opaque failedCopy : Nat → Copy

end Sys2Proof.Config
end

