-- ==== Sys2Proof/Machine/State.lean ====
section
/-! DEFINITION. The state of the part, as plain data: every piece of state the spec gives each block, the
queue of waiting commands, and the state after reset. A field's default value is its value after a
reset (R23, R36, R59, R76, R100, R123, R152, R172, R190, R206), with the default settings of R200 where
the settings record gives it. -/

namespace Sys2Proof.Machine

/-! ## Why a step can stop -/

/-- Why a step stops with a fault: the type has no constructor, since no rule of the manual stops the part
and no command faults. -/
inductive Fault where
deriving DecidableEq, Repr

/-- Why a step is refused. -/
inductive Refusal where
  /-- Raised by exec for a command that has no meaning yet. Safe. No command is refused so now. -/
  | notModelled (mnemonic : String)
deriving DecidableEq, Repr

/-! ## Weighing (01_weighing_channels.md, R23) -/

/-- One weighing channel. -/
structure Channel where
  zc : Int := 0
  k : Int := 500000
  calibration : Calibration := .uncalibrated
  z0 : Option Int := none
  zw : Int := 0
  window : List Int := []
  settled : Bool := false
  n : Nat := 10
  b : Nat := 1
  missCount : Nat := 0
  sampleTimer : Nat := Config.samplePeriod
  state : ChanState := .offline
  report : Option Report := none
  tare : Option Int := none
  capture : Option Capture := none
  waiting : Option Nat := none
  removal : Bool := false
  disturb : Option Int := none
  limit : Option Nat := none
  interlock : Bool := false
  enables : Enables := .factory
  zeroRangeSent : Bool := false
deriving DecidableEq, Repr

/-- The Weighing Unit: six channels and the capture timeout of all of them (R7). -/
structure Weighing where
  channels : Six Channel := .fill {}
  timeout : Nat := 3000
deriving DecidableEq, Repr

/-! ## Gauges (02_dimension_gauges.md, R36) -/

/-- One axis. `pair` is the held phase pair and `closed` the home switch line; both follow lines of the
field and are read again at a reset. The home offset stands in the settings. -/
structure AxisRec where
  pair : BitVec 2 := 0
  closed : Bool := false
  count : Int := 0
  state : AxisState := .unreferenced
  correction : Option Int := none
  phaseErrors : Nat := 0
deriving DecidableEq, Repr

/-- One gauge. `button` follows the filtered button line and is read again at a reset. -/
structure Gauge where
  axes : Three AxisRec := .fill {}
  record : Option LatchRecord := none
  button : Button := .released
deriving DecidableEq, Repr

/-! ## Tariff controller (03_tariff_image_and_banks.md, R59) -/

/-- What the controller keeps of one bank. `eraseFailed` marks that the erase of the record rewrite now in
hand failed, so that its program does not clear the record fault mark (R50). -/
structure BankRec where
  state : BankState := .empty
  description : Option Description := none
  lastResult : Option VerifyResult := none
  recordFault : Bool := false
  eraseFailed : Bool := false
deriving DecidableEq, Repr

/-- The load session. `id` is the model's number for it, `slot` the request slot of its T_OPEN. -/
structure Session where
  bank : Bank
  id : Nat
  length : Nat
  crc : BitVec 32
  received : Nat
  erasing : Bool
  erasesLeft : Nat
  slot : SlotId
deriving DecidableEq, Repr

/-- An accepted T_DATA whose page programs have not all completed (R47). -/
structure DataWait where
  session : Nat
  bank : Bank
  slot : SlotId
  received : Nat
  left : Nat
deriving DecidableEq, Repr

/-- A bank in the verifier queue, with the slot of its T_CLOSE (R48). -/
structure VerifyWait where
  bank : Bank
  session : Nat
  slot : SlotId
deriving DecidableEq, Repr

/-- The verification in progress (R51). `got` bytes have been read; `buf` holds those not yet taken into a
record, the first of them at image offset `at_`; `record` is the number of the next record. The rest
is what the records taken so far have given. -/
structure Verify where
  bank : Bank
  length : Nat
  crc : BitVec 32
  startUp : Bool
  got : Nat := 0
  buf : List Byte := []
  at_ : Nat := 0
  record : Nat := 1
  group : Nat := 0
  sum : BitVec 32 := 0xFFFFFFFF
  header : Option Header := none
  services : List Service := []
  zones : Nat := 0
  lastHigh : Option Nat := none
  ladders : Nat := 0
  surcharges : List Surcharge := []
deriving DecidableEq, Repr

/-- The Tariff Controller. -/
structure Tariff where
  banks : Two BankRec := .fill {}
  session : Option Session := none
  writes : List DataWait := []
  queue : List VerifyWait := []
  verify : Option Verify := none
  scanning : List Bank := []
  staged : Option Summary := none
  active : Option Summary := none
  generation : Nat := 0
  recordSeq : BitVec 32 := 0
  sessions : Nat := 0
deriving DecidableEq, Repr

/-- The image areas as cells, erased bytes not listed, and the two state record sectors: the record a
sector holds, its marker and CRC-16 right or wrong, or none when it is erased (R37, R38). Non-volatile. -/
structure Flash where
  cells : List Host.Cell := []
  records : Two (Option StateRecord) := .fill none
deriving DecidableEq, Repr

/-- An access of the tariff memory port (R57). Offsets count from the first byte of the bank's image area. -/
inductive Access where
  | walk (bank : Bank) (offset : Nat)
  | verification (bank : Bank) (offset count : Nat)
  | erase (bank : Bank) (sector : Nat) (session : Nat)
  | program (bank : Bank) (offset : Nat) (bytes : List Byte) (session : Nat) (slot : SlotId)
  | recordErase (bank : Bank)
  | recordProgram (bank : Bank) (record : StateRecord)
deriving DecidableEq, Repr

/-- The tariff memory port: the access in progress and those waiting, by class (R57). -/
structure Port where
  current : Option Access := none
  walk : Option Access := none
  verification : Option Access := none
  programming : List Access := []
deriving DecidableEq, Repr

/-! ## Rate cache and rating (04 R76, 05 R100) -/

/-- Where a walk stands (R67, R68). -/
inductive WalkStage where
  | zone (lo hi : Nat)
  | service
  | ladder (maxWeight : Nat)
deriving DecidableEq, Repr

/-- The walk in progress (R65): its lookup, the bank and generation recorded, where it stands, the image
offset and number of the record being read, reads made, retry mark, and what the active summary gave
at its start. -/
structure Walk where
  lookup : Lookup
  bank : Bank
  generation : Nat
  stage : WalkStage
  place : Nat
  record : Nat
  reads : Nat
  retry : Bool
  services : Nat
  ladderRecords : List Nat
deriving DecidableEq, Repr

/-- The Rate Cache and Walk Unit. -/
structure Cache where
  points : Vector PointEntry 48 := Vector.replicate 48 {}
  bands : Vector BandEntry 8 := Vector.replicate 8 {}
  lookasides : Six Lookaside := .fill {}
  pointPtr : Fin 48 := 0
  bandPtr : Fin 8 := 0
  walk : Option Walk := none
  waiting : Option Lookup := none
  stats : CacheStats := {}
deriving DecidableEq, Repr

/-- A rating request (R77). -/
structure RateRequest where
  position : Pos
  wt : Nat
  dims : Three Nat
  keyed : Bool
  service : Nat
  postcode : Nat
  value : Nat
  fragile : Bool
  signature : Bool
  irregular : Bool
  tier : Nat
deriving DecidableEq, Repr

/-- The rating in progress, which waits for a lookup: its request, the tariff values it took at its
start, and the result so far. It waits for a price once the result has its zone (R79, R86). -/
structure RatingRun where
  req : RateRequest
  tariff : Summary
  service : Service
  result : RateResult
deriving DecidableEq, Repr

/-- The Rating Unit. -/
structure Rating where
  pendingList : List RateRequest := []
  lastServed : Pos := .p6
  current : Option RatingRun := none
  orphan : Option Lookup := none
deriving DecidableEq, Repr

/-! ## Items (06_items_and_numbers.md, R123) -/

/-- The item of an open-item slot (R101). -/
structure OpenItem where
  fields : ItemFields
  keyed : Option (Three Nat) := none
  capture : Option Capture := none
  latched : Option LatchRecord := none
deriving DecidableEq, Repr

/-- An open-item slot with what it holds in each state (R101). In RATING, `slot` is the request slot of
the I_RATE served. -/
inductive OpenSlot where
  | idle
  | opened (it : OpenItem)
  | rating (it : OpenItem) (phase : RatePhase) (slot : SlotId)
  | rated (it : OpenItem) (result : RateResult) (stale : Bool)
deriving DecidableEq, Repr

/-- The Item Manager. -/
structure Items where
  slots : Six OpenSlot := .fill .idle
  register : List RegEntry := []
  pool : List SerialBlock := []
  issued : List (Nat × Nat) := []
  lowMark : Bool := true
  confirmed : Nat := 0
  labelled : Nat := 0
  rejected : Nat := 0
  missing : Nat := 0
  voided : Nat := 0
deriving DecidableEq, Repr

/-! ## Belt (07_belt_drive_and_tracking.md, R152) -/

/-- The Belt Controller. `setpoint` is in hundredths of mm/s. The geometry and ramp rates in force stand
in the settings. The `blocked` field of an eye record follows the eye's line. -/
structure Belt where
  drive : Drive := .stopped
  reason : StopReason := .none
  runTarget : Nat := 0
  target : Nat := 0
  setpoint : Nat := 0
  waitEntry : Option Nat := none
  p : Coord := 0
  sub : BitVec 2 := 0
  high : Coord := 0
  measured : Int := 0
  windowCount : Int := 0
  jamCount : Nat := 0
  eyes : Six EyeRecord := .fill {}
  applicator : EyeRecord := {}
  queue : List Entry := []
  nextId : Nat := 0
deriving DecidableEq, Repr

/-! ## Release (08_induction_release.md, R172) -/

/-- What the Release Controller keeps of one position. A rotation timer comes out of a reset at 0 (log 68). -/
structure Place where
  staffed : Bool := false
  treq : Nat := 10000
  x : Nat := 1
  trt : Nat := 0
  mode : TimerMode := .stopped
  late : Bool := false
deriving DecidableEq, Repr

/-- The Release Controller. Lamp k is lit exactly while `lit` is at k. -/
structure Release where
  state : RelState := .idle
  negotiation : Nat := 0
  pendingMark : Bool := false
  ttrt : Option Nat := none
  token : Option Pos := none
  places : Six Place := .fill {}
  tht : Nat := 0
  express : Nat := 0
  visited : List Nat := []
  waitMark : Bool := false
  candidate : Option Candidate := none
  lit : Option LitRelease := none
  stats : RelStats := {}
deriving DecidableEq, Repr

/-! ## Labels (09_labels_applicator_and_diverter.md, R190) -/

/-- The Label Unit. `sent` is the last message sent to the printer. -/
structure LabelUnit where
  printer : Printer := .fault .unknown
  job : Option Job := none
  query : Nat := Config.queryPeriod
  pad : Pad := .empty
  tamp : Tamp := .retracted
  diverter : Diverter := .pass
  stats : LabelStats := {}
  sent : Option PrinterMessage := some .query
deriving DecidableEq, Repr

/-! ## Link, time, settings (10_host_link_calendar_and_settings.md, R206) -/

/-- The receiver (R192): the bytes gathered stand from the first byte of the payload length on. -/
inductive Receiver where
  | hunting
  | inFrame (bytes : List Byte)
deriving DecidableEq, Repr

/-- The phase of a held request slot; REPLY_READY holds the reply. -/
inductive SlotPhase where
  | serving
  | replyReady (r : Reply)
deriving DecidableEq, Repr

/-- A held request slot (R193, R194). -/
structure ReqSlot where
  tag : Byte
  code : MsgCode
  phase : SlotPhase
deriving DecidableEq, Repr

/-- Something that waits to leave as a reply: a slot in REPLY_READY, or a BUSY list entry (R195). -/
inductive ReadyItem where
  | slot (i : SlotId)
  | busy (tag : Byte) (code : MsgCode)
deriving DecidableEq, Repr

/-- A frame being sent (R195, R196). -/
inductive Frame where
  | reply (i : SlotId)
  | busy (tag : Byte) (code : MsgCode)
  | notice (seq : Byte) (drops : Nat) (n : Notice)
deriving DecidableEq, Repr

/-- The transmitter. -/
inductive Transmitter where
  | idle
  | sending (f : Frame)
deriving DecidableEq, Repr

/-- The Link Controller. `ready` is the reply order and the BUSY list in one order of readiness; the item
being sent stays at its head until its last byte has gone. The byte gap timer is 0 after a reset and while
HUNTING (log 68). -/
structure Link where
  receiver : Receiver := .hunting
  gap : Nat := 0
  slots : Vector (Option ReqSlot) 8 := Vector.replicate 8 none
  ready : List ReadyItem := []
  notices : List Notice := []
  drops : Nat := 0
  noticeSeq : Byte := 0
  transmitter : Transmitter := .idle
  frameErrors : Nat := 0
  lostRequests : Nat := 0
  part : PartState := .starting
  restartSlot : Option SlotId := none
deriving DecidableEq, Repr

/-- The Time Base: the calendar (absent while UNSET), its millisecond phase, and the milliseconds to the
next ramp step and the end of the speed window. A power-on or pin reset starts the phase at 0 (log 68). -/
structure Time where
  calendar : Option Clock := none
  msPhase : Nat := 0
  rampIn : Nat := Config.rampPeriod
  speedIn : Nat := Config.speedPeriod
deriving DecidableEq, Repr

/-- A store in progress (R202). -/
structure Store where
  copy : CopyId
  record : SettingsRecord
  seq : BitVec 32
  slot : SlotId
deriving DecidableEq, Repr

/-- The Settings Store: the two non-volatile copies, the source and sequence number of the record in
force, the host fields in force, and the store in progress. -/
structure Settings where
  copy1 : Copy := .blank
  copy2 : Copy := .blank
  source : Source := .defaulted
  seq : BitVec 32 := 0
  host : HostFields := .default
  store : Option Store := none
deriving DecidableEq, Repr

/-- Input lines that no block's register holds: emergency stop input asserted, power good, external reset
line asserted. -/
structure Pins where
  estop : Bool := false
  powerGood : Bool := true
  resetLine : Bool := false
deriving DecidableEq, Repr

/-- The state of the part. `fresh` counts the free values read; `pending` is the queue of commands that
wait, first in, first out. -/
structure State where
  pins : Pins := {}
  weighing : Weighing := {}
  gauges : Six Gauge := .fill {}
  tariff : Tariff := {}
  flash : Flash := {}
  port : Port := {}
  cache : Cache := {}
  rating : Rating := {}
  items : Items := {}
  belt : Belt := {}
  release : Release := {}
  label : LabelUnit := {}
  link : Link := {}
  time : Time := {}
  settings : Settings := {}
  fresh : Nat := 0
  pending : List Instr := []
deriving DecidableEq, Repr

/-- The part right after a power-on reset with blank non-volatile memories (log 3). Every field has the
value its chapter gives for a reset. The store has offered SETTINGS_DEFAULTED (R201) and the idle
transmitter has taken it, and the scan of blank state records has ended, so the part is READY (R59,
R204). -/
def State.reset : State :=
  { link :=
      { part := .ready
        noticeSeq := 1
        transmitter := .sending (.notice 0 0 (.settingsDefaulted .marker .marker)) } }

end Sys2Proof.Machine
end

