-- ==== Sys2Proof/Machine/Arith.lean ====
section
/-! DEFINITION. Arithmetic the chapters share: named roundings, limits, saturating counts, belt
coordinates, the calendar, check digits and the two CRCs. -/

namespace Sys2Proof

/-! ## Rounding (00_scope.md, Units and quantities) -/

/-- `num / den` rounded half away from zero, for den above 0. -/
def roundHalfAway (num : Int) (den : Nat) : Int :=
  if num < 0 then -((2 * (-num) + den) / (2 * den)) else (2 * num + den) / (2 * den)

/-- `num / den` rounded up. -/
def ceilDiv (num den : Nat) : Nat := (num + den - 1) / den

/-- `num / den` rounded half up. -/
def roundHalfUp (num den : Nat) : Nat := (2 * num + den) / (2 * den)

/-- The multiple of m nearest n, halves up. -/
def nearestMultiple (n m : Nat) : Nat := (2 * n + m) / (2 * m) * m

/-- `v` raised to `lo` or lowered to `hi`. -/
def limit (lo hi v : Nat) : Nat := max lo (min hi v)

/-- A count that stops at `top`. -/
def bump (top n : Nat) : Nat := if n < top then n + 1 else n

/-- floor of the square root of `n`, found bit by bit from bit `bits - 1` down, for `n` below 4 ^ bits. -/
def sqrtBits : Nat → Nat → Nat → Nat
  | 0, _, acc => acc
  | bits + 1, n, acc =>
    if (acc + 2 ^ bits) * (acc + 2 ^ bits) ≤ n then sqrtBits bits n (acc + 2 ^ bits)
    else sqrtBits bits n acc

/-- floor of the square root of `n`, for `n` below 4 ^ 16. -/
def floorSqrt (n : Nat) : Nat := sqrtBits 16 n 0

/-! ## Belt coordinates (00_scope.md, Belt coordinates) -/

/-- `a - b` modulo 2^32 read as a signed number: how far a lies beyond b. -/
def ahead (a b : Coord) : Int := (a - b).toInt

/-- A coordinate `mm` millimetres beyond `a`. -/
def Coord.beyond (a : Coord) (mm : Nat) : Coord := a + BitVec.ofNat 32 mm

/-- A coordinate `mm` millimetres short of `a`. -/
def Coord.short (a : Coord) (mm : Nat) : Coord := a - BitVec.ofNat 32 mm

/-- Two stretches overlap when each one's start lies at or short of the other's end (R139). -/
def stretchesOverlap (front₁ tail₁ front₂ tail₂ : Coord) : Bool :=
  ahead front₁ tail₂ ≤ 0 && ahead front₂ tail₁ ≤ 0

/-- `p` lies within the span from `a` to `b`, both ends included. -/
def within (p a b : Coord) : Bool := ahead a p ≤ 0 && ahead p b ≤ 0

/-! ## Calendar (R197, R198) -/

/-- Every year from 2000 to 2099 divisible by 4 has 29 February. -/
def leapYear (y : Nat) : Bool := y % 4 == 0

/-- Days of a month; 0 for a number that is no month. -/
def daysIn (year month : Nat) : Nat :=
  match month with
  | 1 => 31 | 2 => if leapYear year then 29 else 28 | 3 => 31 | 4 => 30 | 5 => 31 | 6 => 30
  | 7 => 31 | 8 => 31 | 9 => 30 | 10 => 31 | 11 => 30 | 12 => 31 | _ => 0

/-- A calendar minute that exists, in 2000 to 2099. -/
def Minute.valid (m : Minute) : Bool :=
  2000 ≤ m.year && m.year ≤ 2099 && 1 ≤ m.month && m.month ≤ 12 &&
  1 ≤ m.day && m.day ≤ daysIn m.year m.month && m.hour ≤ 23 && m.minute ≤ 59

/-- The order of calendar minutes as the order of numbers. -/
def Minute.key (m : Minute) : Nat :=
  (((m.year * 13 + m.month) * 32 + m.day) * 24 + m.hour) * 60 + m.minute

/-- `a` is at or before `b`. -/
def Minute.atOrBefore (a b : Minute) : Bool := a.key ≤ b.key

/-- The next calendar minute; none beyond 31 December 2099, 23:59. -/
def Minute.next (m : Minute) : Option Minute :=
  if m.minute < 59 then some { m with minute := m.minute + 1 }
  else if m.hour < 23 then some { m with hour := m.hour + 1, minute := 0 }
  else if m.day < daysIn m.year m.month then some { m with day := m.day + 1, hour := 0, minute := 0 }
  else if m.month < 12 then some { m with month := m.month + 1, day := 1, hour := 0, minute := 0 }
  else if m.year < 2099 then some ⟨m.year + 1, 1, 1, 0, 0⟩
  else none

/-- The calendar one second on; none where it becomes UNSET (R197). -/
def Clock.next (c : Clock) : Option Clock :=
  if c.second < 59 then some { c with second := c.second + 1 }
  else c.minute.next.map (fun m => ⟨m, 0⟩)

/-! ## Bytes, most significant first (R40, R191) -/

/-- The byte at an offset. -/
def byteAt (bs : List Byte) (i : Nat) : Nat := (bs.getD i 0).toNat

/-- The two-byte number at an offset. -/
def word16 (bs : List Byte) (i : Nat) : Nat := byteAt bs i * 256 + byteAt bs (i + 1)

/-- The four-byte number at an offset. -/
def word32 (bs : List Byte) (i : Nat) : Nat := word16 bs i * 65536 + word16 bs (i + 2)

/-- One bit of the CRC-16: generator x^16 + x^12 + x^5 + 1, most significant first (R40). -/
def crc16Bit (c : BitVec 16) : BitVec 16 := if c.msb then (c <<< 1) ^^^ 0x1021#16 else c <<< 1

/-- `f` applied n times. -/
def times {α : Type} (f : α → α) : Nat → α → α
  | 0, x => x
  | n + 1, x => times f n (f x)

/-- One byte of the CRC-16. -/
def crc16Byte (c : BitVec 16) (b : Byte) : BitVec 16 :=
  times crc16Bit 8 (c ^^^ ((b.setWidth 16) <<< 8))

/-- The CRC-16 of records and frames: initial value all ones, result not inverted (R40, R191). -/
def crc16 (bs : List Byte) : BitVec 16 := bs.foldl crc16Byte 0xFFFF#16

/-- One bit of the CRC-32, least significant first (R40). -/
def crc32Bit (c : BitVec 32) : BitVec 32 :=
  if c.getLsbD 0 then (c >>> 1) ^^^ 0xEDB88320#32 else c >>> 1

/-- One byte of the CRC-32. -/
def crc32Byte (c : BitVec 32) (b : Byte) : BitVec 32 := times crc32Bit 8 (c ^^^ b.setWidth 32)

/-- The running CRC-32 after further bytes. -/
def crc32More (c : BitVec 32) (bs : List Byte) : BitVec 32 := bs.foldl crc32Byte c

/-- The CRC-32 of an image: initial value all ones, result inverted (R40). -/
def crc32 (bs : List Byte) : BitVec 32 := ~~~ (crc32More 0xFFFFFFFF#32 bs)

/-! ## Item numbers (R117) -/

/-- The digits of `n`, `width` of them, leading zeros included. -/
def digitsOf : Nat → Nat → List Nat
  | 0, _ => []
  | width + 1, n => digitsOf width (n / 10) ++ [n % 10]

/-- The number that digits spell. -/
def ofDigits (ds : List Nat) : Nat := ds.foldl (fun n d => n * 10 + d) 0

/-- The digits' sum with weights 7, 3, 1, 7, 3, 1 and so on from the leftmost. -/
def weighDigits : List Nat → Nat
  | [] => 0
  | [a] => a * 7
  | [a, b] => a * 7 + b * 3
  | a :: b :: c :: rest => a * 7 + b * 3 + c + weighDigits rest

/-- The check digit of eleven digits. -/
def checkDigit (ds : List Nat) : Nat := (10 - weighDigits ds % 10) % 10

/-- The item number of an office code and a serial. -/
def itemNumber (office serial : Nat) : Nat :=
  (office * 10000000 + serial) * 10 + checkDigit (digitsOf 4 office ++ digitsOf 7 serial)

/-- A number the host sends: twelve decimal digits with a right check digit. -/
def numberField (ds : List Nat) : Option Nat :=
  if ds.length = 12 ∧ ds.all (· ≤ 9) ∧ checkDigit (ds.take 11) = ds.getD 11 0 then some (ofDigits ds)
  else none

end Sys2Proof
end

