-- ==== Sys2Proof/Machine/Ops.lean ====
section
/-! DEFINITION. The named operations over State that every block uses: one update per block, free
values, notices, replies, dispatch of requests, and whether the part runs at all. -/

namespace Sys2Proof.Machine

/-! ## One update per block -/

namespace State

/-- The Weighing Unit changed by `f`. -/
def onWeighing (s : State) (f : Weighing → Weighing) : State := { s with weighing := f s.weighing }
/-- Gauge k changed by `f`. -/
def onGauge (s : State) (k : Pos) (f : Gauge → Gauge) : State :=
  { s with gauges := s.gauges.set k (f (s.gauges.get k)) }
/-- The Tariff Controller changed by `f`. -/
def onTariff (s : State) (f : Tariff → Tariff) : State := { s with tariff := f s.tariff }
/-- The tariff memory changed by `f`. -/
def onFlash (s : State) (f : Flash → Flash) : State := { s with flash := f s.flash }
/-- The tariff memory port changed by `f`. -/
def onPort (s : State) (f : Port → Port) : State := { s with port := f s.port }
/-- The Rate Cache changed by `f`. -/
def onCache (s : State) (f : Cache → Cache) : State := { s with cache := f s.cache }
/-- The Rating Unit changed by `f`. -/
def onRating (s : State) (f : Rating → Rating) : State := { s with rating := f s.rating }
/-- The Item Manager changed by `f`. -/
def onItems (s : State) (f : Items → Items) : State := { s with items := f s.items }
/-- The Belt Controller changed by `f`. -/
def onBelt (s : State) (f : Belt → Belt) : State := { s with belt := f s.belt }
/-- The Release Controller changed by `f`. -/
def onRelease (s : State) (f : Release → Release) : State := { s with release := f s.release }
/-- The Label Unit changed by `f`. -/
def onLabel (s : State) (f : LabelUnit → LabelUnit) : State := { s with label := f s.label }
/-- The Link Controller changed by `f`. -/
def onLink (s : State) (f : Link → Link) : State := { s with link := f s.link }
/-- The Time Base changed by `f`. -/
def onTime (s : State) (f : Time → Time) : State := { s with time := f s.time }
/-- The Settings Store changed by `f`. -/
def onSettings (s : State) (f : Settings → Settings) : State := { s with settings := f s.settings }
/-- The pins changed by `f`. -/
def onPins (s : State) (f : Pins → Pins) : State := { s with pins := f s.pins }

/-- Weighing channel k. -/
def channel (s : State) (k : Pos) : Channel := s.weighing.channels.get k
/-- Weighing channel k changed by `f`. -/
def onChannel (s : State) (k : Pos) (f : Channel → Channel) : State :=
  s.onWeighing (fun w => { w with channels := w.channels.set k (f (w.channels.get k)) })
/-- The slot of position k. -/
def openSlot (s : State) (k : Pos) : OpenSlot := s.items.slots.get k
/-- The slot of position k replaced. -/
def setOpenSlot (s : State) (k : Pos) (o : OpenSlot) : State :=
  s.onItems (fun i => { i with slots := i.slots.set k o })
/-- What the Release Controller keeps of position k, changed by `f`. -/
def onPlace (s : State) (k : Pos) (f : Place → Place) : State :=
  s.onRelease (fun r => { r with places := r.places.set k (f (r.places.get k)) })
/-- What the Tariff Controller keeps of a bank, changed by `f`. -/
def onBank (s : State) (k : Bank) (f : BankRec → BankRec) : State :=
  s.onTariff (fun t => { t with banks := t.banks.set k (f (t.banks.get k)) })

/-! ## Values read from several blocks -/

/-- The calendar minute other blocks read: absent while the calendar is UNSET (R199). -/
def minuteNow (s : State) : Option Minute := s.time.calendar.map (·.minute)
/-- The geometry in force (R138). -/
def geo (s : State) : Geometry := s.settings.host.geo
/-- The part works: power is good and the reset line is not asserted (R206). -/
def running (s : State) : Bool := s.pins.powerGood && !s.pins.resetLine
/-- `f` on a part that works; a part without power or held in reset does nothing. -/
def whenRunning (s : State) (f : State → State) : State := if s.running then f s else s
/-- The number of the next free value, and the state that has read it. -/
def draw (s : State) : Nat × State := (s.fresh, { s with fresh := s.fresh + 1 })

end State

/-! ## Transmitter, notices and replies (R194 to R196) -/

/-- The choice of the next frame by an IDLE transmitter: the reply or BUSY entry ready first, and a
notice only when neither waits (R195). A notice takes the drop count and the next sequence number
(R196). -/
def Link.sendNext (l : Link) : Link :=
  match l.transmitter with
  | .sending _ => l
  | .idle =>
    match l.ready with
    | .slot i :: _ => { l with transmitter := .sending (.reply i) }
    | .busy tag code :: _ => { l with transmitter := .sending (.busy tag code) }
    | [] =>
      match l.notices with
      | [] => l
      | n :: rest =>
        { l with
          notices := rest
          drops := 0
          noticeSeq := l.noticeSeq + 1
          transmitter := .sending (.notice l.noticeSeq l.drops n) }

/-- A notice offered to the queue; a full queue drops and counts it (R196). -/
def Link.offer (n : Notice) (l : Link) : Link :=
  if l.notices.length < Config.noticeEntries then Link.sendNext { l with notices := l.notices ++ [n] }
  else { l with drops := bump Config.stat16 l.drops }

/-- The request in slot i is answered: the slot enters REPLY_READY and joins the end of the reply
order (R193). -/
def Link.answer (i : SlotId) (r : Reply) (l : Link) : Link :=
  match l.slots[i] with
  | none => l
  | some q =>
    Link.sendNext { l with
      slots := l.slots.set i (some { q with phase := .replyReady r })
      ready := l.ready ++ [ReadyItem.slot i] }

/-- The BUSY list: the entries of `ready` that hold no slot, oldest first (R194). -/
def Link.busyList (l : Link) : List (Byte × MsgCode) :=
  l.ready.filterMap (fun r => match r with | .busy t c => some (t, c) | .slot _ => none)

/-- The reply order: the slots in REPLY_READY, in order of readiness (R193). -/
def Link.replyOrder (l : Link) : List SlotId :=
  l.ready.filterMap (fun r => match r with | .slot i => some i | .busy _ _ => none)

/-- The first free request slot. -/
def Link.freeSlot (l : Link) : Option SlotId := SlotId.all.find? (fun i => l.slots[i].isNone)

/-- Slots held. -/
def Link.slotsHeld (l : Link) : Nat := (SlotId.all.filter (fun i => l.slots[i].isSome)).length

/-- A request that arrives while all slots are held: it joins the BUSY list, or is lost when that list
is full (R194). -/
def Link.busy (tag : Byte) (code : MsgCode) (l : Link) : Link :=
  if l.busyList.length < Config.busyEntries then
    Link.sendNext { l with ready := l.ready ++ [ReadyItem.busy tag code] }
  else { l with lostRequests := bump Config.stat16 l.lostRequests }

/-- A request takes a free slot in phase SERVING (R193). -/
def Link.hold (i : SlotId) (tag : Byte) (code : MsgCode) (l : Link) : Link :=
  { l with slots := l.slots.set i (some ⟨tag, code, .serving⟩) }

namespace State

/-- A notice offered to the notice queue (R196). -/
def offer (s : State) (n : Notice) : State := s.onLink (Link.offer n)
/-- The request in slot i answered (R193). -/
def answer (s : State) (i : SlotId) (r : Reply) : State := s.onLink (Link.answer i r)
/-- The request in slot i answered OK. -/
def ok (s : State) (i : SlotId) (f : Fields := .none) : State := s.answer i (.ok f)
/-- The request in slot i refused with a reason. -/
def refuse (s : State) (i : SlotId) (r : Reason) (f : Fields := .none) : State :=
  s.answer i (.refused r f)
/-- The request in slot i refused with BAD_FIELD, the field named. -/
def badField (s : State) (i : SlotId) (f : FieldName) : State := s.refuse i .badField (.field f)
/-- The request in slot i answered OK, or CLAMPED when a value was limited to its range. -/
def okOrClamped (s : State) (i : SlotId) (clamped : Bool) (f : Fields) : State :=
  s.answer i (if clamped then .clamped f else .ok f)

/-- A request arrives at dispatch (R193, R194): BUSY without a free slot; else it holds a slot and is
answered UNKNOWN, BAD_LENGTH or STARTING, or handed to the block that serves it. -/
def dispatch (s : State) (tag : Byte) (code : MsgCode) (known lengthRight : Bool)
    (serve : SlotId → State → State) : State :=
  match s.link.freeSlot with
  | none => s.onLink (Link.busy tag code)
  | some i =>
    let held := s.onLink (Link.hold i tag code)
    if !known then held.answer i .unknown
    else if !lengthRight then held.answer i .badLength
    else if s.link.part = .starting ∧ code ≠ .req .sStatus then held.refuse i .starting
    else serve i held

/-- A request row: the request arrives at dispatch as its payload has been read; a part that does not
work receives nothing. -/
def request (s : State) (tag : Byte) (name : ReqName) (serve : SlotId → State → State) : State :=
  s.whenRunning (fun s => s.dispatch tag (.req name) true true serve)

end State

/-- The position a request names, or BAD_FIELD naming the field. -/
def atPosition (n : Nat) (f : FieldName) (i : SlotId) (s : State) (serve : Pos → State) : State :=
  match Pos.ofNumber n with
  | none => s.badField i f
  | some k => serve k

end Sys2Proof.Machine
end

