-- ==== Sys2Proof/Machine/Memory.lean ====
section
/-! DEFINITION. The tariff memory (R37): its image bytes as a list of cells in one canonical form, and
erasing, programming and reading. A byte that is not listed reads 0xFF, as an erased byte does (log 5). -/

namespace Sys2Proof.Machine

/-- The bytes of tariff memory that differ from 0xFF, by rising address. -/
abbrev Memory := List Host.Cell

/-- What an unlisted address reads as (R37, log 5). -/
def erasedByte : Byte := 0xFF

/-- The canonical form: addresses strictly rising from `low` on, each below the memory's size, and no
byte listed that an unlisted address reads as. -/
def Memory.wfFrom : Nat → Memory → Bool
  | _, [] => true
  | low, (a, v) :: rest =>
    low ≤ a && a < Config.flashBytes && v != erasedByte && Memory.wfFrom (a + 1) rest

/-- The canonical form of the whole memory. -/
def Memory.wf (m : Memory) : Bool := Memory.wfFrom 0 m

/-- The byte at an address. -/
def Memory.read : Memory → Nat → Byte
  | [], _ => erasedByte
  | (a, v) :: rest, x => if a = x then v else Memory.read rest x

/-- The byte at an address replaced, in canonical form. -/
def Memory.write : Memory → Nat → Byte → Memory
  | [], x, v => if v = erasedByte then [] else [(x, v)]
  | (a, w) :: rest, x, v =>
    if x < a then (if v = erasedByte then (a, w) :: rest else (x, v) :: (a, w) :: rest)
    else if x = a then (if v = erasedByte then rest else (x, v) :: rest)
    else (a, w) :: Memory.write rest x v

/-- A byte of the memory replaced; an address beyond its end is no byte of it (R37). -/
def Memory.put (m : Memory) (x : Nat) (v : Byte) : Memory :=
  if x < Config.flashBytes then m.write x v else m

/-- `count` bytes from an address on. -/
def Memory.readRun (m : Memory) (x : Nat) : Nat → List Byte
  | 0 => []
  | count + 1 => m.read x :: Memory.readRun m (x + 1) count

/-- Bytes programmed from an address on: programming only turns bits from one to zero (R37). -/
def Memory.program (m : Memory) (x : Nat) : List Byte → Memory
  | [] => m
  | v :: rest => Memory.program (m.put x (m.read x &&& v)) (x + 1) rest

/-- `count` bytes from an address on erased to 0xFF (R37). -/
def Memory.erase (m : Memory) (x count : Nat) : Memory :=
  m.filter (fun c => c.1 < x || x + count ≤ c.1)

/-- `count` bytes from an address on left with free values by the n-th access that failed or was cut
short (log 22). -/
def Memory.spoil (m : Memory) (n x : Nat) : Nat → Memory
  | 0 => m
  | count + 1 => Memory.spoil (m.put x (Config.failedByte n x)) n (x + 1) count

/-- The address of the first byte of a bank (R37). -/
def bankBase : Bank → Nat
  | .a => 0
  | .b => 0x400000

/-! ## The port (R57) -/

/-- An access asked of the port: it begins at once when the port is free, and waits in its class when
not (R57). -/
def Port.ask (a : Access) (p : Port) : Port :=
  match p.current with
  | none => { p with current := some a }
  | some _ =>
    match a with
    | .walk .. => { p with walk := some a }
    | .verification .. => { p with verification := some a }
    | _ => { p with programming := p.programming ++ [a] }

/-- The access in progress has completed: the arbiter takes a walk read first, then a verification read,
then the oldest programming access (R57). -/
def Port.complete (p : Port) : Port :=
  match p.walk, p.verification, p.programming with
  | some a, _, _ => { p with current := some a, walk := none }
  | none, some a, _ => { p with current := some a, verification := none }
  | none, none, a :: rest => { p with current := some a, programming := rest }
  | none, none, [] => { p with current := none }

/-- The programming access belongs to load session `id`. -/
def Access.ofSession (id : Nat) : Access → Bool
  | .erase _ _ n => n == id
  | .program _ _ _ n _ => n == id
  | _ => false

/-- The waiting accesses of a load session withdrawn (R49, R50). -/
def Port.withdraw (id : Nat) (p : Port) : Port :=
  { p with programming := p.programming.filter (fun a => !a.ofSession id) }

/-- The port when access a has completed: a failed one of a load session withdraws the accesses of its session
that wait (R50), and the arbiter then chooses (R57). -/
def Port.finish (a : Access) (success : Bool) (p : Port) : Port :=
  if success then p.complete
  else
    match a with
    | .erase _ _ id | .program _ _ _ id _ => (p.withdraw id).complete
    | .walk .. | .verification .. | .recordErase .. | .recordProgram .. => p.complete

/-! ## State records (R38) -/

/-- The CRC-16 over the marker and the fields of a state record (R38). -/
def stateRecordCheck (f : RecordFields) : BitVec 16 := crc16 (Config.recordBytes f)

/-- The state record a rewrite programs (R38). -/
def writtenStateRecord (f : RecordFields) : StateRecord := { f with marker := .right, check := stateRecordCheck f }

/-- A state record whose marker and CRC-16 are right (R38). -/
def stateRecordGood (r : StateRecord) : Bool := r.marker == .right && r.check == stateRecordCheck r.toRecordFields

/-- The state record a sector reads as: none when it is erased, or when the marker or the CRC-16 is wrong, which
reads as EMPTY (R38). -/
def readStateRecord (sector : Option StateRecord) : Option StateRecord := sector.filter stateRecordGood

namespace State

/-- An access asked of the port. -/
def ask (s : State) (a : Access) : State := s.onPort (Port.ask a)

/-- The controller asks for a rewrite of a bank's state record: an erase of its sector and a program of
the new record, with a sequence number one greater than the record sequence, which takes that value
(R38). -/
def rewriteRecord (s : State) (k : Bank) (st : RecordedState) (d : Option Description) : State :=
  let seq := s.tariff.recordSeq + 1
  let tariff := (d.bind (·.tariff)).getD (0, 0, ⟨0, 0, 0, 0, 0⟩)
  let record : StateRecord := writtenStateRecord
    { seq := seq, state := st
      length := (d.map (·.length)).getD 0, crc := (d.map (·.crc)).getD 0
      tariffId := tariff.1, version := tariff.2.1, effective := tariff.2.2 }
  ((s.onTariff (fun t => { t with recordSeq := seq })).ask (.recordErase k)).ask
    (.recordProgram k record)

/-- The image bytes of a bank from an image offset on. -/
def imageRun (s : State) (k : Bank) (offset count : Nat) : List Byte :=
  Memory.readRun s.flash.cells (bankBase k + offset) count

end State

end Sys2Proof.Machine
end

