-- ==== Sys2Proof/Machine/Tracking.lean ====
section
/-! DEFINITION. The tracking queue (07_belt_drive_and_tracking.md) and what hangs on its entries: the item
register's mirror and closing (06_items_and_numbers.md), label states, the pad and the waste jet
(09_labels_applicator_and_diverter.md), reject flags, removal and retirement. -/

namespace Sys2Proof

/-! ## Entries (R139, R140) -/

namespace Entry

/-- The item number of an ITEM. -/
def itemNumber? (e : Entry) : Option Nat :=
  match e.body with
  | .item n .. => some n
  | .reservation .. | .stray .. => none

/-- The entry is a RESERVATION. -/
def isReservation (e : Entry) : Bool :=
  match e.body with
  | .reservation .. => true
  | .item .. | .stray .. => false

/-- The entry carries its matched mark. -/
def matched (e : Entry) : Bool :=
  match e.body with
  | .item _ _ _ _ m _ => m
  | .stray _ m => m
  | .reservation .. => false

/-- The label state of an ITEM. -/
def label? (e : Entry) : Option LabelState :=
  match e.body with
  | .item _ _ _ l _ _ => some l
  | .reservation .. | .stray .. => none

/-- The retirement point passed during the tamp cycle (R149). -/
def retireMarked (e : Entry) : Bool :=
  match e.body with
  | .item _ _ _ _ _ d => d
  | .reservation .. | .stray .. => false

/-- The induct point an ITEM or STRAY comes from. -/
def origin (e : Entry) : Option Pos :=
  match e.body with
  | .item _ k _ _ _ _ => some k
  | .stray k _ => k
  | .reservation .. => none

/-- An ITEM with its label state replaced. -/
def withLabel (l : LabelState) (e : Entry) : Entry :=
  match e.body with
  | .item n k len _ m d => { e with body := .item n k len l m d }
  | .reservation .. | .stray .. => e

/-- An ITEM with its length set. -/
def withLength (len : Int) (e : Entry) : Entry :=
  match e.body with
  | .item n k _ l m d => { e with body := .item n k (some len) l m d }
  | .reservation .. | .stray .. => e

/-- The entry with its matched mark set. -/
def asMatched (e : Entry) : Entry :=
  match e.body with
  | .item n k len l _ d => { e with body := .item n k len l true d }
  | .stray k _ => { e with body := .stray k true }
  | .reservation .. => e

/-- An ITEM marked to retire at its verdict (R149). -/
def asRetireDue (e : Entry) : Entry :=
  match e.body with
  | .item n k len l m _ => { e with body := .item n k len l m true }
  | .reservation .. | .stray .. => e

/-- An ITEM that is unflagged and unmatched. -/
def live (e : Entry) : Bool := e.itemNumber?.isSome && e.flag.isNone && !e.matched

/-- An ITEM that is unflagged and unmatched and whose label is NOT_STARTED (R180). -/
def unprinted (e : Entry) : Bool := e.live && e.label? == some .notStarted

/-- The entry's stretch overlaps the stretch from `front` to `tail`. -/
def overlaps (e : Entry) (front tail : Coord) : Bool := stretchesOverlap e.front e.tail front tail

end Entry

/-- An entry placed where its front gives in the order of R124, after entries with an equal front (R140). -/
def insertEntry (p : Coord) (e : Entry) : List Entry → List Entry
  | [] => [e]
  | a :: rest =>
    if ahead e.front p < ahead a.front p then e :: a :: rest else a :: insertEntry p e rest

/-- A label state that is final (R178). -/
def finalLabel : LabelState → Bool
  | .applied | .skipped | .wasted => true
  | .notStarted | .printing | .presented => false

/-- print_ms (R175). -/
def HostFields.printMs (h : HostFields) : Nat := ceilDiv (h.labelLength * 1000) h.printSpeed

/-- The permitted maximum speed (R129). -/
def HostFields.vmax (h : HostFields) : Nat :=
  min 1000 (min (h.geo.pitch * 1000 / (h.printMs + h.applyMs))
    (floorSqrt (2 * h.geo.decel * (h.geo.slow - h.geo.tol))))

/-- The drive moves the belt: STARTING, RUNNING or CREEPING. -/
def Drive.moving : Drive → Bool
  | .starting | .running | .creeping => true
  | .stopped | .stopping | .estopped => false

end Sys2Proof

namespace Sys2Proof.Machine

/-- A 32-bit label statistic counted. -/
def LabelUnit.count (f : LabelStats → LabelStats) (l : LabelUnit) : LabelUnit :=
  { l with stats := f l.stats }

namespace State

/-- The entry of the tracking queue with an id. -/
def findEntry (s : State) (id : Nat) : Option Entry := s.belt.queue.find? (fun e => e.id == id)
/-- One entry of the tracking queue changed by `f`. -/
def onEntry (s : State) (id : Nat) (f : Entry → Entry) : State :=
  s.onBelt (fun b => { b with queue := b.queue.map (fun e => if e.id = id then f e else e) })
/-- An entry taken out of the tracking queue. A job for it that a fault has interrupted is given up, so the
recovery sends nothing (R176); a job that still runs goes on to its report (R183). -/
def removeEntry (s : State) (id : Nat) : State :=
  (s.onBelt (fun b => { b with queue := b.queue.filter (fun e => e.id != id) })).onLabel (fun u =>
    { u with job := u.job.filter (fun j => j.entry != id || !j.interrupted) })
/-- A new entry inserted, with the next id. -/
def insertNew (s : State) (front tail : Coord) (flag : Option RejectReason) (body : EntryBody) : State :=
  s.onBelt (fun b => { b with
    queue := insertEntry b.p ⟨b.nextId, front, tail, flag, body⟩ b.queue
    nextId := b.nextId + 1 })

/-! ## The register mirror and closing (R119, R121) -/

/-- The register entry of an item number. -/
def findItem (s : State) (n : Nat) : Option RegEntry := s.items.register.find? (fun r => r.number == n)
/-- The register entry of an item number changed by `f`. -/
def onItem (s : State) (n : Nat) (f : RegEntry → RegEntry) : State :=
  s.onItems (fun i => { i with register := i.register.map (fun r => if r.number = n then f r else r) })

/-- An outcome counted. -/
def countOutcome (o : ItemOutcome) (i : Items) : Items :=
  match o with
  | .labelled => { i with labelled := i.labelled + 1 }
  | .rejected _ => { i with rejected := i.rejected + 1 }
  | .missing => { i with missing := i.missing + 1 }
  | .voided => { i with voided := i.voided + 1 }

/-- The register entry of an item closed with its outcome, counted and reported (R121). -/
def closeItem (s : State) (n : Nat) (o : ItemOutcome) : State :=
  match s.findItem n with
  | none => s
  | some r =>
    (s.onItems (fun i =>
      countOutcome o { i with register := i.register.eraseP (fun q => q.number == n) })).offer
      (.itemClosed n r.position o r.label (r.result.total.getD 0))

/-- A release ended without induct: the entry awaits release again (R119). -/
def returnItem (s : State) (n : Nat) : State :=
  s.onItem n (fun r => { r with state := .awaitRelease, attempts := bump 255 r.attempts })

/-! ## Label states, the pad and the waste jet (R178, R179, R183) -/

/-- The statistic a change to a label state names; WASTED is counted where it comes about (log 16). -/
def countLabelState (l : LabelState) (n : LabelStats) : LabelStats :=
  match l with
  | .presented => { n with presented := bump Config.stat32 n.presented }
  | .applied => { n with applied := bump Config.stat32 n.applied }
  | .skipped => { n with skipped := bump Config.stat32 n.skipped }
  | .notStarted | .printing | .wasted => n

/-- One label wasted. -/
def countWasted (s : State) : State :=
  s.onLabel (LabelUnit.count (fun n => { n with wasted := bump Config.stat32 n.wasted }))

/-- The label state of an ITEM in the queue changed, and mirrored in the register (R119, R178). -/
def setLabel (s : State) (id : Nat) (l : LabelState) : State :=
  match (s.findEntry id).bind (·.itemNumber?) with
  | none => s
  | some n =>
    ((s.onEntry id (Entry.withLabel l)).onItem n (fun r => { r with label := some l })).onLabel
      (LabelUnit.count (countLabelState l))

/-- The label state of an entry that is an ITEM in the queue. -/
def labelOf (s : State) (id : Nat) : Option LabelState := (s.findEntry id).bind (·.label?)

/-- A label ejected to waste: the pad is EMPTY, the owner's label takes state `l` if not final, and a
PRESENTED printer becomes READY (R179, R182). -/
def eject (s : State) (owner : Option Nat) (l : LabelState) : State :=
  let owned := match owner with
    | none => s
    | some id => if (s.labelOf id).any (fun l => !finalLabel l) then s.setLabel id l else s
  owned.countWasted.onLabel (fun u => { u with
    pad := .empty
    printer := if u.printer = .presented then .ready else u.printer })

/-- The job in hand for an entry that lost its label: given up when interrupted, else it takes the waste
mark and runs on (R183). -/
def wasteJob (s : State) (id : Nat) : State :=
  s.onLabel (fun u => { u with
    job := u.job.bind (fun j =>
      if j.entry ≠ id then some j else if j.interrupted then none else some { j with waste := true }) })

/-- An armed tamp of an entry returns to RETRACTED (R183). -/
def disarm (s : State) (id : Nat) : State :=
  s.onLabel (fun u =>
    match u.tamp with
    | .armed e _ => if e = id then { u with tamp := .retracted } else u
    | .retracted | .extend .. | .dwell .. | .retract .. => u)

/-- The Label Unit acts on the flag or the unmatched removal of an ITEM (R183). -/
def loseLabel (s : State) (id : Nat) : State :=
  match s.labelOf id with
  | some .notStarted => s.setLabel id .skipped
  | some .printing => ((s.setLabel id .wasted).countWasted).wasteJob id
  | some .presented => if s.label.pad = .holding id then (s.eject (some id) .wasted).disarm id else s
  | some .applied | some .skipped | some .wasted | none => s

/-! ## Flags (R140) -/

/-- An ITEM's flag reported to the Item Manager and the Label Unit (R140). -/
def reportFlag (s : State) (id n : Nat) (r : RejectReason) : State :=
  (s.onItem n (fun q => { q with reject := some r })).loseLabel id

/-- An entry flagged for reject; an entry already flagged keeps its first reason (R140). -/
def flagEntry (s : State) (r : RejectReason) (id : Nat) : State :=
  match s.findEntry id with
  | none => s
  | some e =>
    if e.flag.isSome then s
    else
      let flagged := s.onEntry id (fun e => { e with flag := some r })
      match e.itemNumber? with
      | none => flagged
      | some n => flagged.reportFlag id n r

/-- Several entries flagged, in queue order. -/
def flagAll (s : State) (r : RejectReason) (ids : List Nat) : State := ids.foldl (fun s id => s.flagEntry r id) s

/-- The ids of the unflagged entries that meet `f`. -/
def unflagged (s : State) (f : Entry → Bool) : List Nat :=
  (s.belt.queue.filter (fun e => e.flag.isNone && f e)).map (·.id)

/-! ## Removal and retirement (R147, R149) -/

/-- An unmatched ITEM is missing: its register entry closes and its label is lost (R147, R149). -/
def dropMissing (s : State) (e : Entry) : State :=
  match e.itemNumber? with
  | none => s.removeEntry e.id
  | some n => ((s.closeItem n .missing).loseLabel e.id).removeEntry e.id

/-- The outcome of a matched ITEM at retirement (R149). -/
def retireOutcome (e : Entry) : ItemOutcome :=
  match e.flag with
  | some r => .rejected r
  | none => if e.label? = some .applied then .labelled else .rejected .noLabel

/-- An ITEM or STRAY retires (R149). -/
def retire (s : State) (e : Entry) : State :=
  match e.itemNumber? with
  | none => s.removeEntry e.id
  | some n => if e.matched then (s.closeItem n (retireOutcome e)).removeEntry e.id else s.dropMissing e

/-- The entry is in its tamp cycle, from arming to verdict (R185). -/
def inTampCycle (s : State) (id : Nat) : Bool :=
  match s.label.tamp with
  | .retracted => false
  | .armed e _ | .extend e _ | .dwell e _ | .retract e _ => e == id

/-- P has passed the entry's retirement point (R149). -/
def retirePassed (s : State) (e : Entry) : Bool :=
  ahead s.belt.p (e.tail.beyond (s.geo.dDiv + Config.spare)) > 0

/-- An entry whose retirement is due retires, or waits for its verdict (R149). -/
def retireStep (s : State) (id : Nat) : State :=
  match s.findEntry id with
  | none => s
  | some e =>
    if e.isReservation then s
    else if s.retirePassed e || e.retireMarked then
      if s.inTampCycle id then s.onEntry id Entry.asRetireDue else s.retire e
    else s

/-- Every due retirement, in queue order. -/
def retireAll (s : State) : State := (s.belt.queue.map (·.id)).foldl retireStep s

/-! ## Drive (R127) -/

/-- A BELT_STATE notice (R127). -/
def beltNotice (s : State) : State :=
  s.offer (.beltState s.belt.drive s.belt.reason s.belt.runTarget s.belt.setpoint s.belt.p)

/-- The drive changed by `f`, with BELT_STATE when its state is another (R127). -/
def changeDrive (s : State) (f : Belt → Belt) : State :=
  let changed := s.onBelt f
  if changed.belt.drive = s.belt.drive then changed else changed.beltNotice

/-! ## The free-window test (R141) -/

/-- The due coordinate of induct point k now. -/
def dueAt (s : State) (k : Pos) : Coord := s.belt.p.beyond (s.geo.d.get k)

/-- The window of a release at point k now. -/
def window (s : State) (k : Pos) : Coord × Coord :=
  ((s.dueAt k).short s.geo.gap, (s.dueAt k).beyond (s.geo.lres + Config.itemLength + s.geo.gap))

/-- The window of point k is free (R141). -/
def windowFree (s : State) (k : Pos) : Bool :=
  s.belt.queue.all (fun e =>
    !e.overlaps (s.window k).1 (s.window k).2 &&
    (e.isReservation || decide (s.geo.pitch ≤ (ahead e.front (s.dueAt k)).natAbs))) &&
  decide (s.belt.queue.length < Config.queueEntries)

end State

end Sys2Proof.Machine
end

