-- ==== Sys2Proof/Machine/Labels.lean ====
section
/-! DEFINITION. The Label Unit's operations (09_labels_applicator_and_diverter.md): the JOB record, the print
order, displacement, faults, the tamp and the diverter. The commands stand in Printer.lean. -/

namespace Sys2Proof.Machine

/-- The JOB record of a register entry (R174). The total is marked paid when it is above 0. -/
def jobRecord (r : RegEntry) : LabelRecord :=
  let total := r.result.total.getD 0
  { number := r.number
    name := (r.result.service.map (·.2)).getD []
    sort := (r.result.zone.map (·.2)).getD (0, 0)
    zone := (r.result.zone.map (·.1)).getD 0
    postcode := r.postcode
    cw := r.result.cw.getD 0
    total := total
    paid := decide (0 < total)
    accepted := r.accepted
    office := r.number / 100000000
    position := r.position
    fragile := r.fragile
    signature := r.signature
    keyed := r.result.keyed
    lines := r.lines }

/-- Durations of the tamp phases: EXTEND and RETRACT two fifths of apply_ms rounded down, DWELL the rest
(R185). -/
def tampStroke (applyMs : Nat) : Nat := applyMs * 2 / 5
/-- The DWELL phase (R185). -/
def tampDwell (applyMs : Nat) : Nat := applyMs - 2 * tampStroke applyMs

namespace State

/-- The time allowed to a job (R175). -/
def jobTime (s : State) : Nat := s.settings.host.printMs + Config.jobSlack

/-! ## Printing (R175, R176, R180 to R182) -/

/-- The ITEM the print order takes: first in queue order among the unprinted (R180). -/
def nextUnprinted (s : State) : Option Entry := s.belt.queue.find? Entry.unprinted

/-- A JOB for an entry sent (R180). -/
def sendJob (s : State) (e : Entry) : State :=
  match (e.itemNumber?).bind s.findItem with
  | none => s
  | some r =>
    (s.setLabel e.id .printing).onLabel (fun u => { u with
      printer := .printing
      job := some ⟨e.id, jobRecord r, s.jobTime, false, false⟩
      sent := some (.job (jobRecord r))
      stats := { u.stats with jobs := bump Config.stat32 u.stats.jobs } })

/-- The print order (R180). -/
def printOrder (s : State) : State :=
  if s.label.printer = .ready ∧ s.label.pad = .empty ∧ s.label.job.isNone then
    match s.nextUnprinted with
    | none => s
    | some e => s.sendJob e
  else s

/-- The tamp is ARMED for an entry. -/
def armedFor (s : State) (id : Nat) : Bool :=
  match s.label.tamp with
  | .armed e _ => e == id
  | .retracted | .extend .. | .dwell .. | .retract .. => false

/-- An unprinted ITEM stands before entry `id` in the queue. -/
def unprintedBefore (id : Nat) : List Entry → Bool
  | [] => false
  | e :: rest => if e.id = id then false else e.unprinted || unprintedBefore id rest

/-- The displacement test (R182): a held label gives way to a lower-due unprinted ITEM. -/
def displace (s : State) : State :=
  match s.label.pad with
  | .holding id =>
    if !s.armedFor id && (s.findEntry id).isSome && unprintedBefore id s.belt.queue then
      (s.eject (some id) .notStarted).onLabel
        (LabelUnit.count (fun n => { n with displaced := bump Config.stat32 n.displaced }))
    else s
  | .empty | .applying _ => s

/-- A PRINTER_STATE notice (R176, R177). -/
def printerNotice (s : State) (ev : PrinterEvent) : State :=
  s.offer (.printerState ev s.label.printer (s.label.job.map (·.record.number)) s.label.pad)

/-- The printer enters FAULT from a state that is not FAULT: a job being printed is interrupted, the query
timer starts (R176). -/
def enterFault (s : State) (kind : FaultKind) : State :=
  (s.onLabel (fun u => { u with
    printer := .fault kind
    query := Config.queryPeriod
    job := if u.printer = .printing then u.job.map (fun j => { j with interrupted := true }) else u.job
  })).printerNotice .state

/-- The job in hand sent again (R175, R176). -/
def resendJob (s : State) (clearMarks : Bool) : State :=
  match s.label.job with
  | none => s
  | some j =>
    s.onLabel (fun u => { u with
      printer := .printing
      job := some { j with
        timer := s.jobTime
        interrupted := if clearMarks then false else j.interrupted
        waste := if clearMarks then false else j.waste }
      sent := some (.job j.record)
      stats := { u.stats with resends := bump Config.stat32 u.stats.resends } })

/-! ## The tamp (R184 to R186) -/

/-- The Label Unit takes the match of an ITEM (R184). -/
def matchLabel (s : State) (e : Entry) : State :=
  if e.flag.isSome then s
  else
    match s.labelOf e.id with
    | some .presented =>
      if s.label.pad = .holding e.id then
        s.onLabel (fun u => { u with
          tamp := .armed e.id (s.belt.p.beyond s.geo.aOff) })
      else s
    | some .notStarted | some .printing => s.flagEntry .noLabel e.id
    | some .applied | some .skipped | some .wasted | none => s

/-- An armed tamp fires when P reaches its tamp point (R185). -/
def fireTamp (s : State) : State :=
  match s.label.tamp with
  | .armed e point =>
    if 0 ≤ ahead s.belt.p point then
      s.onLabel (fun u => { u with
        pad := .applying e
        tamp := .extend e (tampStroke s.settings.host.applyMs) })
    else s
  | .retracted | .extend .. | .dwell .. | .retract .. => s

/-- The emergency-stop path reaches the tamp: EXTEND and DWELL go to RETRACT (R186). -/
def retractTamp (s : State) : State :=
  s.onLabel (fun u =>
    match u.tamp with
    | .extend e _ | .dwell e _ =>
      { u with tamp := .retract e (tampStroke s.settings.host.applyMs) }
    | .retracted | .armed .. | .retract .. => u)

/-- The verdict at the end of RETRACT (R185). -/
def verdict (s : State) (e : Nat) (sensor : PadSensor) : State :=
  let home := s.onLabel (fun u => { u with tamp := .retracted })
  match sensor with
  | .clear =>
    (home.setLabel e .applied).onLabel (fun u => { u with
      pad := .empty
      printer := if u.printer = .presented then .ready else u.printer })
  | .label =>
    ((s.flagEntry .applyFailed e).eject (some e) .wasted).onLabel (fun u => { u with
      tamp := .retracted
      stats := { u.stats with applyFailures := bump Config.stat32 u.stats.applyFailures } })

/-! ## The diverter (R187) -/

/-- A flagged ITEM or STRAY whose open span holds P (R187). -/
def spanHolds (s : State) (e : Entry) : Bool :=
  !e.isReservation && e.flag.isSome &&
  within s.belt.p ((e.front.beyond s.geo.dDiv).short Config.spare)
    (e.tail.beyond (s.geo.dDiv + Config.spare))

/-- The diverter re-judged (R187). -/
def divert (s : State) : State :=
  if s.belt.queue.any s.spanHolds then
    if s.label.diverter = .reject then s
    else s.onLabel (fun u => { u with
      diverter := .reject
      stats := { u.stats with diversions := bump Config.stat32 u.stats.diversions } })
  else s.onLabel (fun u => { u with diverter := .pass })

end State

end Sys2Proof.Machine
end

