-- ==== Sys2Proof/Machine/Release.lean ====
section
/-! DEFINITION. The Release Controller's operations (08_induction_release.md): staffing, negotiation, the
token, the choice of a candidate, grants, and the end of a release. The commands stand in
Positions.lean. -/

namespace Sys2Proof.Machine

namespace Release

/-- The staffed positions in ascending order. -/
def staffed (r : Release) : List Pos := Pos.all.filter (fun k => (r.places.get k).staffed)

/-- The lowest-numbered staffed position. -/
def lowest (r : Release) : Option Pos := r.staffed.head?

/-- The next staffed position after k, in ascending order with wrap-around; k itself comes last (R161). -/
def nextStaffed (r : Release) (k : Pos) : Pos :=
  let rec go : Nat → Pos → Pos
    | 0, q => q
    | n + 1, q => if (r.places.get q).staffed then q else go n q.next
  go 6 k.next

/-- A negotiation begins: the token is parked and every rotation timer stops (R156). -/
def beginNegotiation (r : Release) : Release :=
  { r with
    state := .negotiating
    negotiation := Config.negotiationPeriod
    pendingMark := false
    token := none
    places := r.places.map (fun p => { p with mode := .stopped })
    tht := 0
    express := 0
    visited := []
    waitMark := false
    candidate := none }

/-- A negotiation is called for (R156). -/
def callNegotiation (r : Release) : Release :=
  if r.pendingMark then r
  else if r.state = .negotiating then { r with negotiation := Config.negotiationPeriod }
  else if r.lit.isSome then { r with pendingMark := true }
  else r.beginNegotiation

/-- IDLE (R157). The stopped negotiation timer is 0 and the visit record, its express count and its express-wait
mark are cleared (log 69). -/
def enterIdle (r : Release) : Release :=
  { r with
    state := .idle
    negotiation := 0
    pendingMark := false
    ttrt := none
    token := none
    places := r.places.map (fun p => { p with mode := .stopped, late := false })
    tht := 0
    express := 0
    visited := []
    waitMark := false
    candidate := none }

/-- The lit release has ended: the lamp is off, and a pending negotiation begins (R165, R156). -/
def endLit (r : Release) : Release :=
  let off := { r with lit := none }
  if r.pendingMark then off.beginNegotiation else off

/-- The token arrives at position k (R159). -/
def arrive (r : Release) (k : Pos) : Release :=
  let p := r.places.get k
  { r with
    token := some k
    tht := if p.late then 0 else p.trt
    stats := if p.late then { r.stats with late := bump Config.stat32 r.stats.late } else r.stats
    places := r.places.set k { p with late := false, trt := r.ttrt.getD 0, mode := .held }
    express := 0
    visited := []
    waitMark := false
    candidate := none }

/-- An arrival by passing, which counts a rotation at the lowest-numbered staffed position (R159). -/
def arriveByPass (r : Release) (k : Pos) : Release :=
  let a := r.arrive k
  if r.lowest = some k then
    { a with stats := { a.stats with rotations := bump Config.stat32 a.stats.rotations } }
  else a

/-- The token passes from position k (R161). -/
def pass (r : Release) (k : Pos) : Release :=
  let left := { r with
    places := r.places.set k { r.places.get k with mode := .running }
    candidate := none
    tht := 0 }
  left.arriveByPass (r.nextStaffed k)

/-- The smallest requested rotation time of the staffed positions (R157). -/
def smallestTreq (r : Release) : Option Nat := (r.staffed.map (fun k => (r.places.get k).treq)).min?

/-- The negotiation ends (R157). -/
def endNegotiation (r : Release) (moving : Bool) : Release :=
  match r.lowest, r.smallestTreq with
  | some k, some t =>
    let loaded := { r with
      ttrt := some t
      negotiation := 0
      places := r.places.map (fun (p : Place) =>
        if p.staffed then { p with trt := t, mode := .running, late := false } else p) }
    { loaded.arrive k with state := if moving then .rotating else .suspended }
  | _, _ => r.enterIdle

/-- The controller follows the drive (R170). -/
def follow (r : Release) (moving : Bool) : Release :=
  if r.state = .rotating ∧ !moving then { r with state := .suspended }
  else if r.state = .suspended ∧ moving then { r with state := .rotating }
  else r

/-- The entries of position k that a visit considers, oldest first (R162). -/
def considered (r : Release) (k : Pos) (register : List RegEntry) : List RegEntry :=
  register.filter (fun e => e.position == k && e.state == .awaitRelease && !r.visited.contains e.number)

/-- The first eligible entry of the token's position, and whether it is chosen on EXPRESS terms (R162). -/
def eligible (r : Release) (k : Pos) (register : List RegEntry) : Option (RegEntry × Bool) :=
  let l := r.considered k register
  match l.find? (fun e => e.cls == .express) with
  | some e =>
    if r.express < (r.places.get k).x then some (e, true)
    else if 0 < r.tht then some (e, false)
    else none
  | none => if 0 < r.tht then (l.find? (fun e => e.cls == .standard)).map (fun e => (e, false)) else none

/-- The choice of a candidate (R162): none while a lamp is lit, a negotiation is pending, or the visit's
express-wait mark is set. -/
def choice (r : Release) (register : List RegEntry) : Option (RegEntry × Bool) :=
  match r.token with
  | none => none
  | some k =>
    if r.state ≠ .rotating ∨ r.lit.isSome ∨ r.pendingMark ∨ r.waitMark then none
    else r.eligible k register

/-- The pass condition (R161), with the position the token leaves. -/
def passFrom (r : Release) (register : List RegEntry) : Option Pos :=
  match r.token with
  | none => none
  | some k =>
    if r.state = .rotating ∧ r.lit.isNone ∧ !r.pendingMark ∧
        (r.waitMark ∨ (r.eligible k register).isNone) then some k
    else none

end Release

namespace State

/-- A reservation asked for point k and an item: GRANTED with a RESERVATION inserted, or NOT_FREE (R141). -/
def reserve (s : State) (k : Pos) (item : Nat) : Option State :=
  if s.windowFree k then
    some (s.insertNew (s.window k).1 (s.window k).2 none (.reservation k s.belt.p item))
  else none

/-- A release granted to a candidate (R164). -/
def grant (s : State) (k : Pos) (e : RegEntry) (expressTerms : Bool) : State :=
  (s.onItem e.number (fun q => { q with state := .released })).onRelease (fun r => { r with
    lit := some ⟨k, e.number, e.cls, s.belt.p⟩
    candidate := none
    visited := r.visited ++ [e.number]
    express := if expressTerms then r.express + 1 else r.express
    stats := { r.stats with grants := bump Config.stat32 r.stats.grants } })

/-- The candidate's reservation asked; at its first NOT_FREE a candidate on EXPRESS terms starts its express
wait (R163). -/
def askWindow (s : State) (k : Pos) (e : RegEntry) (expressTerms : Bool) : State :=
  match s.reserve k e.number with
  | some reserved => reserved.grant k e expressTerms
  | none =>
    s.onRelease (fun r => { r with
      candidate := r.candidate.map (fun c =>
        if expressTerms ∧ c.wait.isNone then { c with wait := some Config.expressWait } else c) })

/-- The choice made afresh while ROTATING; a new candidate asks at once, one that stands asks again when
`again` holds (R162, R163). -/
def chooseCandidate (s : State) (again : Bool) : State :=
  match s.release.choice s.items.register, s.release.token with
  | some (e, terms), some k =>
    let stands : Bool := s.release.candidate.any (fun c => c.item == e.number && c.expressTerms == terms)
    if stands then (if again then s.askWindow k e terms else s)
    else
      (s.onRelease (fun r => { r with candidate := some ⟨e.number, terms, none⟩ })).askWindow k e terms
  | _, _ => s.onRelease (fun r => { r with candidate := none })

/-- A candidate kept through a suspension is dropped when its entry no longer awaits release (R170). -/
def keepCandidate (s : State) : State :=
  s.onRelease (fun r => { r with
    candidate := r.candidate.filter (fun c =>
      s.items.register.any (fun e => e.number == c.item && e.state == .awaitRelease)) })

/-- The Release Controller after an event (R161 to R163, R170). -/
def settleRelease (s : State) (again : Bool) : State :=
  match s.release.state with
  | .rotating => s.chooseCandidate again
  | .suspended => s.keepCandidate
  | .idle | .negotiating => s

/-- The RESERVATIONs of an item removed from the tracking queue (R142). -/
def removeReservation (s : State) (item : Nat) : State :=
  s.onBelt (fun b => { b with
    queue := b.queue.filter (fun e =>
      match e.body with
      | .reservation _ _ n => n != item
      | .item .. | .stray .. => true) })

/-- The lit release ends without induct, its entry returning to AWAIT_RELEASE (R167 to R169). -/
def endUninducted (s : State) : State :=
  match s.release.lit with
  | none => s
  | some l => ((s.removeReservation l.item).returnItem l.item).onRelease Release.endLit

/-- The lit release of an item ends by void: the item's entry does not return (R168). -/
def endVoided (s : State) (item : Nat) : State :=
  if s.release.lit.any (fun l => l.item == item) then
    (s.removeReservation item).onRelease Release.endLit
  else s

/-- The lit release that has travelled the release length ends unused (R167). -/
def endUnused (s : State) : State :=
  match s.release.lit with
  | none => s
  | some l =>
    if 0 ≤ ahead s.belt.p (l.p0.beyond s.geo.lres) then
      let ended := (s.endUninducted).onRelease (fun r => { r with
        stats := { r.stats with unused := bump Config.stat32 r.stats.unused } })
      ended.offer (.releaseUnused l.position l.item l.p0 s.belt.p
        (((ended.findItem l.item).map (·.attempts)).getD 0))
    else s

end State

end Sys2Proof.Machine
end

