-- ==== Sys2Proof/Machine/Line.lean ====
section
/-! DEFINITION. What follows from an event along the belt line, once its own effects stand: the tamp that
fires, retirements, the print order, creep and label-wait stops, suspension, the candidate's window and
the diverter (log 11 gives their order); and the emergency-stop path. -/

namespace Sys2Proof.Machine

namespace State

/-! ## Creep and the label-wait stop (R135, R136) -/

/-- The entry that meets the creep condition (R135). -/
def creepEntry (s : State) : Option Entry :=
  if s.belt.drive.moving then
    match s.belt.queue.find? Entry.live with
    | none => none
    | some e =>
      if e.label? ≠ some .presented ∧ ahead e.front s.belt.p ≤ s.geo.slow then some e else none
  else none

/-- The printer is in FAULT. -/
def printerFault (s : State) : Bool :=
  match s.label.printer with
  | .fault _ => true
  | .ready | .printing | .presented => false

/-- The label-wait stop has its end: the entry's label is PRESENTED, or it is flagged or gone (R136). -/
def labelWaitOver (s : State) : Bool :=
  match s.belt.waitEntry with
  | none => false
  | some id =>
    match s.findEntry id with
    | none => true
    | some e => e.flag.isSome || e.label? == some .presented

/-- A label-wait stop that is over restarts the drive to the run target (R136). -/
def labelWaitRestart (s : State) : State :=
  if s.belt.reason = .labelWait ∧ s.labelWaitOver then
    s.changeDrive (fun b => { b with
      drive := .starting, target := b.runTarget, reason := .none, waitEntry := none })
  else s

/-- The drive leaves CREEPING: STARTING, and RUNNING at once when the setpoint is the run target already
(R135, log 13). -/
def leaveCreep (s : State) : State :=
  let starting := s.changeDrive (fun b => { b with drive := .starting, target := b.runTarget })
  if starting.belt.setpoint = starting.belt.target * 100 then
    starting.changeDrive (fun b => { b with drive := .running })
  else starting

/-- Creep and the label-wait stop judged (R135, R136). -/
def judgeCreep (s : State) : State :=
  match s.creepEntry with
  | some e =>
    if s.printerFault then
      s.changeDrive (fun b => { b with
        drive := .stopping, target := 0, reason := .labelWait, waitEntry := some e.id })
    else if s.belt.drive = .creeping then s
    else s.changeDrive (fun b => { b with drive := .creeping, target := Config.creepSpeed })
  | none => if s.belt.drive = .creeping then s.leaveCreep else s

/-! ## Settling (log 11) -/

/-- A waiting candidate is asked for again: P has moved, an entry has left the queue, or the controller is
ROTATING again (R163, R170). -/
def asksAgain (before now : State) : Bool :=
  before.belt.p != now.belt.p ||
  before.belt.queue.any (fun e => !now.belt.queue.any (fun f => f.id == e.id)) ||
  (before.release.state == .suspended && now.release.state == .rotating)

/-- The print order, creep, suspension and the retirement before them. -/
def settleBelt (s : State) : State :=
  let judged := s.fireTamp.retireAll.printOrder.labelWaitRestart.judgeCreep
  judged.onRelease (fun r => r.follow judged.belt.drive.moving)

/-- What follows from an event on the line, `before` being the state at the event. -/
def settle (before s : State) : State :=
  let b := s.settleBelt
  (b.settleRelease (asksAgain before b)).divert

/-! ## The emergency-stop path (R132) -/

/-- Every RESERVATION removed, and the lit release ended by the Belt Controller (R125, R132, R169). -/
def dropReservations (s : State) : State :=
  (s.onBelt (fun b => { b with queue := b.queue.filter (fun e => !e.isReservation) })).endUninducted

/-- The emergency-stop path with its stop reason; the drive is not ESTOPPED (R132). -/
def estopPath (s : State) (reason : StopReason) : State :=
  let stopped := s.changeDrive (fun b => { b with
    drive := .estopped, reason := reason, setpoint := 0, target := 0, waitEntry := none })
  let cleared := stopped.dropReservations
  (cleared.flagAll .estop (cleared.unflagged (fun e =>
    e.itemNumber?.isSome && e.label? != some .applied))).retractTamp

end State

end Sys2Proof.Machine
end

