-- ==== Sys2Proof/Machine/Belt.lean ====
section
/-! DEFINITION. The commands of the Belt Controller (07_belt_drive_and_tracking.md): the encoder and what a
belt step does, the ramp and the speed window, the B_ requests, the emergency stop input, and the edges
at the induct eyes and the applicator eye. -/

namespace Sys2Proof.Machine

namespace State

/-! ## Belt steps (R124, R125, R146, R167) -/

/-- A reversal (R125). -/
def reverse (s : State) : State :=
  let lost := s.offer (.trackingLost s.belt.p s.belt.high)
  let flagged := lost.flagAll .reversed (lost.unflagged (fun e => !e.isReservation))
  flagged.dropReservations.onBelt (fun b => { b with
    eyes := b.eyes.map (fun r => { r with entry := none })
    applicator := { b.applicator with entry := none }
    high := b.p })

/-- The high-water mark at a belt step, and the reversal it shows (R125). -/
def markHigh (s : State) : State :=
  if 0 < ahead s.belt.p s.belt.high then s.onBelt (fun b => { b with high := b.p })
  else if Config.reversal < ahead s.belt.high s.belt.p then s.reverse
  else s

/-- The entry whose tail grows because its object stays at an eye beyond Lmax of travel (R146). -/
def growing (s : State) (r : EyeRecord) : Option Entry :=
  if r.blocked ∧ !r.passing ∧ (r.grown ∨ (Config.itemLength : Int) < ahead s.belt.p r.front) then
    r.entry.bind s.findEntry
  else none

/-- A growing entry at a belt step: OVERLENGTH, the new tail, and OVERLAP for what the tail comes to
overlap (R146, log 32). -/
def growEntry (s : State) (r : EyeRecord) (e : Entry) : State :=
  let tail := e.front + (s.belt.p - r.front)
  let flagged := if e.itemNumber?.isSome then s.flagEntry .overlength e.id else s
  let grown := flagged.onEntry e.id (fun o => { o with tail := tail })
  grown.flagAll .overlap
    (grown.unflagged (fun o => o.overlaps e.front tail && !o.overlaps e.front e.tail))

/-- The object at induct eye k grows its entry (R146). -/
def growInduct (s : State) (k : Pos) : State :=
  let r := s.belt.eyes.get k
  match s.growing r with
  | none => s
  | some e =>
    (s.growEntry r e).onBelt (fun b => { b with
      eyes := b.eyes.set k { b.eyes.get k with grown := true } })

/-- The object at the applicator eye grows an APPLICATOR stray (R148); a matched entry does not grow there
(log 60). -/
def growApplicator (s : State) : State :=
  match s.growing s.belt.applicator with
  | none => s
  | some e =>
    if e.itemNumber?.isSome ∨ e.origin.isSome then s
    else
      (s.growEntry s.belt.applicator e).onBelt (fun b => { b with
        applicator := { b.applicator with grown := true } })

/-- The tests of a belt step, P having changed from what it is in `before` (log 11). -/
def beltStep (before s : State) : State :=
  let marked := s.markHigh
  let grown := (Pos.all.foldl growInduct marked).growApplicator
  State.settle before grown.endUnused

/-- One encoder count (R124, R126). -/
def encoderCount (s : State) (forward : Bool) : State :=
  let counted := s.onBelt (fun b => { b with
    sub := if forward then b.sub + 1 else b.sub - 1
    windowCount := if forward then b.windowCount + 1 else b.windowCount - 1 })
  if forward then
    if s.belt.sub = 3#2 then beltStep s (counted.onBelt (fun b => { b with p := b.p + 1 })) else counted
  else
    if s.belt.sub = 0#2 then beltStep s (counted.onBelt (fun b => { b with p := b.p - 1 })) else counted

/-! ## The ramp and the speed window (R126, R128, R133) -/

/-- The setpoint one ramp step on, in hundredths of mm/s (R128, log 10). -/
def rampTo (setpoint target accel decel : Nat) : Nat :=
  if setpoint < target then min (setpoint + accel) target else max (setpoint - decel) target

/-- The drive state a ramp step leaves (R128). -/
def rampedDrive (d : Drive) (setpoint target : Nat) : Drive :=
  match d with
  | .starting => if setpoint = target then .running else .starting
  | .stopping => if setpoint = 0 then .stopped else .stopping
  | .stopped | .running | .creeping | .estopped => d

/-- A ramp step (R128). -/
def ramp (s : State) : State :=
  if s.belt.drive = .stopped ∨ s.belt.drive = .estopped then s
  else
    let next := rampTo s.belt.setpoint (s.belt.target * 100) s.geo.accel s.geo.decel
    State.settle s (s.changeDrive (fun b => { b with
      setpoint := next, drive := rampedDrive b.drive next (b.target * 100) }))

/-- The measured speed of a window count (R126). -/
def speedOf (count : Int) : Int := (count * 5).tdiv 2

/-- The jam condition (R133); the setpoint is in hundredths. -/
def jamHolds (setpoint : Nat) (measured : Int) : Bool :=
  10000 ≤ setpoint && measured * 200 < setpoint

/-- The end of a speed window (R126, R133). -/
def speedWindow (s : State) : State :=
  let measured := speedOf s.belt.windowCount
  let count := if jamHolds s.belt.setpoint measured then s.belt.jamCount + 1 else 0
  let judged := s.onBelt (fun b => { b with measured := measured, windowCount := 0, jamCount := count })
  if 10 ≤ count then
    let jammed := (judged.onBelt (fun b => { b with jamCount := 0 })).offer (.jam s.belt.setpoint measured)
    State.settle s (jammed.estopPath .jam)
  else judged

/-! ## The emergency stop input (R127, R132) -/

/-- The input is asserted: the path when the drive is not ESTOPPED, and the notice of the input's change. -/
def assertStop (s : State) : State :=
  let seen := s.onPins (fun p => { p with estop := true })
  if s.belt.drive = .estopped then seen.beltNotice
  else State.settle s (seen.estopPath .estop).beltNotice

/-! ## Induct eyes (R143 to R146) -/

/-- The record of induct eye k replaced. -/
def setEye (s : State) (k : Pos) (r : EyeRecord) : State :=
  s.onBelt (fun b => { b with eyes := b.eyes.set k r })

/-- The passing object expected at eye k (R143). -/
def passingAt (s : State) (k : Pos) : Option Entry :=
  s.belt.queue.find? (fun e =>
    e.origin.any (fun o => decide (o.number < k.number)) &&
    decide ((ahead e.front (s.dueAt k)).natAbs ≤ s.geo.tol))

/-- The RESERVATION for point k, with its item (R143). -/
def reservationAt (s : State) (k : Pos) : Option (Entry × Nat) :=
  s.belt.queue.findSome? (fun e =>
    match e.body with
    | .reservation q _ n => if q = k then some (e, n) else none
    | .item .. | .stray .. => none)

/-- The parcel of a RESERVATION inducted at point k (R144). -/
def induct (s : State) (k : Pos) (e : Entry) (n : Nat) : State :=
  let front := s.dueAt k
  let item : Entry := { id := e.id, front := front, tail := front.beyond Config.itemLength, flag := e.flag
                        body := .item n k none .notStarted false false }
  let placed := (s.onBelt (fun b => { b with
    queue := insertEntry b.p item (b.queue.filter (fun o => o.id != e.id)) })).setEye k
    { blocked := true, front := s.belt.p, entry := some e.id, passing := false, grown := false }
  let mirrored := placed.onItem n (fun q => { q with
    state := .onBelt, track := some e.id, label := some .notStarted })
  let released := mirrored.onRelease (fun r =>
    if r.lit.any (fun l => l.item == n) then r.endLit else r)
  let told := match e.flag with
    | some r => released.reportFlag e.id n r
    | none => released
  told.displace

/-- A stray at induct eye k (R145). -/
def strayAt (s : State) (k : Pos) : State :=
  let front := s.dueAt k
  let tail := front.beyond Config.itemLength
  let hit := s.unflagged (fun e => e.overlaps front tail)
  let flagged := s.flagAll .overlap hit
  let fits := decide (s.belt.queue.length < Config.queueEntries)
  let kept :=
    if fits then flagged.insertNew front tail (some .unknown) (.stray (some k) false)
    else flagged.offer .queueFull
  (kept.setEye k { blocked := true, front := s.belt.p
                   entry := if fits then some s.belt.nextId else none
                   passing := false, grown := false }).offer
    (.stray (some k) s.belt.p front tail fits hit.length)

/-- A front edge at induct eye k (R143). -/
def inductFront (s : State) (k : Pos) : State :=
  match s.passingAt k with
  | some e =>
    s.setEye k { blocked := true, front := s.belt.p, entry := some e.id, passing := true, grown := false }
  | none =>
    match s.reservationAt k with
    | some (e, n) => State.settle s (s.induct k e n)
    | none => State.settle s (s.strayAt k)

/-- An eye record whose eye is CLEAR; P at its last front edge stays. -/
def clearedEye (r : EyeRecord) : EyeRecord :=
  { blocked := false, front := r.front, entry := none, passing := false, grown := false }

/-- The object of an entry has left an eye whose record is `r`: its length and tail are known (R146,
R148). -/
def measure (s : State) (r : EyeRecord) (id : Nat) : State :=
  s.onEntry id (fun e =>
    { e.withLength (ahead s.belt.p r.front) with tail := e.front + (s.belt.p - r.front) })

/-- A trailing edge at induct eye k (R146). -/
def inductTrailing (s : State) (k : Pos) : State :=
  let r := s.belt.eyes.get k
  let cleared := s.setEye k (clearedEye r)
  match r.entry with
  | some id => if r.passing then cleared else State.settle s (cleared.measure r id)
  | none => cleared

/-! ## The applicator eye (R147, R148) -/

/-- The lowest-due ITEM or STRAY that is unmatched (R147). -/
def head (s : State) : Option Entry := s.belt.queue.find? (fun e => !e.isReservation && !e.matched)

/-- Heads that should have arrived already removed, one for each entry of the queue at most (R147). -/
def removeMissing : Nat → State → State
  | 0, s => s
  | n + 1, s =>
    match s.head with
    | none => s
    | some e =>
      if ahead (e.front.beyond s.geo.tol) s.belt.p < 0 then removeMissing n (s.dropMissing e) else s

/-- The record of the applicator eye BLOCKED by an entry. -/
def blockApplicator (s : State) (id : Option Nat) : State :=
  s.onBelt (fun b => { b with
    applicator := { blocked := true, front := b.p, entry := id, passing := false, grown := false } })

/-- The head matched to the object at the applicator eye (R148). -/
def matchHead (s : State) (e : Entry) : State :=
  let marked := (s.onEntry e.id Entry.asMatched).blockApplicator (some e.id)
  if e.itemNumber?.isSome then marked.matchLabel e else marked

/-- An unknown object at the applicator eye (R148, log 18). -/
def unknownObject (s : State) : State :=
  let p := s.belt.p
  let tail := p.beyond Config.itemLength
  if s.belt.queue.length < Config.queueEntries then
    ((s.insertNew p tail (some .unknown) (.stray none true)).blockApplicator (some s.belt.nextId)).offer
      (.stray none p p tail true 0)
  else ((s.blockApplicator none).offer .queueFull).offer (.stray none p p tail false 0)

/-- A front edge at the applicator eye (R147, R148). -/
def applicatorFront (s : State) : State :=
  let removed := removeMissing s.belt.queue.length s
  State.settle s
    (match removed.head with
      | some e =>
        if ahead e.front s.belt.p ≤ s.geo.tol then removed.matchHead e else removed.unknownObject
      | none => removed.unknownObject)

/-- A trailing edge at the applicator eye: it measures an APPLICATOR stray (R148) and changes nothing of a
matched entry (log 60). -/
def applicatorTrailing (s : State) : State :=
  let r := s.belt.applicator
  let cleared := s.onBelt (fun b => { b with applicator := clearedEye r })
  match r.entry.bind s.findEntry with
  | some e =>
    if e.itemNumber?.isSome ∨ e.origin.isSome then cleared
    else State.settle s (cleared.measure r e.id)
  | none => cleared

end State

/-! ## Field events -/

/-- BELT_ENCODER_COUNT (R124). -/
def execBeltEncoderCount (forward : Bool) (s : State) : Host.Outcome State Fault Refusal :=
  .next (s.whenRunning (fun s => s.encoderCount forward))

/-- SPEED_WINDOW_END (R126): the next window begins. -/
def execSpeedWindowEnd (s : State) : Host.Outcome State Fault Refusal :=
  .next (s.whenRunning (fun s => (s.onTime (fun t => { t with speedIn := Config.speedPeriod })).speedWindow))

/-- RAMP_STEP (R128): the next step is due in 10 ms. -/
def execRampStep (s : State) : Host.Outcome State Fault Refusal :=
  .next (s.whenRunning (fun s => (s.onTime (fun t => { t with rampIn := Config.rampPeriod })).ramp))

/-- EMERGENCY_STOP_ASSERTED (R132): the input passes from released to asserted. -/
def execEmergencyStopAsserted (s : State) : Host.Outcome State Fault Refusal :=
  .next (if s.pins.estop then s
    else if s.running then s.assertStop
    else s.onPins (fun p => { p with estop := true }))

/-- EMERGENCY_STOP_RELEASED (R127): the input passes from asserted to released. -/
def execEmergencyStopReleased (s : State) : Host.Outcome State Fault Refusal :=
  .next (if !s.pins.estop then s
    else if s.running then (s.onPins (fun p => { p with estop := false })).beltNotice
    else s.onPins (fun p => { p with estop := false }))

/-- INDUCT_EYE_FRONT_EDGE (R143). -/
def execInductEyeFrontEdge (eye : Pos) (s : State) : Host.Outcome State Fault Refusal :=
  .next (if (s.belt.eyes.get eye).blocked then s
    else if s.running then s.inductFront eye
    else s.setEye eye { s.belt.eyes.get eye with blocked := true })

/-- INDUCT_EYE_TRAILING_EDGE (R146). -/
def execInductEyeTrailingEdge (eye : Pos) (s : State) : Host.Outcome State Fault Refusal :=
  .next (if !(s.belt.eyes.get eye).blocked then s
    else if s.running then s.inductTrailing eye
    else s.setEye eye { s.belt.eyes.get eye with blocked := false })

/-- APPLICATOR_EYE_FRONT_EDGE (R147, R148). -/
def execApplicatorEyeFrontEdge (s : State) : Host.Outcome State Fault Refusal :=
  .next (if s.belt.applicator.blocked then s
    else if s.running then s.applicatorFront
    else s.onBelt (fun b => { b with applicator := { b.applicator with blocked := true } }))

/-- APPLICATOR_EYE_TRAILING_EDGE (R148). -/
def execApplicatorEyeTrailingEdge (s : State) : Host.Outcome State Fault Refusal :=
  .next (if !s.belt.applicator.blocked then s
    else if s.running then s.applicatorTrailing
    else s.onBelt (fun b => { b with applicator := { b.applicator with blocked := false } }))

/-! ## Requests -/

/-- The Belt Controller after a B_RUN that is not refused, with the speed used (R130). -/
def State.runBelt (s : State) (v : Nat) : State :=
  match s.belt.drive with
  | .stopped =>
    if s.belt.reason = .labelWait then s.onBelt (fun b => { b with runTarget := v })
    else s.changeDrive (fun b => { b with
      drive := .starting, reason := .none, runTarget := v, target := v })
  | .starting | .running => s.onBelt (fun b => { b with runTarget := v, target := v })
  | .creeping => s.onBelt (fun b => { b with runTarget := v })
  | .stopping | .estopped => s

/-- B_RUN (R130). -/
def serveBRun (speed : Nat) (i : SlotId) (s : State) : State :=
  if s.belt.drive = .stopping then s.refuse i .stopping
  else if s.belt.drive = .estopped then s.refuse i .estopped
  else
    let used := limit Config.creepSpeed s.settings.host.vmax speed
    (State.settle s (s.runBelt used)).okOrClamped i (decide (used ≠ speed)) (.speed used)

/-- B_STOP (R131). -/
def serveBStop (i : SlotId) (s : State) : State :=
  if s.belt.drive = .estopped then s.refuse i .estopped
  else
    let stopped := s.changeDrive (fun b =>
      if b.drive.moving then
        { b with drive := .stopping, target := 0, reason := .host, waitEntry := none }
      else { b with reason := .host, waitEntry := none })
    (State.settle s stopped).ok i

/-- B_RESET (R134). -/
def serveBReset (i : SlotId) (s : State) : State :=
  if s.belt.drive ≠ .estopped then s.refuse i .notEstopped
  else if s.pins.estop then s.refuse i .estopActive
  else (s.changeDrive (fun b => { b with drive := .stopped })).ok i

/-- The enable line (R127). -/
def enableLine (d : Drive) : Bool := d != .stopped && d != .estopped

/-- The reply of B_STATUS (R137). -/
def State.beltView (s : State) : BeltView :=
  let b := s.belt
  { drive := b.drive, reason := b.reason, runTarget := b.runTarget, target := b.target
    setpoint := b.setpoint, vmax := s.settings.host.vmax, enable := enableLine b.drive
    estopInput := s.pins.estop, p := b.p, high := b.high, measured := b.measured, jamCount := b.jamCount
    waitEntry := b.waitEntry.bind s.findEntry
    reservations := (b.queue.filter (·.isReservation)).length
    items := (b.queue.filter (·.itemNumber?.isSome)).length
    strays := (b.queue.filter (fun e => !e.isReservation && e.itemNumber?.isNone)).length
    eyes := b.eyes, applicator := b.applicator }

/-- B_STATUS (R137). -/
def serveBStatus (i : SlotId) (s : State) : State := s.ok i (.belt s.beltView)

/-- B_QUEUE (R151). -/
def serveBQueue (i : SlotId) (s : State) : State :=
  s.ok i (.queue (s.belt.queue.map (fun e => (e, ahead e.front s.belt.p))))

/-- B_RUN. -/
def execBRun (tag : Byte) (speed : Nat) (s : State) : Host.Outcome State Fault Refusal :=
  .next (s.request tag .bRun (serveBRun speed))

/-- B_STOP. -/
def execBStop (tag : Byte) (s : State) : Host.Outcome State Fault Refusal :=
  .next (s.request tag .bStop serveBStop)

/-- B_RESET. -/
def execBReset (tag : Byte) (s : State) : Host.Outcome State Fault Refusal :=
  .next (s.request tag .bReset serveBReset)

/-- B_STATUS. -/
def execBStatus (tag : Byte) (s : State) : Host.Outcome State Fault Refusal :=
  .next (s.request tag .bStatus serveBStatus)

/-- B_QUEUE. -/
def execBQueue (tag : Byte) (s : State) : Host.Outcome State Fault Refusal :=
  .next (s.request tag .bQueue serveBQueue)

end Sys2Proof.Machine
end

