-- ==== Sys2Proof/Machine/Frames.lean ====
section
/-! DEFINITION. Frames on the line (10_host_link_calendar_and_settings.md, R191, R193, R195, R196): the bytes
of a frame, the payload of a reply and of a notice, and what dispatch reads in the payload of a request.
The manual gives the frame and the order of a payload's parts; the codes and the bytes of the parts are free
values (log 7). -/

namespace Sys2Proof

/-! ## The frame (R191) -/

/-- A number as two bytes, the most significant first (R191). -/
def bytes16 (n : Nat) : List Byte := [BitVec.ofNat 8 (n / 256), BitVec.ofNat 8 n]

/-- The bytes of a frame that its check covers: payload length, kind, tag and payload (R191). -/
def checkedBytes (kind tag : Byte) (payload : List Byte) : List Byte :=
  bytes16 payload.length ++ [kind, tag] ++ payload

/-- A frame: the sync byte, the bytes its check covers, and the check (R191). -/
def frameBytes (kind tag : Byte) (payload : List Byte) : List Byte :=
  0xA5 :: (checkedBytes kind tag payload ++ bytes16 (crc16 (checkedBytes kind tag payload)).toNat)

/-! ## What dispatch reads (R193) -/

/-- The request whose message code a byte is, if there is one (R193). -/
def requestOfCode (code : Byte) : Option ReqName :=
  ReqName.all.find? (fun n => decide (Config.messageCode n = code))

/-- The request of a name that has no fields: its payload is its message code alone, of length 1 (R191,
R193). -/
def ReqName.bare : ReqName → Option Request
  | .tClose => some .tClose
  | .tActivate => some .tActivate
  | .tStatus => some .tStatus
  | .cPurge => some .cPurge
  | .iList => some .iList
  | .iCounts => some .iCounts
  | .nStatus => some .nStatus
  | .bStop => some .bStop
  | .bReset => some .bReset
  | .bStatus => some .bStatus
  | .bQueue => some .bQueue
  | .pStatus => some .pStatus
  | .lStatus => some .lStatus
  | .sGet => some .sGet
  | .sRestart => some .sRestart
  | .wSet | .wTimeout | .wZero | .wTare | .wClearTare | .wCalibrate | .wStatus | .gLatch | .gStatus | .tOpen
  | .tData | .tDiscard | .cStats | .cRead | .iOpen | .iAmend | .iRate | .iConfirm | .iCancel | .iVoid | .iStatus
  | .iRead | .nLoad | .bRun | .pOpen | .pClose | .pStats | .lStats | .sClockSet | .sStore | .sStatus => none

/-- The request of a name that the bytes after its message code give: of a request without fields no byte may
follow, and of another the bytes spell the fields (R193, log 7). -/
def readRequest (n : ReqName) (fields : List Byte) : Option Request :=
  match n.bare with
  | some r => if fields = [] then some r else none
  | none => (Config.readFields n fields).map (·.1)

/-- What dispatch reads in a payload: a code that is no request's, a known code with bytes after it that are
wrong for it, or a request of that code (R193). -/
def readPayload (code : Byte) (fields : List Byte) : Reading :=
  match requestOfCode code with
  | none => .unknown
  | some n =>
    match readRequest n fields with
    | none => .badLength n
    | some r => .request r

/-! ## The payloads the part sends (R195, R196) -/

/-- The byte of a message code. -/
def MsgCode.byte : MsgCode → Byte
  | .req n => Config.messageCode n
  | .other b => b

/-- The status of a reply (R195). -/
def Reply.status : Reply → Status
  | .ok _ => .ok
  | .clamped _ => .clamped
  | .refused .. => .refused
  | .unknown => .unknown
  | .badLength => .badLength

/-- What stands after the status in a reply: the reason code for REFUSED, and the fields; nothing for UNKNOWN
and BAD_LENGTH (R195). -/
def Reply.rest : Reply → List Byte
  | .ok f | .clamped f => Config.replyFieldBytes f
  | .refused r f => Config.reasonBytes r ++ Config.replyFieldBytes f
  | .unknown | .badLength => []

/-- A payload holds at most 1,024 bytes (R191). -/
def payloadOf (bs : List Byte) : List Byte := bs.take Config.payloadBytes

/-- The payload of a reply: the message code of its request, the status and the rest (R195). -/
def Reply.payload (code : MsgCode) (r : Reply) : List Byte :=
  payloadOf (code.byte :: Config.statusByte r.status :: r.rest)

/-- The payload of a BUSY reply, which has no fields (R195). -/
def busyPayload (code : MsgCode) : List Byte := payloadOf [code.byte, Config.statusByte .busy]

/-- The payload of a notice: its code, the drop count and its fields (R196). -/
def Notice.payload (drops : Nat) (n : Notice) : List Byte :=
  payloadOf (BitVec.ofNat 8 n.code :: (bytes16 drops ++ Config.noticeFieldBytes n))

namespace Machine

/-- The bytes of a frame the transmitter sends: REPLY with the tag of its request, or NOTICE with the notice
sequence (R191). -/
def Link.bytesOf (l : Link) : Frame → List Byte
  | .reply i =>
    match l.slots[i] with
    | some ⟨tag, code, .replyReady r⟩ => frameBytes 2 tag (r.payload code)
    | some ⟨_, _, .serving⟩ | none => []
  | .busy tag code => frameBytes 2 tag (busyPayload code)
  | .notice seq drops n => frameBytes 3 seq (n.payload drops)

/-- The frame on the line, whole, while the transmitter is SENDING (R191, R195). -/
def Link.onLine (l : Link) : Option (List Byte) :=
  match l.transmitter with
  | .idle => none
  | .sending f => some (l.bytesOf f)

end Machine

end Sys2Proof
end

