-- ==== Sys2Proof/Machine/Positions.lean ====
section
/-! DEFINITION. The commands of the Release Controller (08_induction_release.md): the P_ requests, its timers
and the passing of the token. -/

namespace Sys2Proof.Machine

/-! ## Requests -/

/-- Position k staffed with its request, or its request replaced, and a negotiation called for (R154). -/
def Release.openPlace (r : Release) (k : Pos) (treq x : Nat) : Release :=
  let p := r.places.get k
  let opened : Place :=
    if p.staffed then { p with treq := treq, x := x }
    else { p with staffed := true, treq := treq, x := x, mode := .stopped, late := false }
  { r with places := r.places.set k opened }.callNegotiation

/-- P_OPEN (R154). -/
def servePOpen (position : Nat) (treq x : Option Nat) (i : SlotId) (s : State) : State :=
  atPosition position .position i s fun k =>
    let defaults := s.settings.host.defaults.get k
    let x' := x.getD defaults.2
    if 3 < x' then s.badField i .x
    else
      let asked := treq.getD defaults.1
      let used := limit 2000 60000 asked
      (State.settle s (s.onRelease (fun r => r.openPlace k used x'))).okOrClamped i (decide (used ≠ asked))
        (.milliseconds used)

/-- Position k unstaffed; a negotiation is called for, or IDLE entered when none is staffed (R155). -/
def Release.closePlace (r : Release) (k : Pos) : Release :=
  let closed := { r with
    places := r.places.set k { r.places.get k with staffed := false, mode := .stopped, late := false } }
  if closed.staffed.isEmpty then closed.enterIdle else closed.callNegotiation

/-- P_CLOSE (R155). -/
def servePClose (position : Nat) (i : SlotId) (s : State) : State :=
  atPosition position .position i s fun k =>
    if !(s.release.places.get k).staffed then s.refuse i .notStaffed
    else
      let ended := if s.release.lit.any (fun l => l.position == k) then s.endUninducted else s
      (State.settle s (ended.onRelease (fun r => r.closePlace k))).ok i

/-- The reply of P_STATUS (R171). -/
def Release.view (r : Release) (defaults : Six (Nat × Nat)) : ReleaseView :=
  let place (k : Pos) : PlaceView :=
    let p := r.places.get k
    { staffed := p.staffed, treq := p.treq, x := p.x, trt := p.trt, mode := p.mode, late := p.late
      lamp := r.lit.any (fun l => l.position == k)
      defaultTreq := (defaults.get k).1, defaultX := (defaults.get k).2 }
  { state := r.state, ttrt := r.ttrt, token := r.token, tht := r.tht, negotiation := r.negotiation
    pendingMark := r.pendingMark, express := r.express, visited := r.visited, candidate := r.candidate
    lit := r.lit, places := .of place }

/-- P_STATUS (R171). -/
def servePStatus (i : SlotId) (s : State) : State :=
  s.ok i (.release (s.release.view s.settings.host.defaults))

/-- P_STATS (R171): the statistics are cleared after their values have been taken into the reply. -/
def servePStats (clear : Bool) (i : SlotId) (s : State) : State :=
  let reply := Fields.relStats s.release.stats
  (if clear then s.onRelease (fun r => { r with stats := {} }) else s).ok i reply

/-- P_OPEN. -/
def execPOpen (tag : Byte) (position : Nat) (treq x : Option Nat) (s : State) :
    Host.Outcome State Fault Refusal :=
  .next (s.request tag .pOpen (servePOpen position treq x))

/-- P_CLOSE. -/
def execPClose (tag : Byte) (position : Nat) (s : State) : Host.Outcome State Fault Refusal :=
  .next (s.request tag .pClose (servePClose position))

/-- P_STATUS. -/
def execPStatus (tag : Byte) (s : State) : Host.Outcome State Fault Refusal :=
  .next (s.request tag .pStatus servePStatus)

/-- P_STATS. -/
def execPStats (tag : Byte) (clear : Bool) (s : State) : Host.Outcome State Fault Refusal :=
  .next (s.request tag .pStats (servePStats clear))

/-! ## Timers and the token. Each expiry takes effect while its timer runs (log 20). -/

namespace State

/-- The negotiation timer expires (R157). -/
def negotiationExpires (s : State) : State :=
  if s.release.state = .negotiating then
    State.settle s (s.onRelease (fun r => r.endNegotiation s.belt.drive.moving))
  else s

/-- The rotation timer of position k counts: k is staffed, its timer RUNNING, the controller ROTATING
(R158, R170). -/
def rotationRuns (s : State) (k : Pos) : Bool :=
  let p := s.release.places.get k
  p.staffed && p.mode == .running && s.release.state == .rotating

/-- A second expiry of the rotation timer of position k: an overrun (R158). -/
def rotationOverrun (s : State) (k : Pos) : State :=
  let stopped := s.onRelease (fun r => { r with
    places := r.places.set k { r.places.get k with mode := .stopped, trt := 0 }
    stats := { r.stats with overruns := bump Config.stat32 r.stats.overruns } })
  (stopped.offer (.rotationOverrun k s.release.ttrt s.release.token s.release.lit.isSome)).onRelease
    Release.callNegotiation

/-- The rotation timer of position k expires (R158). Of two late timers that expire in one millisecond with no
lamp lit, the second finds itself stopped by the negotiation (log 64). -/
def rotationExpires (s : State) (k : Pos) : State :=
  if s.rotationRuns k then
    if (s.release.places.get k).late then State.settle s (s.rotationOverrun k)
    else s.onPlace k (fun p => { p with late := true, trt := s.release.ttrt.getD 0 })
  else s

/-- The token passes when the pass condition holds (R161). -/
def passToken (s : State) : State :=
  match s.release.passFrom s.items.register with
  | none => s
  | some k => State.settle s (s.onRelease (fun r => r.pass k))

/-- The holding time counts: ROTATING, a token, no lit release (R160). -/
def holdingRuns (s : State) : Bool :=
  s.release.state == .rotating && s.release.token.isSome && s.release.lit.isNone

/-- The holding time reaches 0 (R160). -/
def holdingExpires (s : State) : State :=
  if s.holdingRuns then State.settle s (s.onRelease (fun r => { r with tht := 0 })) else s

/-- The express wait of the candidate expires: it is given up, with the visit's express-wait mark set
(R163). -/
def expressExpires (s : State) : State :=
  if s.release.state = .rotating ∧ s.release.candidate.any (fun c => c.wait.isSome) then
    State.settle s (s.onRelease (fun r => { r with candidate := none, waitMark := true }))
  else s

end State

/-- NEGOTIATION_TIMER_EXPIRY (R157). -/
def execNegotiationTimerExpiry (s : State) : Host.Outcome State Fault Refusal :=
  .next (s.whenRunning State.negotiationExpires)

/-- ROTATION_TIMER_EXPIRY (R158). -/
def execRotationTimerExpiry (position : Pos) (s : State) : Host.Outcome State Fault Refusal :=
  .next (s.whenRunning (fun s => s.rotationExpires position))

/-- TOKEN_PASS (R161). -/
def execTokenPass (s : State) : Host.Outcome State Fault Refusal := .next (s.whenRunning State.passToken)

/-- THT_EXPIRY (R160). -/
def execThtExpiry (s : State) : Host.Outcome State Fault Refusal :=
  .next (s.whenRunning State.holdingExpires)

/-- EXPRESS_WAIT_EXPIRY (R163). -/
def execExpressWaitExpiry (s : State) : Host.Outcome State Fault Refusal :=
  .next (s.whenRunning State.expressExpires)

end Sys2Proof.Machine
end

