-- ==== Sys2Proof/Machine/Printer.lean ====
section
/-! DEFINITION. The commands of the Label Unit (09_labels_applicator_and_diverter.md): the printer's reports,
the job and query timers, the tamp phases, and the L_ requests. -/

namespace Sys2Proof.Machine

namespace State

/-- A READY report (R173, R175, R176). A fault's end is noticed before an interrupted job is sent again
(log 67). -/
def printerReady (s : State) : State :=
  match s.label.printer with
  | .ready | .presented => s
  | .printing => State.settle s (s.resendJob false)
  | .fault _ =>
    let ended := (s.onLabel (fun u => { u with printer := .ready })).printerNotice .state
    State.settle s (if s.label.job.any (·.interrupted) then ended.resendJob true else ended)

/-- A PRESENTED report that answers no job (R177). -/
def unexpectedLabel (s : State) : State :=
  let ejected := if s.label.pad = .empty then s.eject none .wasted else s
  (ejected.onLabel (LabelUnit.count (fun n => { n with
    unexpected := bump Config.stat32 n.unexpected }))).printerNotice .unexpectedLabel

/-- The current job's label is on the pad (R181). A job with the waste mark, or whose entry is no longer
PRINTING, is ejected (log 17). -/
def jobPresented (s : State) (j : Job) : State :=
  let done := s.onLabel (fun u => { u with job := none, printer := .presented })
  if j.waste ∨ s.labelOf j.entry ≠ some .printing then done.eject (some j.entry) .wasted
  else ((done.setLabel j.entry .presented).onLabel (fun u => { u with pad := .holding j.entry })).displace

/-- A PRESENTED report (R177, R181). -/
def printerPresented (s : State) : State :=
  match s.label.printer, s.label.job with
  | .printing, some j => State.settle s (s.jobPresented j)
  | .printing, none | .ready, _ | .presented, _ | .fault _, _ => State.settle s s.unexpectedLabel

/-- A FAULT report (R176). -/
def printerFaulted (s : State) (kind : FaultKind) : State :=
  match s.label.printer with
  | .fault k =>
    if k = kind then s
    else (s.onLabel (fun u => { u with printer := .fault kind })).printerNotice .state
  | .ready | .printing | .presented => State.settle s (s.enterFault kind)

/-- The job timer expires while the printer is PRINTING (R175). -/
def jobExpires (s : State) : State :=
  if s.label.printer = .printing ∧ s.label.job.isSome then
    let stopped := s.onLabel (fun u => { u with
      job := u.job.map (fun j => { j with timer := 0 })
      stats := { u.stats with timeouts := bump Config.stat32 u.stats.timeouts } })
    State.settle s (stopped.enterFault .timeout)
  else s

/-- The query timer expires in FAULT: QUERY is sent and the timer restarts (R176). -/
def queryExpires (s : State) : State :=
  if s.printerFault then
    s.onLabel (fun u => { u with query := Config.queryPeriod, sent := some .query })
  else s

/-- The tamp phase EXTEND ends (R185). -/
def extendEnds (s : State) : State :=
  match s.label.tamp with
  | .extend e _ => s.onLabel (fun u => { u with tamp := .dwell e (tampDwell s.settings.host.applyMs) })
  | .retracted | .armed .. | .dwell .. | .retract .. => s

/-- The tamp phase DWELL ends (R185). -/
def dwellEnds (s : State) : State :=
  match s.label.tamp with
  | .dwell e _ => s.onLabel (fun u => { u with tamp := .retract e (tampStroke s.settings.host.applyMs) })
  | .retracted | .armed .. | .extend .. | .retract .. => s

/-- The tamp phase RETRACT ends with a reading of the pad sensor (R185). -/
def retractEnds (s : State) (sensor : PadSensor) : State :=
  match s.label.tamp with
  | .retract e _ => State.settle s (s.verdict e sensor)
  | .retracted | .armed .. | .extend .. | .dwell .. => s

end State

/-! ## Field events and timers. Each expiry takes effect while its timer runs (log 20). -/

/-- PRINTER_READY_REPORT (R173). -/
def execPrinterReadyReport (s : State) : Host.Outcome State Fault Refusal :=
  .next (s.whenRunning State.printerReady)

/-- PRINTER_PRESENTED_REPORT (R181). -/
def execPrinterPresentedReport (s : State) : Host.Outcome State Fault Refusal :=
  .next (s.whenRunning State.printerPresented)

/-- PRINTER_FAULT_REPORT (R176). -/
def execPrinterFaultReport (kind : ReportedFault) (s : State) : Host.Outcome State Fault Refusal :=
  .next (s.whenRunning (fun s => s.printerFaulted kind.kind))

/-- JOB_TIMER_EXPIRY (R175). -/
def execJobTimerExpiry (s : State) : Host.Outcome State Fault Refusal :=
  .next (s.whenRunning State.jobExpires)

/-- QUERY_TIMER_EXPIRY (R176). -/
def execQueryTimerExpiry (s : State) : Host.Outcome State Fault Refusal :=
  .next (s.whenRunning State.queryExpires)

/-- TAMP_EXTEND_END (R185). -/
def execTampExtendEnd (s : State) : Host.Outcome State Fault Refusal :=
  .next (s.whenRunning State.extendEnds)

/-- TAMP_DWELL_END (R185). -/
def execTampDwellEnd (s : State) : Host.Outcome State Fault Refusal :=
  .next (s.whenRunning State.dwellEnds)

/-- TAMP_RETRACT_END (R185). -/
def execTampRetractEnd (sensor : PadSensor) (s : State) : Host.Outcome State Fault Refusal :=
  .next (s.whenRunning (fun s => s.retractEnds sensor))

/-! ## Requests -/

/-- The item number of a tracked entry. -/
def State.itemOf (s : State) (id : Nat) : Option Nat := (s.findEntry id).bind (·.itemNumber?)

/-- The entry of the label on the pad. -/
def padEntry : Pad → Option Nat
  | .empty => none
  | .holding e | .applying e => some e

/-- The entry of the tamp cycle. -/
def tampEntry : Tamp → Option Nat
  | .retracted => none
  | .armed e _ | .extend e _ | .dwell e _ | .retract e _ => some e

/-- The reply of L_STATUS with a reading of the pad sensor (R189). A stopped timer shows its last value, and a job
the number of its own record (log 65). -/
def State.labelView (s : State) (sensor : PadSensor) : LabelView :=
  let u := s.label
  { printer := u.printer
    job := u.job.map (fun j => (j.record.number, j.timer, j.interrupted, j.waste))
    query := u.query
    pad := u.pad, padItem := (padEntry u.pad).bind s.itemOf, sensor := sensor
    tamp := u.tamp, tampItem := (tampEntry u.tamp).bind s.itemOf
    diverter := u.diverter
    labelLength := s.settings.host.labelLength, printSpeed := s.settings.host.printSpeed
    printMs := s.settings.host.printMs, applyMs := s.settings.host.applyMs }

/-- L_STATUS (R189). The pad sensor reads a free value (log 9). -/
def serveLStatus (i : SlotId) (s : State) : State :=
  s.draw.2.ok i (.label (s.labelView (Config.padSensor s.draw.1)))

/-- L_STATS (R189): the statistics are cleared after their values have been taken into the reply. -/
def serveLStats (clear : Bool) (i : SlotId) (s : State) : State :=
  let reply := Fields.labelStats s.label.stats
  (if clear then s.onLabel (fun u => { u with stats := {} }) else s).ok i reply

/-- L_STATUS. -/
def execLStatus (tag : Byte) (s : State) : Host.Outcome State Fault Refusal :=
  .next (s.request tag .lStatus serveLStatus)

/-- L_STATS. -/
def execLStats (tag : Byte) (clear : Bool) (s : State) : Host.Outcome State Fault Refusal :=
  .next (s.request tag .lStats (serveLStats clear))

end Sys2Proof.Machine
end

