-- ==== Sys2Proof/Machine/Gauges.lean ====
section
/-! DEFINITION. The dimension gauges (02_dimension_gauges.md): counting, referencing, the latch, the
button, dimension requests and the G_ requests. -/

namespace Sys2Proof.Machine

/-! ## Counting (R24 to R26, R28) -/

/-- What a change of the phase pair is (R24, R25). -/
inductive PhaseStep where
  | none | forward | backward | error
deriving DecidableEq, Repr

/-- The pair that follows a held pair in the forward order 00, 01, 11, 10, 00 (R24). -/
def nextPair (p : BitVec 2) : BitVec 2 :=
  if p = 0#2 then 1#2 else if p = 1#2 then 3#2 else if p = 3#2 then 2#2 else 0#2

/-- A new pair judged against the held pair (R24, R25). -/
def phaseStep (held new : BitVec 2) : PhaseStep :=
  if new = held then .none
  else if new = nextPair held then .forward
  else if held = nextPair new then .backward
  else .error

/-- The range test of a referenced axis (R28). -/
def rangeState (count : Int) : AxisState := if 0 ≤ count ∧ count ≤ 3000 then .ready else .over

/-- The axis is in READY or OVER, where its count is valid. -/
def AxisRec.referenced (a : AxisRec) : Bool := a.state != .unreferenced

/-- The axis after one counted step by `delta`, and whether it met the count limit while referenced
(R24, R26, R28). -/
def AxisRec.count1 (a : AxisRec) (pair : BitVec 2) (delta : Int) : AxisRec × Bool :=
  if a.count + delta < -32768 ∨ 32767 < a.count + delta then
    ({ a with pair := pair, state := .unreferenced }, a.referenced)
  else
    ({ a with
        pair := pair, count := a.count + delta
        state := if a.referenced then rangeState (a.count + delta) else .unreferenced }, false)

/-- The axis after a phase error, and whether it was referenced (R25). -/
def AxisRec.phaseError (a : AxisRec) (pair : BitVec 2) : AxisRec × Bool :=
  ({ a with
      pair := pair, phaseErrors := bump Config.stat16 a.phaseErrors, state := .unreferenced },
    a.referenced)

/-- The axis after a new phase pair, and the event to report (R24 to R26). -/
def AxisRec.step (a : AxisRec) (pair : BitVec 2) : AxisRec × Option GaugeEvent :=
  match phaseStep a.pair pair with
  | .none => (a, none)
  | .forward => ((a.count1 pair 1).1, if (a.count1 pair 1).2 then some .countLimit else none)
  | .backward => ((a.count1 pair (-1)).1, if (a.count1 pair (-1)).2 then some .countLimit else none)
  | .error => ((a.phaseError pair).1, if (a.phaseError pair).2 then some .phaseError else none)

/-! ## Referencing (R27) -/

/-- The axis after a home event with its home offset, and the notices' events in order (R27). -/
def AxisRec.home (a : AxisRec) (offset : Nat) : AxisRec × List GaugeEvent :=
  let correction : Int := offset - a.count
  if a.referenced then
    ({ a with closed := true, count := offset, state := .ready, correction := some correction },
      if correction.natAbs > 4 then [.homeSlip correction] else [])
  else ({ a with closed := true, count := offset, state := .ready }, [.referenced])

/-! ## The latch (R29, R33) -/

/-- A count in whole centimetres: divided by 20, rounded up (R33). -/
def centimetres (count : Int) : Nat := ceilDiv count.toNat 20

/-- The first axis, in the order L, W, H, that is not READY (R29). -/
def Gauge.notReady (g : Gauge) : Option Axis := Axis.all.find? (fun a => (g.axes.get a).state != .ready)

/-- The gauge after a latch with a source, and the axis that failed it (R29). -/
def Gauge.latch (g : Gauge) (source : LatchSource) : Gauge × Option Axis :=
  match g.notReady with
  | none =>
    let counts := g.axes.map (·.count)
    ({ g with record := some ⟨counts, counts.map centimetres, source, source == .rating⟩ }, none)
  | some a =>
    (match g.record with
      | some r => if r.claimed then g else { g with record := none }
      | none => g, some a)

/-- The gauge's record is claimed for an item (R30, R31). -/
def Gauge.claimed (g : Gauge) : Bool :=
  match g.record with
  | some r => r.claimed
  | none => false

/-- A dimension request of the Item Manager: the claimed record handed over, or the axis that failed a
latch (R32). -/
def Gauge.requestDims (g : Gauge) : Gauge × Except Axis LatchRecord :=
  match g.record with
  | some r => ({ g with record := some { r with claimed := true } }, .ok { r with claimed := true })
  | none =>
    match g.latch .rating with
    | (g', some a) => (g', .error a)
    | (g', none) =>
      match g'.record with
      | some r => (g', .ok r)
      | none => (g', .error .length)

/-- The states of the three axes. -/
def Gauge.states (g : Gauge) : Three AxisState := g.axes.map (·.state)

namespace State

/-- A GAUGE_FAULT notice of one axis (R35). -/
def axisNotice (s : State) (g : Pos) (a : Axis) (ev : GaugeEvent) : State :=
  let x := (s.gauges.get g).axes.get a
  s.offer (.gaugeFault g ev (some (a, x.state, x.count)))

/-- One axis of a gauge replaced. -/
def setAxis (s : State) (g : Pos) (a : Axis) (x : AxisRec) : State :=
  s.onGauge g (fun u => { u with axes := u.axes.set a x })

/-- The Item Manager releases the record of gauge k, claimed or not (R32). -/
def releaseLatch (s : State) (k : Pos) : State := s.onGauge k (fun u => { u with record := none })

/-- A home event of an axis (R27). -/
def homeEvent (s : State) (g : Pos) (a : Axis) : State :=
  let x := (s.gauges.get g).axes.get a
  let after := x.home ((s.settings.host.homeOffsets.get g).get a)
  after.2.foldl (fun s ev => s.axisNotice g a ev) (s.setAxis g a after.1)

/-- A new phase pair of an axis (R24 to R26). -/
def phasePair (s : State) (g : Pos) (a : Axis) (pair : BitVec 2) : State :=
  let after := ((s.gauges.get g).axes.get a).step pair
  match after.2 with
  | none => s.setAxis g a after.1
  | some ev => (s.setAxis g a after.1).axisNotice g a ev

/-- A press of the latch button of gauge g (R30). -/
def buttonPress (s : State) (g : Pos) : State :=
  let u := s.gauges.get g
  if u.button = .pressed then s
  else if u.claimed then s.onGauge g (fun u => { u with button := .pressed })
  else
    match u.latch .button with
    | (u', none) => s.onGauge g (fun _ => { u' with button := .pressed })
    | (u', some a) =>
      (s.onGauge g (fun _ => { u' with button := .pressed })).axisNotice g a .latchFailed

end State

/-! ## Field events. A part without power or held in reset only sees the lines (log 21). -/

/-- ENCODER_STEP. -/
def execEncoderStep (gauge : Pos) (axis : Axis) (pair : BitVec 2) (s : State) :
    Host.Outcome State Fault Refusal :=
  .next (if s.running then s.phasePair gauge axis pair
    else s.setAxis gauge axis { (s.gauges.get gauge).axes.get axis with pair := pair })

/-- HOME_EVENT: the switch line passes from open to closed (R27). -/
def execHomeEvent (gauge : Pos) (axis : Axis) (s : State) : Host.Outcome State Fault Refusal :=
  .next (if s.running then s.homeEvent gauge axis
    else s.setAxis gauge axis { (s.gauges.get gauge).axes.get axis with closed := true })

/-- HOME_SWITCH_OPENED: the line passes from closed to open, which does nothing else (R27). -/
def execHomeSwitchOpened (gauge : Pos) (axis : Axis) (s : State) : Host.Outcome State Fault Refusal :=
  .next (s.setAxis gauge axis { (s.gauges.get gauge).axes.get axis with closed := false })

/-- BUTTON_PRESS (R30). -/
def execButtonPress (gauge : Pos) (s : State) : Host.Outcome State Fault Refusal :=
  .next (if s.running then s.buttonPress gauge
    else s.onGauge gauge (fun u => { u with button := .pressed }))

/-- BUTTON_RELEASE (R30). -/
def execButtonRelease (gauge : Pos) (s : State) : Host.Outcome State Fault Refusal :=
  .next (s.onGauge gauge (fun u => { u with button := .released }))

/-! ## Requests -/

/-- G_LATCH (R31). -/
def serveGLatch (gauge : Nat) (i : SlotId) (s : State) : State :=
  atPosition gauge .gauge i s fun g =>
    let u := s.gauges.get g
    match u.record with
    | some r =>
      if r.claimed then s.refuse i .latchHeld (.latch r) else serveLatch g u
    | none => serveLatch g u
where
  /-- The latch of an unclaimed gauge, answered at once. -/
  serveLatch (g : Pos) (u : Gauge) : State :=
    match u.latch .request with
    | (u', some a) =>
      (s.onGauge g (fun _ => u')).refuse i .gaugeNotReady (.latchFailed a u'.states)
    | (u', none) =>
      match u'.record with
      | some r => (s.onGauge g (fun _ => u')).ok i (.latch r)
      | none => (s.onGauge g (fun _ => u')).ok i

/-- The reply of G_STATUS (R35). -/
def Gauge.view (g : Gauge) (offsets : Three Nat) : GaugeView :=
  let axis (a : Axis) : AxisView :=
    let x := g.axes.get a
    { state := x.state, count := x.count, valid := x.referenced, pair := x.pair, closed := x.closed
      homeOffset := offsets.get a, correction := x.correction, phaseErrors := x.phaseErrors }
  { axes := ⟨axis .length, axis .width, axis .height⟩, button := g.button, record := g.record }

/-- G_STATUS (R35). -/
def serveGStatus (gauge : Nat) (i : SlotId) (s : State) : State :=
  atPosition gauge .gauge i s fun g =>
    s.ok i (.gauge ((s.gauges.get g).view (s.settings.host.homeOffsets.get g)))

/-- G_LATCH. -/
def execGLatch (tag : Byte) (gauge : Nat) (s : State) : Host.Outcome State Fault Refusal :=
  .next (s.request tag .gLatch (serveGLatch gauge))

/-- G_STATUS. -/
def execGStatus (tag : Byte) (gauge : Nat) (s : State) : Host.Outcome State Fault Refusal :=
  .next (s.request tag .gStatus (serveGStatus gauge))

end Sys2Proof.Machine
end

