-- ==== Sys2Proof/Machine/Cache.lean ====
section
/-! DEFINITION. The rate cache (04_rate_cache_and_tariff_walks.md): entries and hits, lookups, the start
of a walk, installing and replacing, purges and the C_ requests. Walk reads stand in Walks.lean. -/

namespace Sys2Proof.Machine

/-! ## Hits (R60 to R62) -/

/-- A point entry hits a price lookup (R60). -/
def pointHits (gen service zone cw : Nat) (e : PointEntry) : Bool :=
  e.valid && e.generation == gen && e.service == service && e.zone == zone && e.low < cw && cw ≤ e.high

/-- A band entry hits a price lookup (R61). -/
def bandHits (gen service zone cw : Nat) (e : BandEntry) : Bool :=
  e.valid && e.generation == gen && e.service == service && e.zone == zone && e.start < cw &&
    cw ≤ e.maxWeight

/-- A lookaside hits a zone lookup (R62). -/
def lookasideHits (gen x : Nat) (e : Lookaside) : Bool :=
  e.valid && e.generation == gen && e.low ≤ x && x ≤ e.high

/-! ## Statistics (R74) -/

/-- A 32-bit statistic increased by one (R74). -/
def bump32 (n : Nat) : Nat := bump Config.stat32 n

/-- The statistics changed by `f`. -/
def Cache.count (c : Cache) (f : CacheStats → CacheStats) : Cache := { c with stats := f c.stats }

/-! ## Walks begin (R65, R67, R68) -/

/-- The record of the group a zone search reads (R67). -/
def midpoint (lo hi : Nat) : Nat := (lo + hi) / 2

/-- Image offset of zone range record i of the group (R67). -/
def zonePlace (services i : Nat) : Nat := 33 + 74 * services + 12 * (i - 1)

/-- Image offset of a service record by its record number: the header is record 1 and the first service
record stands at offset 33 (R41, R42). -/
def servicePlace (record : Nat) : Nat := 33 + 74 * (record - 2)

/-- The walk a zone lookup begins (R67). -/
def zoneWalk (t : Summary) (bank : Bank) (gen : Nat) (k : Pos) (x : Nat) : Walk :=
  let m := midpoint 1 t.header.nZones
  { lookup := .zone k x, bank := bank, generation := gen, stage := .zone 1 t.header.nZones
    place := zonePlace t.header.nServices m, record := 1 + t.header.nServices + m
    reads := 0, retry := false, services := t.header.nServices, ladderRecords := [] }

/-- The walk a price lookup begins (R68). -/
def rateWalk (t : Summary) (v : Service) (bank : Bank) (gen zone cw : Nat) : Walk :=
  { lookup := .price v.code zone cw, bank := bank, generation := gen, stage := .service
    place := servicePlace v.record, record := v.record
    reads := 0, retry := false, services := t.header.nServices, ladderRecords := v.ladderRecords }

namespace State

/-- The ACTIVE bank, if there is one (R39). -/
def activeBank (s : State) : Option Bank :=
  if s.tariff.banks.a.state = .active then some .a
  else if s.tariff.banks.b.state = .active then some .b
  else none

/-- The STAGED bank, if there is one (R39). -/
def stagedBank (s : State) : Option Bank :=
  if s.tariff.banks.a.state = .staged then some .a
  else if s.tariff.banks.b.state = .staged then some .b
  else none

/-- The ACTIVE bank with the active summary. -/
def tariffInForce (s : State) : Option (Bank × Summary) :=
  match s.activeBank, s.tariff.active with
  | some k, some t => some (k, t)
  | _, _ => none

/-- A walk begins: it asks the port for its first read (R65). -/
def beginWalk (s : State) (w : Walk) : State :=
  (s.onCache (fun c => { c with walk := some w })).ask (.walk w.bank w.place)

/-- A price lookup taken by the unit: answered at once, or a rate walk begins (R63). -/
def takePrice (s : State) (service zone cw : Nat) : State × Option Answer :=
  match s.tariffInForce with
  | none => (s, some .noTariff)
  | some (bank, t) =>
    match t.services.find? (fun v => v.code == service) with
    | none => (s, some .notOffered)
    | some v =>
      let gen := s.tariff.generation
      match s.cache.points.toList.find? (pointHits gen service zone cw) with
      | some e =>
        (s.onCache (fun c => c.count (fun n => { n with pointHits := bump32 n.pointHits })),
          some (.step e.price e.low e.high))
      | none =>
        match s.cache.bands.toList.find? (bandHits gen service zone cw) with
        | some e =>
          (s.onCache (fun c => c.count (fun n => { n with bandHits := bump32 n.bandHits })),
            some (.tail e.start e.price e.step e.increment))
        | none =>
          ((s.onCache (fun c => c.count (fun n => { n with priceMisses := bump32 n.priceMisses }))).beginWalk
            (rateWalk t v bank gen zone cw), none)

/-- A zone lookup taken by the unit: answered at once, or a zone walk begins (R64). -/
def takeZone (s : State) (k : Pos) (x : Nat) : State × Option Answer :=
  match s.tariffInForce with
  | none => (s, some .noTariff)
  | some (bank, t) =>
    let e := s.cache.lookasides.get k
    if lookasideHits s.tariff.generation x e then
      (s.onCache (fun c => c.count (fun n => { n with zoneHits := bump32 n.zoneHits })),
        some (.zoneFound e.zone e.sort))
    else
      ((s.onCache (fun c => c.count (fun n => { n with zoneMisses := bump32 n.zoneMisses }))).beginWalk
        (zoneWalk t bank s.tariff.generation k x), none)

/-- A lookup taken by the unit (R63, R64). -/
def takeLookup (s : State) : Lookup → State × Option Answer
  | .zone k x => s.takeZone k x
  | .price v z cw => s.takePrice v z cw

/-- The Rating Unit gives a lookup: while a walk is in progress it waits (R65). -/
def giveLookup (s : State) (l : Lookup) : State × Option Answer :=
  if s.cache.walk.isSome then (s.onCache (fun c => { c with waiting := some l }), none)
  else s.takeLookup l

end State

/-! ## Installing and replacing (R69, R70) -/

/-- The index an entry takes: the first invalid one, else the replacement pointer (R70). -/
def placeFor {n : Nat} (valid : Fin n → Bool) (indices : List (Fin n)) (ptr : Fin n) : Fin n × Bool :=
  match indices.find? (fun i => !valid i) with
  | some i => (i, false)
  | none => (ptr, true)

/-- A point entry installed, unless a valid entry has its generation, service, zone and low (R69, R70). -/
def Cache.installPoint (c : Cache) (e : PointEntry) : Cache :=
  if c.points.toList.any (fun o => o.valid && o.generation == e.generation && o.service == e.service &&
      o.zone == e.zone && o.low == e.low) then c
  else
    let at' := placeFor (fun i => c.points[i].valid) (List.finRange 48) c.pointPtr
    { c with
      points := c.points.set at'.1 e
      pointPtr := if at'.2 then c.pointPtr + 1 else c.pointPtr }

/-- A band entry installed, unless a valid entry has its generation, service and zone (R69, R70). -/
def Cache.installBand (c : Cache) (e : BandEntry) : Cache :=
  if c.bands.toList.any (fun o => o.valid && o.generation == e.generation && o.service == e.service &&
      o.zone == e.zone) then c
  else
    let at' := placeFor (fun i => c.bands[i].valid) (List.finRange 8) c.bandPtr
    { c with
      bands := c.bands.set at'.1 e
      bandPtr := if at'.2 then c.bandPtr + 1 else c.bandPtr }

/-- A lookaside installed at a position; what it held is replaced (R67). -/
def Cache.installLookaside (c : Cache) (k : Pos) (e : Lookaside) : Cache :=
  { c with lookasides := c.lookasides.set k e }

/-! ## Purges (R71) -/

/-- Every entry invalid, both pointers 0; statistics and the walk in progress as they were (R71). -/
def Cache.purge (c : Cache) : Cache :=
  { c with
    points := c.points.map (fun e => { e with valid := false })
    bands := c.bands.map (fun e => { e with valid := false })
    lookasides := c.lookasides.map (fun e => { e with valid := false })
    pointPtr := 0
    bandPtr := 0 }

/-! ## Requests -/

/-- C_PURGE (R73). -/
def serveCPurge (i : SlotId) (s : State) : State := (s.onCache Cache.purge).ok i

/-- The walk serves a zone lookup. -/
def Walk.isZone (w : Walk) : Bool :=
  match w.lookup with
  | .zone .. => true
  | .price .. => false

/-- The reply of C_STATS (R74). -/
def Cache.view (c : Cache) (generation : Nat) : CacheView :=
  { stats := c.stats
    validPoints := (c.points.toList.filter (·.valid)).length
    validBands := (c.bands.toList.filter (·.valid)).length
    validLookasides := (c.lookasides.toList.filter (·.valid)).length
    pointPtr := c.pointPtr, bandPtr := c.bandPtr, generation := generation
    walk := c.walk.map (fun w => (w.isZone, w.generation, w.reads)) }

/-- C_STATS (R74): the statistics are cleared after their values have been taken into the reply. -/
def serveCStats (clear : Bool) (i : SlotId) (s : State) : State :=
  let reply := Fields.cache (s.cache.view s.tariff.generation)
  (if clear then s.onCache (fun c => { c with stats := {} }) else s).ok i reply

/-- C_READ (R75). A BAD_FIELD names the kind, or the index where the kind is one (log 29). -/
def serveCRead (kind : CacheKind) (index : Nat) (i : SlotId) (s : State) : State :=
  match kind with
  | .point => if h : index < 48 then s.ok i (.point s.cache.points[index]) else s.badField i .index
  | .band => if h : index < 8 then s.ok i (.band s.cache.bands[index]) else s.badField i .index
  | .lookaside =>
    match Pos.ofNumber index with
    | some k => s.ok i (.lookaside (s.cache.lookasides.get k))
    | none => s.badField i .index
  | .other => s.badField i .kind

/-- C_PURGE. -/
def execCPurge (tag : Byte) (s : State) : Host.Outcome State Fault Refusal :=
  .next (s.request tag .cPurge serveCPurge)

/-- C_STATS. -/
def execCStats (tag : Byte) (clear : Bool) (s : State) : Host.Outcome State Fault Refusal :=
  .next (s.request tag .cStats (serveCStats clear))

/-- C_READ. -/
def execCRead (tag : Byte) (kind : CacheKind) (index : Nat) (s : State) :
    Host.Outcome State Fault Refusal :=
  .next (s.request tag .cRead (serveCRead kind index))

end Sys2Proof.Machine
end

