-- ==== Sys2Proof/Machine/Weighing.lean ====
section
/-! DEFINITION. The weighing channels (01_weighing_channels.md): conversion, settling, zero, tare,
calibration, captures and comparators of one channel, its notices, and the W_ requests. What a sample
does beyond its channel stands in Sampling.lean. -/

namespace Sys2Proof.Machine

/-! ## From raw count to weight -/

/-- The fine weight of a raw count about a zero, in 0.1 g (R3). -/
def fineAbout (zero k raw : Int) : Int := roundHalfAway ((raw - zero) * 10000) k.toNat

/-- The interval e at a fine weight (R4). -/
def intervalAt (f : Int) : Nat := if f ≤ 60000 then 2 else 10

/-- The reported gross of a fine weight: f/10 g to the nearest multiple of e, halves up (R4). -/
def reportedGross (f : Int) : Int :=
  (f + 5 * intervalAt f) / (10 * intervalAt f) * intervalAt f

/-- The mean of raw counts, rounded half away from zero to a whole count (R6). -/
def meanOf (window : List Int) : Int := roundHalfAway window.sum window.length

namespace Channel

/-- The fine gross weight of a raw count (R3). -/
def fine (c : Channel) (raw : Int) : Int := fineAbout c.zw c.k raw

/-- The window's mean raw count (R6). -/
def mean (c : Channel) : Int := meanOf c.window

/-- Whether the window is settled: it holds N samples, each within B intervals of the mean (R6). -/
def windowSettled (c : Channel) : Bool :=
  c.window.length == c.n &&
  c.window.all (fun r => (c.fine r - c.fine c.mean).natAbs ≤ c.b * intervalAt (c.fine c.mean) * 10)

/-- A raw count within 600 g of Z0 (R10). -/
def nearZ0 (c : Channel) (raw : Int) : Bool :=
  match c.z0 with
  | none => false
  | some z => (fineAbout z c.k raw).natAbs ≤ 6000

/-- The report a sample or a mean gives, with the tare in force (R4). -/
def reportOf (c : Channel) (f : Int) : Report :=
  ⟨reportedGross f, reportedGross f - c.tare.getD 0, intervalAt f, false⟩

/-- The report as W_STATUS and notices show it: absent in OVER, UNDER and ZEROING (R4, log 15). -/
def shownReport (c : Channel) : Option Report :=
  match c.state with
  | .over | .under | .zeroing => none
  | .offline | .motion | .stable => c.report

/-- A sample enters the window, the oldest leaving when N are held; the miss count returns to 0 and the
sample timer restarts (R1, R6). -/
def enter (c : Channel) (raw : Int) : Channel :=
  { c with
    window := (if c.n ≤ c.window.length then c.window.drop (c.window.length + 1 - c.n) else c.window)
      ++ [raw]
    missCount := 0
    sampleTimer := Config.samplePeriod }

/-- The settled result computed at a sample (R6). -/
def judge (c : Channel) : Channel := { c with settled := c.windowSettled }

/-- The state a sample decides (R8). -/
def decided (c : Channel) (raw : Int) : ChanState :=
  if c.z0.isNone then .zeroing
  else if c.fine raw > 300900 then .over
  else if c.fine raw < -400 then .under
  else if c.settled then .stable
  else .motion

/-- A ZEROING channel tries its settled window as initial zero (R9): the channel after the try, and
whether ZERO_RANGE is to be reported. -/
def tryZero (c : Channel) : Channel × Bool :=
  if c.state = .zeroing ∧ c.settled then
    if (fineAbout c.zc c.k c.mean).natAbs ≤ 30000 then
      ({ c with z0 := some c.mean, zw := c.mean, state := .stable }, false)
    else ({ c with zeroRangeSent := true }, !c.zeroRangeSent)
  else (c, false)

/-- Zero tracking (R11). -/
def track (c : Channel) : Channel :=
  if c.state = .stable ∧ c.tare.isNone ∧ c.capture.isNone ∧ (c.fine c.mean).natAbs ≤ 10 ∧ c.nearZ0 c.mean
  then { c with zw := c.mean } else c

/-- The report made at a sample: of the mean in STABLE, of the sample in MOTION, none else (R4). -/
def makeReport (c : Channel) (raw : Int) : Channel :=
  match c.state with
  | .stable => { c with report := some (c.reportOf (c.fine c.mean)) }
  | .motion => { c with report := some (c.reportOf (c.fine raw)) }
  | .offline | .zeroing | .over | .under => c

/-- The channel is in MOTION or STABLE, where comparators are evaluated (R18). -/
def weighs (c : Channel) : Bool := c.state == .motion || c.state == .stable

/-- The reported net, when the channel weighs. -/
def netNow (c : Channel) : Int := (c.report.map (·.net)).getD 0

/-- A held capture released: record absent, DISTURB disarmed, SERVICE_LIMIT unloaded (R17). A release
that finds no capture changes nothing. -/
def release (c : Channel) : Channel :=
  match c.capture with
  | none => c
  | some _ => { c with capture := none, disturb := none, limit := none }

/-- REMOVAL evaluated at a sample; a true value clears the removal interlock (R18). -/
def judgeRemoval (c : Channel) : Channel :=
  if c.weighs then
    { c with removal := decide (c.netNow < 10), interlock := c.interlock && !decide (c.netNow < 10) }
  else c

/-- DISTURB fires at a sample (R19): the net differs from the captured net by more than 2e, or the
channel passed from MOTION or STABLE into OVER or UNDER. -/
def disturbFires (c : Channel) (before : ChanState) : Bool :=
  match c.disturb with
  | none => false
  | some net =>
    if c.weighs then (c.netNow - net).natAbs > 2 * ((c.capture.map (·.e)).getD 0)
    else (before == .motion || before == .stable) && (c.state == .over || c.state == .under)

/-- SERVICE_LIMIT fires at a sample (R20). -/
def limitFires (c : Channel) : Bool :=
  match c.limit with
  | none => false
  | some most => c.weighs && decide (c.netNow > most)

/-- The capture a STABLE report gives, or the refusal (R15). -/
def captureNow (c : Channel) (minute : Option Minute) : Except Reason Capture :=
  match c.report with
  | none => .error .tooLight
  | some r =>
    if r.net < 20 then .error .tooLight
    else if r.net > 30000 then .error .tooHeavy
    else .ok ⟨r.net, r.e, minute⟩

/-- A capture written: the record, and DISTURB armed with its net (R15). -/
def takeCapture (c : Channel) (x : Capture) : Channel :=
  { c with capture := some x, disturb := some x.net, waiting := none }

end Channel

/-! ## Notices of a channel (R21) -/

/-- Whether the class of an event is enabled (R21). -/
def Enables.allows (e : Enables) : WeightEvent → Bool
  | .change .motion .stable | .change .stable .motion => e.motionStable
  | .change _ _ | .zeroRange => e.fault
  | .removalOn | .removalOff => e.removal
  | .disturb => e.disturb
  | .serviceLimit => e.serviceLimit

namespace State

/-- A WEIGHT_STATE notice of channel k, if its class is enabled (R21). -/
def weightNotice (s : State) (k : Pos) (ev : WeightEvent) : State :=
  if Enables.allows (s.channel k).enables ev then
    s.offer (.weightState k ev (s.channel k).state (s.channel k).shownReport)
  else s

/-- The notice of a change of state of channel k; none when the state is as before (R8). -/
def changeNotice (s : State) (k : Pos) (before : ChanState) : State :=
  if (s.channel k).state = before then s else s.weightNotice k (.change before (s.channel k).state)

/-- SERVICE_LIMIT of channel k loaded; ignored when no capture is held (R20). -/
def loadLimit (s : State) (k : Pos) (most : Nat) : State :=
  s.onChannel k (fun c => if c.capture.isSome then { c with limit := some most } else c)

/-- SERVICE_LIMIT of channel k unloaded (R20). -/
def unloadLimit (s : State) (k : Pos) : State := s.onChannel k (fun c => { c with limit := none })

/-- The Item Manager releases the capture of channel k (R17). -/
def releaseCapture (s : State) (k : Pos) : State := s.onChannel k Channel.release

end State

/-- The answer to a capture request: a capture, a refusal, or the request waits (R15). -/
inductive CaptureAnswer where
  | captured (x : Capture)
  | refused (r : Reason)
  | waits
deriving DecidableEq, Repr

/-- A capture request at a channel in a state that answers at once or waits (R15). -/
def Channel.requestCapture (c : Channel) (minute : Option Minute) (timeout : Nat) :
    Channel × CaptureAnswer :=
  match c.capture with
  | some x => (c, .captured x)
  | none =>
    if c.calibration ≠ .calibrated then (c, .refused .uncalibrated)
    else if c.interlock then (c, .refused .removeFirst)
    else
      match c.state with
      | .offline => (c, .refused .channelOffline)
      | .zeroing => (c, .refused .channelZeroing)
      | .over => (c, .refused .channelOver)
      | .under => (c, .refused .channelUnder)
      | .motion => ({ c with waiting := some timeout }, .waits)
      | .stable =>
        match c.captureNow minute with
        | .ok x => (c.takeCapture x, .captured x)
        | .error r => (c, .refused r)

/-! ## Requests -/

/-- The refusal of a request that needs a STABLE channel (R10, R12). -/
def notStable : ChanState → Option Reason
  | .offline => some .channelOffline
  | .zeroing => some .channelZeroing
  | .motion | .over | .under => some .unstable
  | .stable => none

/-- Channel k after W_SET with the values used: a changed N empties the window, and a STABLE channel then
enters MOTION (R7). -/
def Channel.setSettle (c : Channel) (n b : Nat) (e : Enables) : Channel :=
  if n = c.n then { c with b := b, enables := e }
  else
    { c with
      n := n, b := b, enables := e, window := [], settled := false
      state := if c.state = .stable then .motion else c.state }

/-- W_SET (R7). Its notice comes before its reply (log 46). -/
def serveWSet (channel n b : Nat) (e : Enables) (i : SlotId) (s : State) : State :=
  atPosition channel .channel i s fun k =>
    let before := (s.channel k).state
    let n' := limit 4 32 n
    let b' := limit 1 5 b
    ((s.onChannel k (fun c => c.setSettle n' b' e)).changeNotice k before).okOrClamped i
      (decide (n' ≠ n) || decide (b' ≠ b)) (.settle n' b')

/-- W_TIMEOUT (R7). -/
def serveWTimeout (ms : Nat) (i : SlotId) (s : State) : State :=
  let used := limit 500 10000 ms
  (s.onWeighing (fun w => { w with timeout := used })).okOrClamped i (decide (used ≠ ms))
    (.milliseconds used)

/-- The refusal of W_ZERO at a channel (R10). -/
def Channel.zeroRefusal (c : Channel) : Option Reason :=
  match notStable c.state with
  | some r => some r
  | none =>
    if c.capture.isSome then some .captureHeld
    else if c.tare.isSome then some .tareHeld
    else if !c.nearZ0 c.mean then some .zeroRange
    else none

/-- W_ZERO (R10). -/
def serveWZero (channel : Nat) (i : SlotId) (s : State) : State :=
  atPosition channel .channel i s fun k =>
    match (s.channel k).zeroRefusal with
    | some r => s.refuse i r
    | none => (s.onChannel k (fun c => { c with zw := c.mean })).ok i

/-- The refusal of W_TARE at a channel (R12). -/
def Channel.tareRefusal (c : Channel) : Option Reason :=
  match notStable c.state with
  | some r => some r
  | none =>
    if c.capture.isSome then some .captureHeld
    else
      match c.report with
      | none => some .tareRange
      | some r => if 1 ≤ r.gross ∧ r.gross ≤ 2000 then none else some .tareRange

/-- W_TARE (R12). -/
def serveWTare (channel : Nat) (i : SlotId) (s : State) : State :=
  atPosition channel .channel i s fun k =>
    match (s.channel k).tareRefusal with
    | some r => s.refuse i r
    | none => (s.onChannel k (fun c => { c with tare := c.report.map (·.gross) })).ok i

/-- W_CLEAR_TARE (R12). -/
def serveWClearTare (channel : Nat) (i : SlotId) (s : State) : State :=
  atPosition channel .channel i s fun k =>
    if (s.channel k).capture.isSome then s.refuse i .captureHeld
    else (s.onChannel k (fun c => { c with tare := none })).ok i

/-- The refusal of W_CALIBRATE(ZERO) at a channel (R13). A channel in MOTION is not one the request is
accepted in: its window is not settled. -/
def Channel.calibrateZeroRefusal (c : Channel) : Option Reason :=
  if c.state = .offline then some .channelOffline
  else if !c.settled || c.state == .motion then some .unstable
  else if c.capture.isSome then some .captureHeld
  else none

/-- The channel after a calibration of zero (R13): Zc, Z0 and Zw become the mean, the tare is removed, and
the channel is STABLE with gross 0. -/
def Channel.calibrateZero (c : Channel) : Channel :=
  { c with
    zc := c.mean, z0 := some c.mean, zw := c.mean, tare := none, state := .stable
    report := some ⟨0, 0, 2, false⟩
    calibration := if c.calibration = .uncalibrated then .zeroOnly else c.calibration }

/-- W_CALIBRATE(channel, ZERO) (R13). Its notice comes before its reply (log 46). -/
def serveWCalibrateZero (channel : Nat) (i : SlotId) (s : State) : State :=
  atPosition channel .channel i s fun k =>
    match (s.channel k).calibrateZeroRefusal with
    | some r => s.refuse i r
    | none => ((s.onChannel k Channel.calibrateZero).changeNotice k (s.channel k).state).ok i

/-- The K a test weight gives (R14). -/
def Channel.spanK (c : Channel) (grams : Nat) : Int := roundHalfAway ((c.mean - c.zw) * 1000) grams

/-- The refusal of W_CALIBRATE(SPAN) at a channel (R14). -/
def Channel.spanRefusal (c : Channel) (grams : Nat) : Option Reason :=
  if c.state = .offline then some .channelOffline
  else if c.state = .zeroing then some .channelZeroing
  else if !c.settled then some .unstable
  else if c.capture.isSome then some .captureHeld
  else if c.calibration = .uncalibrated then some .notZeroed
  else if c.spanK grams < 10000 ∨ c.spanK grams > 2000000 then some .kRange
  else none

/-- W_CALIBRATE(channel, SPAN, test grams) (R14). -/
def serveWCalibrateSpan (channel grams : Nat) (i : SlotId) (s : State) : State :=
  atPosition channel .channel i s fun k =>
    if grams < 1000 ∨ grams > 30000 then s.badField i .grams
    else
      match (s.channel k).spanRefusal grams with
      | some r => s.refuse i r
      | none =>
        (s.onChannel k
          (fun c => { c with k := c.spanK grams, tare := none, calibration := .calibrated })).ok i

/-- The reply of W_STATUS (R22). -/
def Channel.view (c : Channel) (timeout : Nat) : ChannelView :=
  { state := c.state, report := c.shownReport, tare := c.tare, capture := c.capture
    waiting := c.waiting.isSome, removal := c.removal, disturb := c.disturb, limit := c.limit
    interlock := c.interlock, zc := c.zc, z0 := c.z0, zw := c.zw, k := c.k
    calibration := c.calibration, n := c.n, b := c.b, enables := c.enables, timeout := timeout }

/-- W_STATUS (R22). -/
def serveWStatus (channel : Nat) (i : SlotId) (s : State) : State :=
  atPosition channel .channel i s fun k =>
    s.ok i (.channel ((s.channel k).view s.weighing.timeout))

/-! ## The request rows -/

/-- W_SET. -/
def execWSet (tag : Byte) (channel n b : Nat) (enables : Enables) (s : State) :
    Host.Outcome State Fault Refusal :=
  .next (s.request tag .wSet (serveWSet channel n b enables))

/-- W_TIMEOUT. -/
def execWTimeout (tag : Byte) (ms : Nat) (s : State) : Host.Outcome State Fault Refusal :=
  .next (s.request tag .wTimeout (serveWTimeout ms))

/-- W_ZERO. -/
def execWZero (tag : Byte) (channel : Nat) (s : State) : Host.Outcome State Fault Refusal :=
  .next (s.request tag .wZero (serveWZero channel))

/-- W_TARE. -/
def execWTare (tag : Byte) (channel : Nat) (s : State) : Host.Outcome State Fault Refusal :=
  .next (s.request tag .wTare (serveWTare channel))

/-- W_CLEAR_TARE. -/
def execWClearTare (tag : Byte) (channel : Nat) (s : State) : Host.Outcome State Fault Refusal :=
  .next (s.request tag .wClearTare (serveWClearTare channel))

/-- W_CALIBRATE(channel, ZERO). -/
def execWCalibrateZero (tag : Byte) (channel : Nat) (s : State) : Host.Outcome State Fault Refusal :=
  .next (s.request tag .wCalibrate (serveWCalibrateZero channel))

/-- W_CALIBRATE(channel, SPAN, test grams). -/
def execWCalibrateSpan (tag : Byte) (channel grams : Nat) (s : State) :
    Host.Outcome State Fault Refusal :=
  .next (s.request tag .wCalibrate (serveWCalibrateSpan channel grams))

/-- W_STATUS. -/
def execWStatus (tag : Byte) (channel : Nat) (s : State) : Host.Outcome State Fault Refusal :=
  .next (s.request tag .wStatus (serveWStatus channel))

end Sys2Proof.Machine
end

