-- ==== Sys2Proof/Machine/Rating.lean ====
section
/-! DEFINITION. The Rating Unit (05_rating.md): the stages of the computation on plain values, the pending
list and its arbiter, completion and hand-off (R84, R107), withdrawal and restart. -/

namespace Sys2Proof.Machine

/-! ## The stages (R86 to R97) -/

/-- What a stage gives: the rating is decided, or it goes on and asks a lookup next. -/
inductive Stage where
  | decided (r : RateResult)
  | goesOn (run : RatingRun)
deriving DecidableEq, Repr

/-- A result ended NOT_RATEABLE (R98). -/
def rateFail (r : RateResult) (reason : RateReason) (stage : Option RateStage := none)
    (value most : Option Nat := none) : RateResult :=
  { r with failure := some ⟨reason, stage, value, most⟩ }

/-- A dimension of 0 counts as 1 cm (R87). -/
def clampDim (d : Nat) : Nat := max 1 d

/-- The three dimensions ordered by size, largest first (R87). -/
def orderDims (d : Three Nat) : Nat × Nat × Nat :=
  let most := max d.l (max d.w d.h)
  let least := min d.l (min d.w d.h)
  (most, d.l + d.w + d.h - most - least, least)

/-- The girth (R88). -/
def girthOf (d : Nat × Nat × Nat) : Nat := d.1 + 2 * (d.2.1 + d.2.2)

/-- The volumetric weight (R89). -/
def volumetric (v : Service) (divisor : Nat) (d : Nat × Nat × Nat) : Nat :=
  if v.volumetric then ceilDiv (d.1 * d.2.1 * d.2.2 * 1000) divisor else 0

/-- The result record as a rating under a generation begins it (R99). -/
def RateRequest.blank (q : RateRequest) (generation : Nat) : RateResult :=
  { generation := generation, wt := q.wt, keyed := q.keyed }

/-- The result with what the service, dimension and volumetric stages give (R86 to R90). -/
def RateRequest.measured (q : RateRequest) (r : RateResult) (t : Summary) (v : Service) : RateResult :=
  let d := orderDims (q.dims.map clampDim)
  let vw := volumetric v t.header.divisor d
  { r with
    service := some (v.code, v.name), dims := some d, girth := some (girthOf d), vw := some vw
    cw := some (max q.wt vw), volumetricUsed := decide (q.wt < vw)
    dimsClamped := q.dims.toList.any (· == 0), expressClass := v.express }

/-- The service checks and the chargeable weight stage (R88 to R90): the first limit the parcel breaks,
with the fields worked so far. -/
def RateRequest.checked (q : RateRequest) (r : RateResult) (t : Summary) (v : Service) : Stage :=
  let m := q.measured r t v
  let d := orderDims (q.dims.map clampDim)
  let early := { m with vw := none, cw := none, volumetricUsed := false }
  let cw := m.cw.getD 0
  if d.1 > v.maxLength then
    .decided (rateFail early .oversize (some .length) (some d.1) (some v.maxLength))
  else if girthOf d > v.maxGirth then
    .decided (rateFail early .oversize (some .girth) (some (girthOf d)) (some v.maxGirth))
  else if q.value > v.cover then
    .decided (rateFail early .valueOverCover none (some q.value) (some v.cover))
  else if cw > v.maxWeight then
    .decided (rateFail m .overweight none (some cw) (some v.maxWeight))
  else .goesOn ⟨q, t, v, m⟩

/-- The start of a rating (R86), up to the zone stage. -/
def RateRequest.start (q : RateRequest) (tariff : Option Summary) (generation : Nat) : Stage :=
  match tariff with
  | none => .decided (rateFail (q.blank 0) .noTariff)
  | some t =>
    match t.services.find? (fun v => v.code == q.service) with
    | none => .decided (rateFail (q.blank generation) .notOffered none (some q.service))
    | some v => q.checked (q.blank generation) t v

/-- The destination prefix (R91). -/
def RateRequest.postPrefix (q : RateRequest) : Nat := q.postcode / 100

/-- The zone stage with its answer (R91). An answer no zone lookup has, or a RESTART, which cannot reach a
rating in progress (log 31), leaves the rating as it is. -/
def RatingRun.zoned (u : RatingRun) : Answer → Stage
  | .zoneFound z sort => .goesOn { u with result := { u.result with zone := some (z, sort) } }
  | .noZone => .decided (rateFail u.result .noZone none (some u.req.postPrefix))
  | .noTariff => .decided (rateFail u.result .noTariff)
  | .tariffFault => .decided (rateFail u.result .tariffFault)
  | .restart | .notOffered | .step .. | .tail .. | .overweight _ => .goesOn u

/-- The condition of a surcharge record (R93). -/
def surchargeHolds (c : Surcharge) (q : RateRequest) (length girth cw : Nat) : Bool :=
  match c.kind with
  | .lengthOver => length > c.threshold
  | .girthOver => girth > c.threshold
  | .weightOver => cw > c.threshold
  | .irregular => q.irregular
  | .fragile => q.fragile
  | .signature => q.signature
  | .declaredValue => q.value > c.threshold

/-- A service mask includes service s (R45). -/
def maskHas (mask : BitVec 16) (s : Nat) : Bool := mask.getLsbD (s - 1)

/-- The amount of an applied record (R93). -/
def surchargeAmount (c : Surcharge) (p0 value : Nat) : Nat :=
  if c.kind = .declaredValue then c.amount * ceilDiv (value - c.threshold) c.unit
  else if c.permille then roundHalfUp (p0 * c.amount) 1000
  else c.amount

/-- The surcharge list (R93). -/
def RatingRun.surcharges (u : RatingRun) (p0 : Nat) : List (Nat × Nat) :=
  let length := (u.result.dims.map (·.1)).getD 0
  let girth := u.result.girth.getD 0
  let cw := u.result.cw.getD 0
  (u.tariff.surcharges.filter
    (fun c => maskHas c.mask u.service.code && surchargeHolds c u.req length girth cw)).map
    (fun c => (c.code, surchargeAmount c p0 u.req.value))

/-- The sum of a surcharge list (R93). -/
def surchargeSum (l : List (Nat × Nat)) : Nat := (l.map (·.2)).sum

/-- The stages from surcharges on, worked on a base price within its limit (R93 to R97). -/
def RatingRun.totalled (u : RatingRun) (r : RateResult) (p0 : Nat) : RateResult :=
  let list := u.surcharges p0
  let sum := surchargeSum list
  let r := { r with surcharges := some list }
  if sum > Config.priceLimit then rateFail r .priceLimit (some .surcharge) (some sum)
  else
    let dsc := p0 * u.tariff.header.discounts.getD u.req.tier 0 / 1000
    let net := p0 + sum - dsc
    let r := { r with dsc := some dsc, net := some net }
    if net > Config.priceLimit then rateFail r .priceLimit (some .net) (some net)
    else
      let tax := roundHalfUp (net * u.tariff.header.tax) 10000
      let raw := net + tax
      let total := nearestMultiple raw u.tariff.header.granularity
      let r := { r with
        tax := some tax, totalRaw := some raw, total := some total, rounding := some (total - raw) }
      if total > Config.priceLimit then rateFail r .priceLimit (some .total) (some total) else r

/-- The stages on a base price with its basis (R92 to R97). -/
def RatingRun.based (u : RatingRun) (basis : Basis) (p0 : Nat) : RateResult :=
  let r := { u.result with basis := some basis, p0 := some p0 }
  if p0 > Config.priceLimit then rateFail r .priceLimit (some .base) (some p0) else u.totalled r p0

/-- The base price stage with its answer (R92). An answer no price lookup has, or a RESTART (log 31), leaves
the rating as it is. -/
def RatingRun.priced (u : RatingRun) : Answer → Stage
  | .step price _ _ => .decided (u.based .step price)
  | .tail start price step increment =>
    let k := ceilDiv (u.result.cw.getD 0 - start) step
    .decided (u.based (.tail k) (price + k * increment))
  | .notOffered => .decided (rateFail u.result .notOffered none (u.result.zone.map (·.1)))
  | .overweight last => .decided (rateFail u.result .overweight none u.result.cw (some last))
  | .noTariff => .decided (rateFail u.result .noTariff)
  | .tariffFault => .decided (rateFail u.result .tariffFault)
  | .restart | .noZone | .zoneFound .. => .goesOn u

/-- The lookup a rating waits for: a zone lookup until it has its zone, then a price lookup (R79). -/
def RatingRun.lookup (u : RatingRun) : Lookup :=
  match u.result.zone with
  | none => .zone u.req.position u.req.postPrefix
  | some (z, _) => .price u.service.code z (u.result.cw.getD 0)

/-- The stage that takes a rating's answer (R91, R92). -/
def RatingRun.answered (u : RatingRun) (a : Answer) : Stage :=
  if u.result.zone.isNone then u.zoned a else u.priced a

namespace State

/-! ## Completion (R84, R107) -/

/-- The Item Manager takes the result record of position k (R107). -/
def handResult (s : State) (k : Pos) (r : RateResult) : State :=
  match s.openSlot k with
  | .rating it _ i =>
    if r.failure.isNone then (s.setOpenSlot k (.rated it r false)).ok i (.result r)
    else (s.setOpenSlot k (.opened it)).refuse i .notRateable (.result r)
  | .idle | .opened _ | .rated .. => s

/-- A rating completes: the result is handed over, and a RATED one loads SERVICE_LIMIT after it (R84). -/
def completeRating (s : State) (k : Pos) (r : RateResult) (most : Nat) : State :=
  let handed := (s.onRating (fun u => { u with current := none })).handResult k r
  if r.failure.isNone then handed.loadLimit k most else handed

/-- A decided rating completes; one that goes on becomes the rating in progress, with its lookup given
to the cache, which answers at once or later (R79). -/
def giveOn (s : State) (k : Pos) (most : Nat) : Stage → State × Option (RatingRun × Answer)
  | .decided r => (s.completeRating k r most, none)
  | .goesOn u =>
    let asked := (s.onRating (fun n => { n with current := some u })).giveLookup u.lookup
    (asked.1, asked.2.map (fun a => (u, a)))

/-- A stage is worked and, at the same event, the stages whose lookups are answered at once: at most a
zone lookup and a price lookup (R79). -/
def workStage (s : State) (k : Pos) (most : Nat) (st : Stage) : State :=
  match s.giveOn k most st with
  | (s, none) => s
  | (s, some (u, a)) =>
    match s.giveOn k u.service.maxWeight (u.answered a) with
    | (s, none) => s
    | (s, some (u, a)) => (s.giveOn k u.service.maxWeight (u.answered a)).1

/-- The maximum weight of the service a request names, 0 where no tariff offers it. -/
def serviceMost (s : State) (code : Nat) : Nat :=
  ((s.tariffInForce.bind (fun t => t.2.services.find? (fun v => v.code == code))).map (·.maxWeight)).getD 0

/-- A request is rated from the start (R79, R86). -/
def startRating (s : State) (q : RateRequest) : State :=
  s.workStage q.position (s.serviceMost q.service)
    (q.start (s.tariffInForce.map (·.2)) s.tariff.generation)

/-- The Item Manager's phase of the slot becomes IN_PROGRESS (R106). -/
def slotInProgress (s : State) (k : Pos) : State :=
  match s.openSlot k with
  | .rating it _ i => s.setOpenSlot k (.rating it .inProgress i)
  | .idle | .opened _ | .rated .. => s

/-! ## The arbiter (R78) -/

/-- The waiting request whose position comes next after last served, with the fewest steps. -/
def nextRequest (s : State) : Option RateRequest :=
  let rec go : Nat → Pos → Option RateRequest
    | 0, _ => none
    | n + 1, k =>
      match s.rating.pendingList.find? (fun q => q.position == k) with
      | some q => some q
      | none => go n k.next
  go 6 s.rating.lastServed.next

/-- The arbiter chooses while the unit is free and requests wait; a chosen rating that completes at once
frees the unit again. -/
def arbitrateN : Nat → State → State
  | 0, s => s
  | n + 1, s =>
    match s.rating.current, s.nextRequest with
    | none, some q =>
      let chosen := s.onRating (fun r => { r with
        pendingList := r.pendingList.filter (fun o => o.position != q.position)
        lastServed := q.position })
      arbitrateN n ((chosen.slotInProgress q.position).startRating q)
    | _, _ => s

/-- The arbiter at an event that frees the unit or places a request. -/
def arbitrate (s : State) : State := arbitrateN s.rating.pendingList.length s

/-- A rating request is placed in the pending list (R77, R78). -/
def placeRating (s : State) (q : RateRequest) : State :=
  (s.onRating (fun r => { r with pendingList := r.pendingList ++ [q] })).arbitrate

/-! ## Withdrawal, restart, answers (R80 to R82) -/

/-- The lookup of the rating in progress is left: dropped from the cache when it waits there, else it
becomes the orphaned lookup (R81, R82). -/
def leaveLookup (s : State) : State :=
  match s.rating.current with
  | none => s
  | some u =>
    if s.cache.waiting.isSome then s.onCache (fun c => { c with waiting := none })
    else s.onRating (fun r => { r with orphan := some u.lookup })

/-- The Item Manager withdraws the request or the rating of position k (R80, R81). -/
def withdrawRating (s : State) (k : Pos) : State :=
  match s.rating.current with
  | some u =>
    if u.req.position = k then
      (s.leaveLookup.onRating (fun r => { r with current := none })).arbitrate
    else dropWaiting
  | none => dropWaiting
where
  /-- The request is removed from the pending list. -/
  dropWaiting : State :=
    s.onRating (fun r => { r with pendingList := r.pendingList.filter (fun q => q.position != k) })

/-- A rating in progress is restarted under the generation now in force (R82). -/
def restartRating (s : State) : State :=
  match s.rating.current with
  | none => s
  | some u => (s.leaveLookup.startRating u.req).arbitrate

/-- The rating in progress takes the answer to its lookup, and the arbiter chooses again if it ended. A
RESTART, which cannot come (R91), begins it afresh (log 31). -/
def answerRating (s : State) (a : Answer) : State :=
  match s.rating.current with
  | none => s
  | some u =>
    if a = .restart then (s.startRating u.req).arbitrate
    else (s.workStage u.req.position u.service.maxWeight (u.answered a)).arbitrate

/-- The cache takes its waiting lookup (R65). -/
def takeWaiting (s : State) : State :=
  match s.cache.waiting with
  | none => s
  | some l =>
    match (s.onCache (fun c => { c with waiting := none })).takeLookup l with
    | (s, none) => s
    | (s, some a) => s.answerRating a

/-- A walk has ended with an answer: it goes to the rating in progress, or is dropped as an orphan's,
and the cache then takes the waiting lookup (R65, R81). -/
def endWalk (s : State) (a : Answer) : State :=
  let ended := s.onCache (fun c => { c with walk := none })
  if s.rating.orphan.isSome then
    (ended.onRating (fun r => { r with orphan := none })).takeWaiting
  else (ended.answerRating a).takeWaiting

end State

end Sys2Proof.Machine
end

