-- ==== Sys2Proof/Machine/Items.lean ====
section
/-! DEFINITION. The Item Manager (06_items_and_numbers.md): the open-item slots, rating an item, confirmation,
disturbance, the number pool, the register requests. -/

namespace Sys2Proof

/-! ## Field limits (R103) -/

/-- A printable character (log 25). -/
def printable (b : Byte) : Bool := 0x20 ≤ b.toNat && b.toNat ≤ 0x7E

/-- A service code within its limit. -/
def serviceOk (n : Nat) : Bool := 1 ≤ n && n ≤ 16
/-- Five decimal digits. -/
def postcodeOk (ds : List Nat) : Bool := ds.length == 5 && ds.all (· ≤ 9)
/-- A declared value within its limit. -/
def valueOk (v : Nat) : Bool := v ≤ 10000000
/-- No handling flag but the three. -/
def flagsOk (f : FlagField) : Bool := !f.other
/-- An account tier within its limit. -/
def tierOk (t : Nat) : Bool := t ≤ 3
/-- Address lines within their limits. -/
def linesOk (l : List (List Byte)) : Bool :=
  l.length ≤ 4 && l.all (fun x => 1 ≤ x.length && x.length ≤ 32 && x.all printable)

/-- The keyed dimensions given, absent when none is; `none` outside when the field breaks its limit. -/
def keyedOf (k : KeyedField) : Option (Option (Three Nat)) :=
  match k.l, k.w, k.h with
  | none, none, none => some none
  | some l, some w, some h =>
    if [l, w, h].all (fun d => 1 ≤ d && d ≤ 150) then some (some ⟨l, w, h⟩) else none
  | _, _, _ => none

/-- The first field of I_OPEN that breaks a limit of R103, in the order of its table. -/
def OpenFields.fault (f : OpenFields) : Option FieldName :=
  if (Pos.ofNumber f.position).isNone then some .position
  else if !serviceOk f.service then some .service
  else if !postcodeOk f.postcode then some .postcode
  else if !valueOk f.value then some .value
  else if !flagsOk f.flags then some .flags
  else if !tierOk f.tier then some .tier
  else if !linesOk f.lines then some .lines
  else if (keyedOf f.keyed).isNone then some .keyed
  else none

/-- The first field of I_AMEND that breaks a limit of R103. -/
def AmendFields.fault (f : AmendFields) : Option FieldName :=
  if (Pos.ofNumber f.position).isNone then some .position
  else if f.service.any (fun v => !serviceOk v) then some .service
  else if f.postcode.any (fun v => !postcodeOk v) then some .postcode
  else if f.value.any (fun v => !valueOk v) then some .value
  else if f.flags.any (fun v => !flagsOk v) then some .flags
  else if f.tier.any (fun v => !tierOk v) then some .tier
  else if f.lines.any (fun v => !linesOk v) then some .lines
  else if (keyedOf f.keyed).isNone then some .keyed
  else none

/-- The item fields of an I_OPEN. -/
def OpenFields.item (f : OpenFields) : ItemFields :=
  { service := f.service, postcode := ofDigits f.postcode, value := f.value
    fragile := f.flags.fragile, signature := f.flags.signature, irregular := f.flags.irregular
    tier := f.tier, lines := f.lines }

/-- The item fields with the new values an I_AMEND names. -/
def AmendFields.apply (f : AmendFields) (x : ItemFields) : ItemFields :=
  { service := f.service.getD x.service
    postcode := (f.postcode.map ofDigits).getD x.postcode
    value := f.value.getD x.value
    fragile := (f.flags.map (·.fragile)).getD x.fragile
    signature := (f.flags.map (·.signature)).getD x.signature
    irregular := (f.flags.map (·.irregular)).getD x.irregular
    tier := f.tier.getD x.tier
    lines := f.lines.getD x.lines }

end Sys2Proof

namespace Sys2Proof.Machine

/-! ## Slots -/

namespace OpenSlot

/-- The state name of a slot (R101). -/
def state : OpenSlot → SlotState
  | .idle => .idle | .opened _ => .opened | .rating .. => .rating | .rated .. => .rated

/-- The item of a slot that is not IDLE. -/
def item? : OpenSlot → Option OpenItem
  | .idle => none | .opened it => some it | .rating it _ _ => some it | .rated it _ _ => some it

/-- A RATED slot marked stale (R108). -/
def markStale : OpenSlot → OpenSlot
  | .rated it r _ => .rated it r true
  | .idle => .idle | .opened it => .opened it | .rating it ph i => .rating it ph i

end OpenSlot

/-- The rating request of an item with its weight and dimensions (R77). -/
def OpenItem.request (it : OpenItem) (k : Pos) (wt : Nat) (dims : Three Nat) : RateRequest :=
  { position := k, wt := wt, dims := dims, keyed := it.keyed.isSome
    service := it.fields.service, postcode := it.fields.postcode, value := it.fields.value
    fragile := it.fields.fragile, signature := it.fields.signature, irregular := it.fields.irregular
    tier := it.fields.tier }

namespace State

/-- Every RATED slot marked stale at an activation (R108). -/
def markStale (s : State) : State := s.onItems (fun i => { i with slots := i.slots.map OpenSlot.markStale })

/-! ## Rating an item (R105 to R107) -/

/-- The rating request of an item placed, the slot QUEUED (R106). -/
def queueRating (s : State) (k : Pos) (it : OpenItem) (dims : Three Nat) (i : SlotId) : State :=
  (s.setOpenSlot k (.rating it .queued i)).placeRating
    (it.request k ((it.capture.map Capture.net).getD 0).toNat dims)

/-- With the capture in hand the Item Manager obtains the dimensions (R106). -/
def gatherDims (s : State) (k : Pos) (it : OpenItem) (i : SlotId) : State :=
  match it.keyed with
  | some d => s.queueRating k it d i
  | none =>
    match (s.gauges.get k).requestDims with
    | (g, .error a) =>
      ((s.onGauge k (fun _ => g)).setOpenSlot k (.opened it)).refuse i .gaugeNotReady
        (.latchFailed a g.states)
    | (g, .ok r) => (s.onGauge k (fun _ => g)).queueRating k { it with latched := some r } r.cm i

/-- The I_RATE in GATHERING takes its capture (R105). -/
def captureGathered (s : State) (k : Pos) (x : Capture) : State :=
  match s.openSlot k with
  | .rating it .gathering i => s.gatherDims k { it with capture := some x } i
  | .rating _ .queued _ | .rating _ .inProgress _ | .idle | .opened _ | .rated .. => s

/-- The I_RATE in GATHERING fails with the channel's reason, the slot returning to OPEN (R105). -/
def captureRefused (s : State) (k : Pos) (r : Reason) : State :=
  match s.openSlot k with
  | .rating it .gathering i => (s.setOpenSlot k (.opened it)).refuse i r
  | .rating _ .queued _ | .rating _ .inProgress _ | .idle | .opened _ | .rated .. => s

/-- An item's rating begins with a capture request to its channel (R105). -/
def beginRate (s : State) (k : Pos) (it : OpenItem) (i : SlotId) : State :=
  let gathering := s.setOpenSlot k (.rating it .gathering i)
  let asked := (s.channel k).requestCapture s.minuteNow s.weighing.timeout
  let told := gathering.onChannel k (fun _ => asked.1)
  match asked.2 with
  | .captured x => told.captureGathered k x
  | .refused r => told.captureRefused k r
  | .waits => told

/-! ## Disturbance (R111) -/

/-- A capture-lost event of channel k (R111). A rating chosen and completed at the withdrawal answers before
DISTURBED (log 63). -/
def captureLost (s : State) (k : Pos) (cause : LostCause) : State :=
  match s.openSlot k with
  | .opened it =>
    (s.setOpenSlot k (.opened { it with capture := none })).offer (.itemDisturbed k cause .opened)
  | .rated it _ _ =>
    (s.setOpenSlot k (.opened { it with capture := none })).offer (.itemDisturbed k cause .rated)
  | .rating it .queued i | .rating it .inProgress i =>
    (((s.setOpenSlot k (.opened { it with capture := none })).withdrawRating k).refuse i .disturbed).offer
      (.itemDisturbed k cause .rating)
  | .rating _ .gathering _ | .idle => s

end State

/-! ## Slot requests -/

/-- I_OPEN (R102). -/
def serveIOpen (f : OpenFields) (i : SlotId) (s : State) : State :=
  match f.fault with
  | some name => s.badField i name
  | none =>
    atPosition f.position .position i s fun k =>
      if !(s.release.places.get k).staffed then s.refuse i .positionClosed
      else if s.openSlot k ≠ .idle then s.refuse i .slotBusy
      else (s.setOpenSlot k (.opened { fields := f.item, keyed := (keyedOf f.keyed).getD none })).ok i

/-- The dimension effects of I_AMEND on an item, and whether the gauge's record is released (R104). -/
def amendDims (f : AmendFields) (it : OpenItem) : OpenItem × Bool :=
  match (keyedOf f.keyed).getD none with
  | some d => ({ it with keyed := some d, latched := none }, it.latched.isSome)
  | none =>
    let kept := if f.removeKeyed then { it with keyed := none } else it
    if f.remeasure then ({ kept with latched := none }, kept.latched.isSome) else (kept, false)

/-- An I_AMEND carried out on an item of position k (R104). -/
def State.amend (s : State) (k : Pos) (it : OpenItem) (f : AmendFields) : State :=
  let changed := amendDims f { it with fields := f.apply it.fields }
  let kept := if f.reweigh then { changed.1 with capture := none } else changed.1
  let latched := if changed.2 then s.releaseLatch k else s
  let weighed := if f.reweigh then latched.releaseCapture k else latched
  weighed.setOpenSlot k (.opened kept)

/-- I_AMEND (R104). Keyed dimensions and REMOVE_KEYED together name the keyed dimensions (log 29). -/
def serveIAmend (f : AmendFields) (i : SlotId) (s : State) : State :=
  match f.fault with
  | some name => s.badField i name
  | none =>
    atPosition f.position .position i s fun k =>
      let conflict := decide (f.removeKeyed = true ∧ (keyedOf f.keyed).getD none ≠ none)
      match s.openSlot k with
      | .idle => s.refuse i .noItem
      | .rating .. => s.refuse i .busyRating
      | .opened it => if conflict then s.badField i .keyed else (s.amend k it f).ok i
      | .rated it _ _ => if conflict then s.badField i .keyed else ((s.unloadLimit k).amend k it f).ok i

/-- I_RATE (R105). -/
def serveIRate (position : Nat) (i : SlotId) (s : State) : State :=
  atPosition position .position i s fun k =>
    match s.openSlot k with
    | .idle => s.refuse i .noItem
    | .rating .. => s.refuse i .busyRating
    | .opened it => s.beginRate k it i
    | .rated it _ _ => (s.unloadLimit k).beginRate k it i

/-- What a cancelled item of position k held is given back: the capture wait, the capture, the claimed
record (R110). -/
def State.giveBack (s : State) (k : Pos) (it : OpenItem) : State :=
  let unwaited := s.onChannel k (fun c => { c with waiting := none })
  let unweighed := if it.capture.isSome then unwaited.releaseCapture k else unwaited
  if it.latched.isSome then unweighed.releaseLatch k else unweighed

/-- I_CANCEL (R110). A rating chosen and completed at the withdrawal answers before CANCELLED (log 63). -/
def serveICancel (position : Nat) (i : SlotId) (s : State) : State :=
  atPosition position .position i s fun k =>
    match s.openSlot k with
    | .idle => s.refuse i .noItem
    | .opened it | .rated it _ _ => ((s.giveBack k it).setOpenSlot k .idle).ok i
    | .rating it _ r =>
      ((((s.giveBack k it).setOpenSlot k .idle).withdrawRating k).refuse r .cancelled).ok i

/-- The reply of I_STATUS for a slot that is not IDLE, `tag` the tag of the I_RATE served (R112). -/
def OpenSlot.view (o : OpenSlot) (tag : SlotId → Byte) : Fields :=
  match o with
  | .idle => .idleSlot
  | .opened it => .slot ⟨.opened, it.fields, it.keyed, it.latched, it.capture, none, none⟩
  | .rating it ph i => .slot ⟨.rating, it.fields, it.keyed, it.latched, it.capture, none, some (ph, tag i)⟩
  | .rated it r st => .slot ⟨.rated, it.fields, it.keyed, it.latched, it.capture, some (r, st), none⟩

/-- The tag of the request in a slot. -/
def Link.tagOf (l : Link) (i : SlotId) : Byte := (l.slots[i].map (·.tag)).getD 0

/-- I_STATUS (R112). -/
def serveIStatus (position : Nat) (i : SlotId) (s : State) : State :=
  atPosition position .position i s fun k => s.ok i ((s.openSlot k).view s.link.tagOf)

/-! ## Numbers (R113 to R117) -/

/-- The serials left in a block (R113). -/
def blockLeft (b : SerialBlock) : Nat := b.last + 1 - b.next

/-- The pool's remaining count (R113). -/
def poolLeft (pool : List SerialBlock) : Nat := (pool.map blockLeft).sum

/-- An issued serial added to the issued record (R115). -/
def addIssued (n : Nat) : List (Nat × Nat) → List (Nat × Nat)
  | [] => [(n, n)]
  | (a, b) :: rest =>
    if n + 1 < a then (n, n) :: (a, b) :: rest
    else if n + 1 = a then (n, b) :: rest
    else if n ≤ b then (a, b) :: rest
    else if n = b + 1 then
      match rest with
      | (c, d) :: more => if n + 1 = c then (a, d) :: more else (a, n) :: (c, d) :: more
      | [] => [(a, n)]
    else (a, b) :: addIssued n rest

/-- The next serial of the oldest block, and the pool after its issue (R113). -/
def issueSerial : List SerialBlock → Option (Nat × List SerialBlock)
  | [] => none
  | b :: rest =>
    some (b.next, if b.next < b.last then { b with next := b.next + 1 } :: rest else rest)

/-- The low-water notice of an issue that crosses the mark (R116). -/
def State.crossLow (s : State) : State :=
  let left := poolLeft s.items.pool
  if left < s.settings.host.lowWater ∧ !s.items.lowMark then
    (s.onItems (fun m => { m with lowMark := true })).offer
      (.numbersLow left s.items.pool.length (s.items.pool.head?.map (·.next)))
  else s

/-- A serial issued: the pool, the issued record and the low mark follow (R113, R115, R116). -/
def State.issued (s : State) (serial : Nat) (pool : List SerialBlock) : State :=
  (s.onItems (fun m => { m with pool := pool, issued := addIssued serial m.issued })).crossLow

/-! ## Confirmation (R109) -/

/-- The register entry a confirmed item becomes (R118). -/
def OpenItem.confirmed (it : OpenItem) (k : Pos) (number : Nat) (minute : Minute) (r : RateResult) : RegEntry :=
  { number := number, position := k, accepted := minute, postcode := it.fields.postcode
    fragile := it.fields.fragile, signature := it.fields.signature, irregular := it.fields.irregular
    result := r, lines := it.fields.lines
    cls := if r.expressClass then .express else .standard
    state := .awaitRelease, attempts := 0, track := none, label := none, reject := none }

/-- An item of position k confirmed with its number (R109), from the register on. -/
def State.register (s : State) (k : Pos) (it : OpenItem) (e : RegEntry) : State :=
  let joined := s.onItems (fun m => { m with
    register := m.register ++ [e], confirmed := m.confirmed + 1 })
  let locked := joined.onChannel k (fun c => { c with interlock := true })
  let weighed := locked.releaseCapture k
  let latched := if it.latched.isSome then weighed.releaseLatch k else weighed
  latched.setOpenSlot k .idle

/-- I_CONFIRM (R109). -/
def serveIConfirm (position : Nat) (i : SlotId) (s : State) : State :=
  atPosition position .position i s fun k =>
    match s.openSlot k with
    | .idle | .opened _ | .rating .. => s.refuse i .notRated
    | .rated it r stale =>
      if stale then s.refuse i .ratingStale
      else
        match s.minuteNow with
        | none => s.refuse i .clockUnset
        | some minute =>
          if Config.registerEntries ≤ s.items.register.length then s.refuse i .registerFull
          else
            match issueSerial s.items.pool with
            | none => s.refuse i .noNumbers
            | some (serial, pool) =>
              let number := itemNumber s.settings.host.office serial
              let done := (s.issued serial pool).register k it (it.confirmed k number minute r)
              (State.settle s done).ok i
                (.confirmed number (r.total.getD 0) (s.items.register.length + 1))

/-! ## Voiding and reading (R120, R122) -/

/-- I_VOID (R120). -/
def serveIVoid (digits : List Nat) (i : SlotId) (s : State) : State :=
  match numberField digits with
  | none => s.badField i .number
  | some n =>
    match s.findItem n with
    | none => s.refuse i .noSuchItem
    | some e =>
      match e.state with
      | .awaitRelease => (State.settle s (s.closeItem n .voided)).ok i .voided
      | .released => (State.settle s ((s.endVoided n).closeItem n .voided)).ok i .voided
      | .onBelt =>
        if e.reject.isSome then s.ok i .voidPending
        else
          match e.track with
          | some id => (State.settle s (s.flagEntry .voided id)).ok i .voidPending
          | none => s.ok i .voidPending

/-- I_READ (R122). -/
def serveIRead (digits : List Nat) (i : SlotId) (s : State) : State :=
  match numberField digits with
  | none => s.badField i .number
  | some n =>
    match s.findItem n with
    | none => s.refuse i .noSuchItem
    | some e => s.ok i (.regEntry e)

/-- One line of I_LIST (R122). -/
def regLine (e : RegEntry) : RegLine := ⟨e.number, e.position, e.state, e.label, e.reject⟩

/-- I_LIST (R122). -/
def serveIList (i : SlotId) (s : State) : State := s.ok i (.regList (s.items.register.map regLine))

/-- I_COUNTS (R122). -/
def serveICounts (i : SlotId) (s : State) : State :=
  s.ok i (.counts ⟨s.items.confirmed, s.items.labelled, s.items.rejected, s.items.missing,
    s.items.voided, s.items.register.length⟩)

/-! ## The number pool's requests (R114, R122) -/

/-- Two runs of serials share a serial. -/
def sharesSerial (a b c d : Nat) : Bool := a ≤ d && c ≤ b

/-- The refusal of N_LOAD, with its fields (R114). Of several conflicts it names the oldest block, and only
where no block is one the lowest range (log 61). -/
def Items.loadRefusal (m : Items) (first count : Nat) : Option (Reason × Fields) :=
  let last := first + count - 1
  if count < 1 ∨ 1000000 < count then some (.badField, .field .count)
  else if Config.lastSerial < last then some (.badField, .field .firstSerial)
  else if Config.poolBlocks ≤ m.pool.length then some (.poolFull, .none)
  else
    match m.pool.find? (fun b => sharesSerial first last b.first b.last) with
    | some b => some (.overlap, .serialBlock b)
    | none =>
      match m.issued.find? (fun r => sharesSerial first last r.1 r.2) with
      | some r => some (.overlap, .serialRange r.1 r.2)
      | none =>
        if Config.issuedRanges < m.issued.length + m.pool.length + 1 then some (.historyFull, .none)
        else none

/-- N_LOAD (R114, R116). -/
def serveNLoad (first count : Nat) (i : SlotId) (s : State) : State :=
  match s.items.loadRefusal first count with
  | some (r, f) => s.refuse i r f
  | none =>
    let pool := s.items.pool ++ [⟨first, first + count - 1, first⟩]
    (s.onItems (fun m => { m with
      pool := pool
      lowMark := m.lowMark && decide (poolLeft pool < s.settings.host.lowWater) })).ok i
      (.remaining (poolLeft pool))

/-- N_STATUS (R122). -/
def serveNStatus (i : SlotId) (s : State) : State :=
  s.ok i (.pool ⟨s.items.pool, poolLeft s.items.pool, s.settings.host.lowWater, s.items.lowMark,
    s.items.issued⟩)

/-! ## The request rows -/

/-- I_OPEN. -/
def execIOpen (tag : Byte) (f : OpenFields) (s : State) : Host.Outcome State Fault Refusal :=
  .next (s.request tag .iOpen (serveIOpen f))
/-- I_AMEND. -/
def execIAmend (tag : Byte) (f : AmendFields) (s : State) : Host.Outcome State Fault Refusal :=
  .next (s.request tag .iAmend (serveIAmend f))
/-- I_RATE. -/
def execIRate (tag : Byte) (position : Nat) (s : State) : Host.Outcome State Fault Refusal :=
  .next (s.request tag .iRate (serveIRate position))
/-- I_CONFIRM. -/
def execIConfirm (tag : Byte) (position : Nat) (s : State) : Host.Outcome State Fault Refusal :=
  .next (s.request tag .iConfirm (serveIConfirm position))
/-- I_CANCEL. -/
def execICancel (tag : Byte) (position : Nat) (s : State) : Host.Outcome State Fault Refusal :=
  .next (s.request tag .iCancel (serveICancel position))
/-- I_VOID. -/
def execIVoid (tag : Byte) (number : List Nat) (s : State) : Host.Outcome State Fault Refusal :=
  .next (s.request tag .iVoid (serveIVoid number))
/-- I_STATUS. -/
def execIStatus (tag : Byte) (position : Nat) (s : State) : Host.Outcome State Fault Refusal :=
  .next (s.request tag .iStatus (serveIStatus position))
/-- I_READ. -/
def execIRead (tag : Byte) (number : List Nat) (s : State) : Host.Outcome State Fault Refusal :=
  .next (s.request tag .iRead (serveIRead number))
/-- I_LIST. -/
def execIList (tag : Byte) (s : State) : Host.Outcome State Fault Refusal :=
  .next (s.request tag .iList serveIList)
/-- I_COUNTS. -/
def execICounts (tag : Byte) (s : State) : Host.Outcome State Fault Refusal :=
  .next (s.request tag .iCounts serveICounts)
/-- N_LOAD. -/
def execNLoad (tag : Byte) (first count : Nat) (s : State) : Host.Outcome State Fault Refusal :=
  .next (s.request tag .nLoad (serveNLoad first count))
/-- N_STATUS. -/
def execNStatus (tag : Byte) (s : State) : Host.Outcome State Fault Refusal :=
  .next (s.request tag .nStatus serveNStatus)

end Sys2Proof.Machine
end

