-- ==== Sys2Proof/Machine/Sampling.lean ====
section
/-! DEFINITION. What a sample, a missed sample and the end of a capture wait do (01_weighing_channels.md, R1,
R2, R8, R16 to R20), the Item Manager's part included. -/

namespace Sys2Proof.Machine

/-- The channel after window entry, state decision, zeroing and report of a sample, and whether ZERO_RANGE
is to be reported (R8). -/
def Channel.sampled (c : Channel) (raw : Int) : Channel × Bool :=
  let judged := (c.enter raw).judge
  let state := judged.decided raw
  let entered := { judged with
    state := state
    zeroRangeSent := judged.zeroRangeSent && decide (c.state = ChanState.zeroing) }
  let tried := entered.tryZero
  ((tried.1.track).makeReport raw, tried.2)

/-- The channel entering OFFLINE (R1). -/
def Channel.goOffline (c : Channel) : Channel :=
  { c with
    state := .offline, window := [], settled := false
    report := c.report.map (fun r => { r with stale := true }) }

namespace State

/-- REMOVAL evaluated, with its notice on a change (R18). -/
def removalStep (s : State) (k : Pos) : State :=
  let was := (s.channel k).removal
  let judged := s.onChannel k Channel.judgeRemoval
  let now := (judged.channel k).removal
  if now = was then judged else judged.weightNotice k (if now then .removalOn else .removalOff)

/-- A capture lost to a comparator: released, noticed, and the Item Manager told (R17, R19, R20). -/
def loseCapture (s : State) (k : Pos) (cause : LostCause) : State :=
  ((s.onChannel k Channel.release).weightNotice k
    (match cause with | .disturb => .disturb | .serviceLimit => .serviceLimit)).captureLost k cause

/-- DISTURB and then SERVICE_LIMIT evaluated at a sample (R18 to R20). -/
def comparators (s : State) (k : Pos) (before : ChanState) : State :=
  let removed := s.removalStep k
  let disturbed :=
    if (removed.channel k).disturbFires before then removed.loseCapture k .disturb else removed
  if (disturbed.channel k).limitFires then disturbed.loseCapture k .serviceLimit else disturbed

/-- A waiting capture served at a sample (R16). -/
def serveWaiting (s : State) (k : Pos) : State :=
  let c := s.channel k
  if c.waiting.isSome ∧ c.state = .stable then
    match c.captureNow s.minuteNow with
    | .ok x => (s.onChannel k (fun c => c.takeCapture x)).captureGathered k x
    | .error r => (s.onChannel k (fun c => { c with waiting := none })).captureRefused k r
  else s

/-- A sample arrives at channel k (R8). -/
def sample (s : State) (k : Pos) (raw : Int) : State :=
  let before := (s.channel k).state
  let after := (s.channel k).sampled raw
  let changed := (s.onChannel k (fun _ => after.1)).changeNotice k before
  let ranged := if after.2 then changed.weightNotice k .zeroRange else changed
  (ranged.comparators k before).serveWaiting k

/-- A channel enters OFFLINE (R1): the notice of the change, then DISTURB, then the waiting capture (log 14). -/
def channelOffline (s : State) (k : Pos) : State :=
  let before := (s.channel k).state
  let off := (s.onChannel k Channel.goOffline).changeNotice k before
  let disturbed := if (off.channel k).disturb.isSome then off.loseCapture k .disturb else off
  if (disturbed.channel k).waiting.isSome then
    (disturbed.onChannel k (fun c => { c with waiting := none })).captureRefused k .channelOffline
  else disturbed

/-- A missed sample of channel k (R1). -/
def missSample (s : State) (k : Pos) : State :=
  let missed := s.onChannel k (fun c => { c with
    sampleTimer := Config.samplePeriod, missCount := bump Config.offlineMisses c.missCount })
  if (missed.channel k).missCount = Config.offlineMisses ∧ (s.channel k).state ≠ .offline then
    missed.channelOffline k
  else missed

/-- The capture wait of channel k expires (R16). -/
def captureExpires (s : State) (k : Pos) : State :=
  let c := s.channel k
  if c.waiting.isSome then
    (s.onChannel k (fun c => { c with waiting := none })).captureRefused k
      (match c.state with
        | .over => .channelOver
        | .under => .channelUnder
        | .offline | .zeroing | .motion | .stable => .weightUnstable)
  else s

end State

/-- SAMPLE_ARRIVAL (R8). -/
def execSampleArrival (channel : Pos) (raw : BitVec 24) (s : State) : Host.Outcome State Fault Refusal :=
  .next (s.whenRunning (fun s => s.sample channel raw.toInt))

/-- SAMPLE_TIMER_EXPIRY (R1). -/
def execSampleTimerExpiry (channel : Pos) (s : State) : Host.Outcome State Fault Refusal :=
  .next (s.whenRunning (fun s => s.missSample channel))

/-- CAPTURE_TIMEOUT (R16). -/
def execCaptureTimeout (channel : Pos) (s : State) : Host.Outcome State Fault Refusal :=
  .next (s.whenRunning (fun s => s.captureExpires channel))

end Sys2Proof.Machine
end

