-- ==== Sys2Proof/Machine/Image.lean ====
section
/-! DEFINITION. Tariff image records (03_tariff_image_and_banks.md, R40 to R45) and their verification (R51):
what a record's bytes say, and the checks in their order. -/

namespace Sys2Proof.Machine

/-! ## Fields -/

/-- The kind byte of a record (R40). -/
def recordKind (bs : List Byte) : Nat := byteAt bs 0
/-- The record length a record gives (R40). -/
def recordLength (bs : List Byte) : Nat := word16 bs 1
/-- A record's CRC-16 is right (R40). -/
def recordCrcOk (bs : List Byte) : Bool :=
  (crc16 (bs.take (bs.length - 2))).toNat == word16 bs (bs.length - 2)

/-- The step count of a ladder (R44). -/
def ladderSteps (bs : List Byte) : Nat := byteAt bs 5
/-- The tail byte of a ladder (R44). -/
def ladderTail (bs : List Byte) : Nat := byteAt bs (6 + 6 * ladderSteps bs)
/-- The length a ladder's step count and tail byte give; a byte other than 0 counts as a tail (R44,
log 24). -/
def ladderLength (bs : List Byte) : Nat :=
  if ladderTail bs = 0 then 9 + 6 * ladderSteps bs else 15 + 6 * ladderSteps bs

/-- A printable character of a short name (log 25). -/
def nameChar (b : Byte) : Bool := 0x20 ≤ b.toNat && b.toNat ≤ 0x7E
/-- A character of a sort code: A to Z or 0 to 9 (R43). -/
def sortChar (b : Byte) : Bool :=
  (0x41 ≤ b.toNat && b.toNat ≤ 0x5A) || (0x30 ≤ b.toNat && b.toNat ≤ 0x39)
/-- The eight bytes of a short name without the spaces at the end (R42). -/
def shortName (bs : List Byte) : List Byte := (bs.reverse.dropWhile (· == 0x20)).reverse

/-- A header's fields (R41). -/
def headerOf (bs : List Byte) : Header :=
  { tariffId := word16 bs 3, version := word16 bs 5
    effective := ⟨2000 + byteAt bs 7, byteAt bs 8, byteAt bs 9, byteAt bs 10, byteAt bs 11⟩
    tax := word16 bs 12, granularity := byteAt bs 14, divisor := word16 bs 15
    discounts := [word16 bs 17, word16 bs 19, word16 bs 21, word16 bs 23]
    nServices := byteAt bs 25, nZones := word16 bs 26, nLadders := word16 bs 28
    nSurcharges := byteAt bs 30 }

/-- The zones 1 to 12. -/
def zones : List Nat := [1, 2, 3, 4, 5, 6, 7, 8, 9, 10, 11, 12]

/-- A service record's fields, with its record number (R42). -/
def serviceOf (bs : List Byte) (record : Nat) : Service :=
  { code := byteAt bs 3, name := shortName ((bs.drop 4).take 8), maxWeight := word16 bs 12
    maxLength := byteAt bs 14, maxGirth := word16 bs 15
    volumetric := byteAt bs 17 % 2 == 1, express := byteAt bs 17 / 2 % 2 == 1
    cover := word32 bs 18, zoneMask := BitVec.ofNat 16 (word16 bs 22)
    offsets := zones.map (fun z => word32 bs (24 + 4 * (z - 1)))
    record := record, ladderRecords := zones.map (fun _ => 0) }

/-- A zone range's fields (R43). -/
def zoneOf (bs : List Byte) : ZoneRange :=
  ⟨word16 bs 3, word16 bs 5, byteAt bs 7, (bs.getD 8 0, bs.getD 9 0)⟩

/-- A ladder's steps from an offset on (R44). -/
def stepsOf (bs : List Byte) (i : Nat) : Nat → List (Nat × Nat)
  | 0 => []
  | n + 1 => (word16 bs i, word32 bs (i + 2)) :: stepsOf bs (i + 6) n

/-- A ladder's fields (R44). -/
def ladderOf (bs : List Byte) : Ladder :=
  { service := byteAt bs 3, zone := byteAt bs 4, steps := stepsOf bs 6 (ladderSteps bs)
    tail := if ladderTail bs = 0 then none
      else some (word16 bs (7 + 6 * ladderSteps bs), word32 bs (9 + 6 * ladderSteps bs)) }

/-- The kinds of surcharge by number (R45). -/
def surchargeKind : Nat → Option SurchargeKind
  | 1 => some .lengthOver | 2 => some .girthOver | 3 => some .weightOver | 4 => some .irregular
  | 5 => some .fragile | 6 => some .signature | 7 => some .declaredValue | _ => none

/-- A surcharge's fields with its kind (R45). -/
def surchargeOf (bs : List Byte) (kind : SurchargeKind) : Surcharge :=
  { code := byteAt bs 3, kind := kind, threshold := word32 bs 5, permille := byteAt bs 9 == 1
    amount := word32 bs 10, unit := word32 bs 14, mask := BitVec.ofNat 16 (word16 bs 18) }

/-- A service offers a zone (R42). -/
def offers (v : Service) (z : Nat) : Bool := 1 ≤ z && v.zoneMask.getLsbD (z - 1)

/-! ## Limits: the check FIELD_RANGE (R41 to R45) -/

/-- `v` lies within `lo` to `hi`. -/
def inRange (lo hi v : Nat) : Bool := lo ≤ v && v ≤ hi

/-- A header within its limits (R41). -/
def headerOk (h : Header) : Bool :=
  inRange 1 65535 h.tariffId && h.effective.valid && h.tax ≤ 2500 &&
  (h.granularity == 1 || h.granularity == 5 || h.granularity == 10) && inRange 1000 10000 h.divisor &&
  h.discounts.all (· ≤ 500) && inRange 1 16 h.nServices && inRange 1 1000 h.nZones &&
  inRange 1 192 h.nLadders && h.nSurcharges ≤ 32

/-- A service record within its limits (R42); `flags` is its flag byte, `raw` its eight name bytes. -/
def serviceRecordOk (v : Service) (flags : Nat) (raw : List Byte) : Bool :=
  serviceCode v.code && raw.all nameChar && !v.name.isEmpty && inRange 1 30000 v.maxWeight &&
  inRange 1 150 v.maxLength && inRange 1 300 v.maxGirth && flags < 4 && v.cover ≤ 10000000 &&
  v.zoneMask != 0 && v.zoneMask.toNat < 4096 &&
  zones.all (fun z => offers v z || v.offsets.getD (z - 1) 0 == 0)
where
  /-- A service code within 1 to 16. -/
  serviceCode (n : Nat) : Bool := inRange 1 16 n

/-- A zone range within its limits (R43). -/
def zoneOk (z : ZoneRange) : Bool :=
  z.low ≤ 999 && inRange z.low 999 z.high && inRange 1 12 z.zone && sortChar z.sort.1 && sortChar z.sort.2

/-- A ladder within its limits but for its order (R44); `tail` is its tail byte. -/
def ladderOk (l : Ladder) (services : List Service) (tail : Nat) : Bool :=
  services.any (fun v => v.code == l.service) && inRange 1 12 l.zone && inRange 1 64 l.steps.length &&
  l.steps.all (fun p => inRange 1 30000 p.1 && p.2 ≤ 99999999) && tail ≤ 1 &&
  l.tail.all (fun t => inRange 10 10000 t.1 && inRange 1 100000 t.2)

/-- The threshold of a surcharge within its limits (R45). -/
def thresholdOk (c : Surcharge) : Bool :=
  match c.kind with
  | .lengthOver => c.threshold ≤ 150
  | .girthOver => c.threshold ≤ 300
  | .weightOver => c.threshold ≤ 30000
  | .declaredValue => c.threshold ≤ 10000000
  | .irregular | .fragile | .signature => c.threshold == 0

/-- Services 1 to 16. -/
def serviceCodes : List Nat := [1, 2, 3, 4, 5, 6, 7, 8, 9, 10, 11, 12, 13, 14, 15, 16]

/-- A surcharge within its limits (R45); `mode` is its mode byte. -/
def surchargeOk (c : Surcharge) (services : List Service) (mode : Nat) : Bool :=
  inRange 1 32 c.code && thresholdOk c && mode ≤ 1 &&
  (if c.permille then c.amount ≤ 1000 else c.amount ≤ 99999999) &&
  (if c.kind = .declaredValue then !c.permille && inRange 1 10000000 c.unit else c.unit == 0) &&
  c.mask != 0 &&
  serviceCodes.all (fun n => !c.mask.getLsbD (n - 1) || services.any (fun v => v.code == n))

/-! ## The record's form (R51) -/

/-- The record length is one its kind can have, as far as the first three bytes show (R51). -/
def lengthFits (kind length : Nat) : Bool :=
  match kind with
  | 1 => length == 33
  | 2 => length == 74
  | 3 => length == 12
  | 4 => 9 ≤ length
  | 5 => length == 22
  | _ => false

/-- What the verifier finds at the head of the bytes it holds. -/
inductive Taken where
  | more
  | malformed
  | record (bs : List Byte)
deriving DecidableEq, Repr

/-- The next record of the bytes held, `left` being the bytes from it to the declared length (log 34). -/
def takeRecord (buf : List Byte) (left : Nat) : Taken :=
  if buf.length < 3 then (if left < 3 ∧ left ≤ buf.length then .malformed else .more)
  else if !lengthFits (recordKind buf) (recordLength buf) ∨ left < recordLength buf then .malformed
  else if buf.length < recordLength buf then .more
  else
    let bs := buf.take (recordLength buf)
    if recordKind bs = 4 ∧ ladderLength bs ≠ recordLength bs then .malformed else .record bs

/-! ## The checks of one record (R51) -/

/-- Strictly ascending bounds and prices that do not decrease (R44). -/
def stepsOrdered : List (Nat × Nat) → Bool
  | [] => true
  | [_] => true
  | a :: b :: rest => a.1 < b.1 && a.2 ≤ b.2 && stepsOrdered (b :: rest)

/-- The header taken (R51). -/
def Verify.takeHeader (v : Verify) (h : Header) : Except VerifyCheck Verify :=
  if !headerOk h then .error .fieldRange else .ok { v with header := some h }

/-- A service record taken (R51). -/
def Verify.takeService (v : Verify) (bs : List Byte) : Except VerifyCheck Verify :=
  let x := serviceOf bs v.record
  if !serviceRecordOk x (byteAt bs 17) ((bs.drop 4).take 8) then .error .fieldRange
  else if v.services.any (fun y => y.code == x.code) then .error .duplicate
  else .ok { v with services := v.services ++ [x] }

/-- A zone range taken (R51). -/
def Verify.takeZone (v : Verify) (z : ZoneRange) : Except VerifyCheck Verify :=
  if !zoneOk z then .error .fieldRange
  else if v.lastHigh.any (fun h => z.low ≤ h) then .error .order
  else .ok { v with zones := v.zones + 1, lastHigh := some z.high }

/-- The service record with the ladder of a zone noted by its record number. -/
def Service.withLadder (x : Service) (zone record : Nat) : Service :=
  { x with ladderRecords := x.ladderRecords.set (zone - 1) record }

/-- A ladder taken (R51). -/
def Verify.takeLadder (v : Verify) (bs : List Byte) : Except VerifyCheck Verify :=
  let l := ladderOf bs
  if !ladderOk l v.services (ladderTail bs) then .error .fieldRange
  else if !stepsOrdered l.steps then .error .order
  else
    match v.services.find? (fun x => x.code == l.service) with
    | none => .error .fieldRange
    | some x =>
      if x.ladderRecords.getD (l.zone - 1) 0 ≠ 0 then .error .duplicate
      else if !offers x l.zone then .error .ladderUnoffered
      else if x.offsets.getD (l.zone - 1) 0 ≠ v.at_ then .error .ladderOffset
      else .ok { v with
        ladders := v.ladders + 1
        services := v.services.map (fun y =>
          if y.code = l.service then Service.withLadder y l.zone v.record else y) }

/-- A surcharge taken (R51). -/
def Verify.takeSurcharge (v : Verify) (bs : List Byte) : Except VerifyCheck Verify :=
  match surchargeKind (byteAt bs 4) with
  | none => .error .fieldRange
  | some kind =>
    let c := surchargeOf bs kind
    if !surchargeOk c v.services (byteAt bs 9) then .error .fieldRange
    else if v.surcharges.any (fun o => o.code == c.code) then .error .duplicate
    else if serviceCodes.any (fun n => c.mask.getLsbD (n - 1) &&
        8 ≤ (v.surcharges.filter (fun o => o.mask.getLsbD (n - 1))).length) then .error .surchargeLimit
    else .ok { v with surcharges := v.surcharges ++ [c] }

/-- The header is record 1 and no other; no group stands before one already passed (R51). -/
def Verify.sequenceOk (v : Verify) (kind : Nat) : Bool :=
  (v.record == 1) == (kind == 1) && v.group ≤ kind

/-- One record judged by the checks in their order, and taken (R51). -/
def Verify.takeOne (v : Verify) (bs : List Byte) : Except VerifyCheck Verify :=
  let kind := recordKind bs
  if !recordCrcOk bs then .error .recordCrc
  else if !v.sequenceOk kind then .error .sequence
  else
    let taken : Except VerifyCheck Verify :=
      match kind with
      | 1 => v.takeHeader (headerOf bs)
      | 2 => v.takeService bs
      | 3 => v.takeZone (zoneOf bs)
      | 4 => v.takeLadder bs
      | _ => v.takeSurcharge bs
    match taken with
    | .error c => .error c
    | .ok w => .ok { w with
        group := kind, record := v.record + 1, at_ := v.at_ + bs.length, buf := v.buf.drop bs.length }

/-! ## The whole image (R51) -/

/-- How far verification has come. -/
inductive Progress where
  | more (v : Verify)
  | failed (check : VerifyCheck) (record : Nat)
  | passed (t : Summary)
deriving DecidableEq, Repr

/-- The record number of the first service with an offered zone that has no ladder (R51). -/
def ladderMissing (services : List Service) : Option Nat :=
  (services.find? (fun x => zones.any (fun z => offers x z && x.ladderRecords.getD (z - 1) 0 == 0))).map
    (·.record)

/-- The checks after the last record (R51). -/
def Verify.close (v : Verify) : Progress :=
  match v.header with
  | none => .failed .sequence v.record
  | some h =>
    if v.services.length ≠ h.nServices ∨ v.zones ≠ h.nZones ∨ v.ladders ≠ h.nLadders ∨
        v.surcharges.length ≠ h.nSurcharges then .failed .countMismatch 0
    else
      match ladderMissing v.services with
      | some n => .failed .ladderMissing n
      | none =>
        if ~~~ v.sum ≠ v.crc then .failed .imageCrc 0
        else .passed ⟨h, v.services, v.surcharges⟩

/-- The records held taken one by one, `fuel` of them at most (R51). -/
def Verify.advance : Nat → Verify → Progress
  | 0, v => .more v
  | fuel + 1, v =>
    if v.length ≤ v.at_ then v.close
    else
      match takeRecord v.buf (v.length - v.at_) with
      | .more => .more v
      | .malformed => .failed .recordForm v.record
      | .record bs =>
        match v.takeOne bs with
        | .error c => .failed c v.record
        | .ok w => Verify.advance fuel w

/-- The verifier takes the bytes of a read (R51). -/
def Verify.feed (v : Verify) (bs : List Byte) : Progress :=
  let fed := { v with
    got := v.got + bs.length, buf := v.buf ++ bs, sum := crc32More v.sum bs }
  fed.advance (fed.buf.length + 1)

end Sys2Proof.Machine
end

