-- ==== Sys2Proof/Machine/Tariff.lean ====
section
/-! DEFINITION. The Tariff Controller (03_tariff_image_and_banks.md): activation and damage, loading,
verification, the start-up scan, the port's programming and verification accesses, and the T_ requests. -/

namespace Sys2Proof.Machine

/-- The description a bank takes from its load, with its header once verified. -/
def describe (length : Nat) (crc : BitVec 32) (h : Option Header) : Description :=
  ⟨length, crc, h.map (fun h => (h.tariffId, h.version, h.effective))⟩

/-- The generation after an activation (R55). -/
def nextGeneration (g : Nat) : Nat := if g < 65535 then g + 1 else 1

namespace State

/-! ## Banks -/

/-- A bank emptied: no description (R49, R50, R52, R55). -/
def emptyBank (s : State) (k : Bank) : State :=
  s.onBank k (fun b => { b with state := .empty, description := none })

/-- The description of a bank. -/
def descriptionOf (s : State) (k : Bank) : Option Description := (s.tariff.banks.get k).description

/-- The state of a bank. -/
def bankState (s : State) (k : Bank) : BankState := (s.tariff.banks.get k).state

/-! ## Activation and damage (R53, R55, R56) -/

/-- The STAGED bank k with summary t becomes the tariff in force (R55). -/
def activate (s : State) (k : Bank) (t : Summary) (cause : ActivationCause) : State :=
  let other := k.other
  let emptied := s.bankState other = .active ∨ s.bankState other = .damaged
  let cleared := if emptied then s.emptyBank other else s
  let active := (cleared.onBank k (fun b => { b with state := .active })).onTariff (fun c => { c with
    active := some t, staged := none, generation := nextGeneration c.generation })
  let told := ((active.onCache Cache.purge).markStale).restartRating
  let first := told.rewriteRecord k .active (told.descriptionOf k)
  let written := if emptied then first.rewriteRecord other .empty none else first
  written.offer (.tariffActivated k t.header.tariffId t.header.version t.header.effective
    (nextGeneration s.tariff.generation) cause)

/-- The STAGED bank with its summary (R39). -/
def stagedTariff (s : State) : Option (Bank × Summary) :=
  match s.stagedBank, s.tariff.staged with
  | some k, some t => some (k, t)
  | _, _ => none

/-- The effective-minute check (R53). -/
def effectiveCheck (s : State) : State :=
  match s.minuteNow, s.stagedTariff with
  | some now, some (k, t) => if t.header.effective.atOrBefore now then s.activate k t .time else s
  | _, _ => s

/-- A damaged record reported by a walk with its generation (R56). -/
def damage (s : State) (generation record : Nat) : State :=
  match s.tariffInForce with
  | none => s
  | some (k, t) =>
    if generation = s.tariff.generation then
      let lost := (s.onBank k (fun b => { b with state := .damaged })).onTariff (fun c => { c with
        active := none })
      let purged := lost.onCache Cache.purge
      (purged.rewriteRecord k .damaged (purged.descriptionOf k)).offer
        (.tariffDamaged k t.header.tariffId t.header.version generation record)
    else s

/-! ## Verification begins and goes on (R48, R51, R59) -/

/-- The verifier asks its next read (R51). -/
def askVerify (s : State) (v : Verify) : State :=
  (s.onTariff (fun t => { t with verify := some v })).ask
    (.verification v.bank v.got (min Config.verifyBytes (v.length - v.got)))

/-- The verification of a bank begins. -/
def beginVerify (s : State) (k : Bank) (length : Nat) (crc : BitVec 32) (startUp : Bool) : State :=
  s.askVerify { bank := k, length := length, crc := crc, startUp := startUp }

/-- The verifier turns to the next bank of the start-up scan, or to the first bank of the verifier queue
once every page program of its session has completed (R48, R52, R59). -/
def turnVerifier (s : State) : State :=
  if s.tariff.verify.isSome then s
  else
    match s.tariff.scanning, s.tariff.queue with
    | k :: _, _ =>
      let d := (s.descriptionOf k).getD (describe 0 0 none)
      s.beginVerify k d.length d.crc true
    | [], w :: _ =>
      if s.tariff.writes.any (fun x => x.session == w.session) then s
      else
        let d := (s.descriptionOf w.bank).getD (describe 0 0 none)
        s.beginVerify w.bank d.length d.crc false
    | [], [] => s

/-! ## Verification ends (R52) -/

/-- A loaded bank has passed: STAGED, any other STAGED bank emptied, the records rewritten (R52). -/
def stage (s : State) (k : Bank) (t : Summary) : State :=
  let other := k.other
  let emptied := decide (s.bankState other = .staged)
  let cleared := if emptied then s.emptyBank other else s
  let staged := (cleared.onBank k (fun b => { b with
    state := .staged
    description := b.description.map (fun d => describe d.length d.crc (some t.header))
    lastResult := some .passed })).onTariff (fun c => { c with staged := some t })
  let first := staged.rewriteRecord k .staged (staged.descriptionOf k)
  if emptied then first.rewriteRecord other .empty none else first

/-- The first bank leaves the verifier queue. -/
def leaveQueue (s : State) : State :=
  s.onTariff (fun t => { t with verify := none, queue := t.queue.drop 1 })

/-- A loaded bank's verification has passed (R52). The records' rewrites are asked before the next bank's first
read (log 62). -/
def verifyPassed (s : State) (w : VerifyWait) (t : Summary) : State :=
  (((s.leaveQueue.stage w.bank t).ok w.slot
    (.verified w.bank t.header.tariffId t.header.version t.header.effective)).effectiveCheck).turnVerifier

/-- A loaded bank's verification has failed (R52). Its record's rewrite is asked before the next bank's first
read (log 62). -/
def verifyFailed (s : State) (w : VerifyWait) (c : VerifyCheck) (record : Nat) : State :=
  let emptied := (s.leaveQueue.emptyBank w.bank).onBank w.bank (fun b => { b with
    lastResult := some (.failed c record) })
  ((emptied.rewriteRecord w.bank .empty none).refuse w.slot .verifyFailed
    (.verifyFailed c record)).turnVerifier

/-! ## The start-up scan (R59) -/

/-- The scan ends: the part is READY, and an asserted emergency stop input takes the path (R152, R204). -/
def enterReady (s : State) : State :=
  let ready := s.onLink (fun l => { l with part := .ready })
  if ready.pins.estop ∧ ready.belt.drive ≠ .estopped then State.settle ready (ready.estopPath .estop)
  else ready

/-- The generation the scan leaves: 1 when an ACTIVE bank survives, else 0 (R59). -/
def scanGeneration (s : State) : State :=
  s.onTariff (fun t => { t with generation := if s.tariffInForce.isSome then 1 else 0 })

/-- The scan goes on to its next bank, or ends. At its end the effective-minute check runs first where `check`,
and then the generation becomes 1 or 0 (R59, log 38). -/
def scanOn (s : State) (check : Bool) : State :=
  if s.tariff.scanning.isEmpty then (if check then s.effectiveCheck else s).scanGeneration.enterReady
  else s.turnVerifier

/-- The bank verified leaves the scan with its outcome. -/
def leaveScan (s : State) (k : Bank) (r : VerifyResult) : State :=
  (s.onTariff (fun t => { t with verify := none, scanning := t.scanning.drop 1 })).onBank k
    (fun b => { b with lastResult := some r })

/-- A bank recorded ACTIVE or STAGED has passed re-verification (R59). -/
def scanPassed (s : State) (k : Bank) (t : Summary) : State :=
  let left := s.leaveScan k .passed
  if s.bankState k = .active then
    (left.onTariff (fun c => { c with active := some t })).scanOn false
  else (left.onTariff (fun c => { c with staged := some t })).scanOn true

/-- A bank recorded ACTIVE or STAGED has failed re-verification: DAMAGED or EMPTY (R59). Its record's rewrite is
asked at the failure, before the scan goes on (log 59). -/
def scanFailed (s : State) (k : Bank) (c : VerifyCheck) (record : Nat) : State :=
  let left := s.leaveScan k (.failed c record)
  if s.bankState k = .active then
    let id := ((s.descriptionOf k).bind (·.tariff)).getD (0, 0, ⟨0, 0, 0, 0, 0⟩)
    let damaged := left.onBank k (fun b => { b with state := .damaged })
    ((damaged.rewriteRecord k .damaged (s.descriptionOf k)).offer
      (.tariffDamaged k id.1 id.2.1 s.tariff.generation record)).scanOn false
  else ((left.emptyBank k).rewriteRecord k .empty none).scanOn false

/-- A bank's state as its record gives it; LOADING and a bank that loses to the other are EMPTY (R59). -/
def recordedState (r : Option StateRecord) : BankState :=
  match r with
  | none => .empty
  | some r =>
    match r.state with
    | .empty | .loading => .empty
    | .staged => .staged
    | .active => .active
    | .damaged => .damaged

/-- The record of a bank loses to the other's: both say ACTIVE or both say STAGED, and the other's sequence
number is greater; of equal numbers, which the part never writes, bank A's keeps its state (R59, log 26). -/
def losesTo (r o : Option StateRecord) (tie : Bool) : Bool :=
  match r, o with
  | some r, some o =>
    r.state == o.state && (r.state == .active || r.state == .staged) &&
    (r.seq.toNat < o.seq.toNat || (tie && r.seq == o.seq))
  | _, _ => false

/-- What the controller keeps of a bank after reading its record `r`, `o` being the other's (R59). -/
def scannedBank (r o : Option StateRecord) (tie : Bool) : BankRec :=
  let state := if losesTo r o tie then .empty else recordedState r
  { state := state
    description := if state = .empty then none
      else r.map (fun r => ⟨r.length, r.crc, some (r.tariffId, r.version, r.effective)⟩) }

/-- The record's state is another than the scan gave its bank, so it is rewritten (R59). -/
def recordChanged (r o : Option StateRecord) (tie : Bool) : Bool :=
  match r with
  | none => false
  | some r => r.state == .loading || losesTo (some r) o tie

/-- The sequence number of a record, 0 for one that is unreadable (R59). -/
def recordSeqOf (r : Option StateRecord) : BitVec 32 := (r.map (·.seq)).getD 0

/-- The start-up scan begins with the records read, `ra` and `rb`: the banks recorded ACTIVE and then STAGED wait
for re-verification (R59). The rewrites of LOADING and losing records are asked here, bank A's first (log 59).
With none to verify the scan ends at once. -/
def scanFrom (s : State) (ra rb : Option StateRecord) : State :=
  let banks : Two BankRec := ⟨scannedBank ra rb false, scannedBank rb ra true⟩
  let recorded (st : BankState) : List Bank :=
    (if banks.a.state = st then [.a] else []) ++ (if banks.b.state = st then [.b] else [])
  let seq := if (recordSeqOf ra).toNat < (recordSeqOf rb).toNat then recordSeqOf rb else recordSeqOf ra
  let read := s.onTariff (fun t => { t with
    banks := banks, recordSeq := seq, scanning := recorded .active ++ recorded .staged })
  let a := if recordChanged ra rb false then read.rewriteRecord .a .empty none else read
  let b := if recordChanged rb ra true then a.rewriteRecord .b .empty none else a
  b.scanOn false

/-- The start-up scan begins: both state records are read (R38, R59). -/
def beginScan (s : State) : State := s.scanFrom (readStateRecord s.flash.records.a) (readStateRecord s.flash.records.b)

/-! ## Verification reads (R51) -/

/-- The bytes a read gives: those delivered, and the memory's for what was not. -/
def readBytes (held : List Byte) (delivered : Option (List Byte)) : List Byte :=
  match delivered with
  | none => held
  | some d => (d ++ held.drop d.length).take held.length

/-- A verification that has ended (R52, R59). -/
def endVerify (s : State) (v : Verify) (r : Except (VerifyCheck × Nat) Summary) : State :=
  if v.startUp then
    match r with
    | .ok t => s.scanPassed v.bank t
    | .error (c, n) => s.scanFailed v.bank c n
  else
    match s.tariff.queue, r with
    | w :: _, .ok t => s.verifyPassed w t
    | w :: _, .error (c, n) => s.verifyFailed w c n
    | [], _ => s

/-- A verification read has completed with its bytes (R51). -/
def verifyRead (s : State) (bs : List Byte) : State :=
  match s.tariff.verify with
  | none => s
  | some v =>
    match v.feed bs with
    | .more w => s.askVerify w
    | .failed c n => s.endVerify v (.error (c, n))
    | .passed t => s.endVerify v (.ok t)

/-! ## Programming accesses (R46, R47, R50) -/

/-- The T_DATA requests of a session that wait for their writes are refused, in the order in which they were
accepted (R49, R50, log 57). -/
def refuseWrites (s : State) (session : Nat) (r : Reason) : State :=
  let hit := s.tariff.writes.filter (fun w => w.session == session)
  hit.foldl (fun s w => s.refuse w.slot r)
    (s.onTariff (fun t => { t with writes := t.writes.filter (fun w => w.session != session) }))

/-- The load session x ends without an image: its waiting accesses are withdrawn, its outstanding requests
refused, T_OPEN first (log 57), its bank emptied and its record rewritten (R49, R50). -/
def endSession (s : State) (x : Session) (r : Reason) : State :=
  let ended := (s.onTariff (fun t => { t with session := none })).onPort (Port.withdraw x.id)
  let opened := if x.erasing then ended.refuse x.slot r else ended
  ((opened.refuseWrites x.id r).emptyBank x.bank).rewriteRecord x.bank .empty none

/-- A page program of a bank in VERIFYING has failed before its verification began (R50). T_CLOSE is answered
after the T_DATA requests (log 57), and the record's rewrite is asked before the next bank's first read (log 62). -/
def endVerifying (s : State) (w : VerifyWait) : State :=
  let left := (s.onTariff (fun t => { t with
    queue := t.queue.filter (fun o => o.session != w.session) })).onPort (Port.withdraw w.session)
  ((((left.refuseWrites w.session .writeFault).refuse w.slot .writeFault).emptyBank w.bank).rewriteRecord
    w.bank .empty none).turnVerifier

/-- An access of a session has failed (R50); one of a session that is gone changes nothing. -/
def sessionFault (s : State) (session : Nat) : State :=
  match s.tariff.session with
  | some x =>
    if x.id = session then s.endSession x .writeFault else verifying
  | none => verifying
where
  /-- The session has ended at its T_CLOSE, or is gone. -/
  verifying : State :=
    match s.tariff.queue.find? (fun w => w.session == session) with
    | some w => s.endVerifying w
    | none => s

/-- An erase of a session has succeeded; at the last one the session is RECEIVING and T_OPEN is answered
(R46). -/
def erased (s : State) (session : Nat) : State :=
  match s.tariff.session with
  | none => s
  | some x =>
    if x.id ≠ session then s
    else if x.erasesLeft ≤ 1 then
      (s.onTariff (fun t => { t with
        session := some { x with erasesLeft := 0, erasing := false } })).ok x.slot
    else s.onTariff (fun t => { t with session := some { x with erasesLeft := x.erasesLeft - 1 } })

/-- A page program of a T_DATA has succeeded; at its last one the T_DATA is answered, and a verification that
waited for it may begin (R47, R48). -/
def programmed (s : State) (session : Nat) (slot : SlotId) : State :=
  match s.tariff.writes.find? (fun w => w.session == session && w.slot == slot) with
  | none => s
  | some w =>
    if w.left ≤ 1 then
      ((s.onTariff (fun t => { t with
        writes := t.writes.filter (fun o => !(o.session == session && o.slot == slot)) })).ok slot
        (.received w.received)).turnVerifier
    else
      s.onTariff (fun t => { t with
        writes := t.writes.map (fun o =>
          if o.session = session ∧ o.slot = slot then { o with left := o.left - 1 } else o) })

/-- The image bytes of an access left with free values (log 22). -/
def spoil (s : State) (address count : Nat) : State :=
  s.draw.2.onFlash (fun f => { f with cells := Memory.spoil f.cells s.draw.1 address count })

/-- The state record of a bank left as a free value (log 22). -/
def spoilRecord (s : State) (k : Bank) : State :=
  s.draw.2.onFlash (fun f => { f with records := f.records.set k (Config.failedRecord s.draw.1) })

/-- A programming access has completed with success or failure (R37, R38, R46, R47, R50). -/
def programmingDone (s : State) (a : Access) (success : Bool) : State :=
  match a with
  | .walk .. | .verification .. => s
  | .erase k sector session =>
    let address := bankBase k + sector * Config.sectorBytes
    if success then
      (s.onFlash (fun f => { f with cells := Memory.erase f.cells address Config.sectorBytes })).erased session
    else (s.spoil address Config.sectorBytes).sessionFault session
  | .program k offset bytes session slot =>
    let address := bankBase k + offset
    if success then
      (s.onFlash (fun f => { f with cells := Memory.program f.cells address bytes })).programmed session slot
    else (s.spoil address bytes.length).sessionFault session
  | .recordErase k =>
    if success then
      (s.onFlash (fun f => { f with records := f.records.set k none })).onBank k
        (fun b => { b with eraseFailed := false })
    else (s.spoilRecord k).onBank k (fun b => { b with recordFault := true, eraseFailed := true })
  | .recordProgram k record =>
    if success ∧ !(s.tariff.banks.get k).eraseFailed then
      (s.onFlash (fun f => { f with records := f.records.set k (some record) })).onBank k
        (fun b => { b with recordFault := false })
    else (s.spoilRecord k).onBank k (fun b => { b with recordFault := true })

/-- The access in progress is a programming access. -/
def programmingNow (s : State) : Option Access :=
  match s.port.current with
  | some (.walk ..) | some (.verification ..) | none => none
  | some a => some a

end State

/-- PROGRAMMING_ACCESS_COMPLETE (R50, R57): the port goes on, a failure having withdrawn the accesses of its
session that wait, and the completed access takes effect. -/
def execProgrammingAccessComplete (success : Bool) (s : State) : Host.Outcome State Fault Refusal :=
  .next (s.whenRunning (fun s =>
    match s.programmingNow with
    | none => s
    | some a => (s.onPort (Port.finish a success)).programmingDone a success))

/-- VERIFICATION_READ_COMPLETE (R51, R57). -/
def execVerificationReadComplete (delivered : Option (List Byte)) (s : State) :
    Host.Outcome State Fault Refusal :=
  .next (s.whenRunning (fun s =>
    match s.port.current with
    | some (.verification k offset count) =>
      (s.onPort Port.complete).verifyRead (State.readBytes (s.imageRun k offset count) delivered)
    | _ => s))

/-! ## Loading requests (R46 to R49) -/

/-- The refusal of a T_OPEN for a bank (R46). -/
def State.openRefusal (s : State) (k : Bank) : Option Reason :=
  match s.bankState k with
  | .active => some .bankActive
  | .loading | .verifying => some .bankBusy
  | .empty | .staged | .damaged => if s.bankState k.other = .loading then some .loadOpen else none

/-- The erases of a session asked in order, from a sector on (R46). -/
def State.askErases (k : Bank) (session : Nat) : Nat → Nat → State → State
  | 0, _, s => s
  | n + 1, sector, s => State.askErases k session n (sector + 1) (s.ask (.erase k sector session))

/-- A load session of bank k opened (R46). -/
def State.openSession (s : State) (k : Bank) (length : Nat) (crc : BitVec 32) (i : SlotId) : State :=
  let id := s.tariff.sessions + 1
  let sectors := ceilDiv length Config.sectorBytes
  let opened := (s.onBank k (fun b => { b with
    state := .loading, description := none, lastResult := if b.state = .empty then b.lastResult else none
    })).onTariff (fun t => { t with
      staged := if s.bankState k = .staged then none else t.staged
      sessions := id
      session := some ⟨k, id, length, crc, 0, true, sectors, i⟩ })
  State.askErases k id sectors 0 (opened.rewriteRecord k .loading (some (describe length crc none)))

/-- T_OPEN (R46). -/
def serveTOpen (bank : Option Bank) (length : Nat) (crc : BitVec 32) (i : SlotId) (s : State) : State :=
  match bank with
  | none => s.badField i .bank
  | some k =>
    if length < 1 ∨ Config.imageBytes < length then s.badField i .length
    else
      match s.openRefusal k with
      | some r => s.refuse i r
      | none => s.openSession k length crc i

/-- A piece of an image split at page boundaries: offsets and bytes of the page programs it needs (R47). -/
def pagesOf : Nat → Nat → List Byte → List (Nat × List Byte)
  | 0, _, _ => []
  | fuel + 1, offset, bs =>
    match bs with
    | [] => []
    | _ :: _ =>
      let room := Config.pageBytes - offset % Config.pageBytes
      (offset, bs.take room) :: pagesOf fuel (offset + room) (bs.drop room)

/-- The refusal of a T_DATA, with its fields: the received count, where a session has one, and the field a
BAD_FIELD names (R47). -/
def State.dataRefusal (s : State) (offset : Nat) (data : List Byte) : Except (Reason × Fields) Session :=
  match s.tariff.session with
  | none => .error (if data.isEmpty then (.badField, .field .data) else (.notLoading, .none))
  | some x =>
    if data.isEmpty then .error (.badField, .fieldAndReceived .data x.received)
    else if x.erasing then .error (.bankBusy, .received x.received)
    else if offset ≠ x.received then .error (.outOfOrder, .received x.received)
    else if x.length < offset + data.length then .error (.overrun, .received x.received)
    else .ok x

/-- T_DATA (R47). -/
def serveTData (offset : Nat) (data : List Byte) (i : SlotId) (s : State) : State :=
  match s.dataRefusal offset data with
  | .error (r, f) => s.refuse i r f
  | .ok x =>
    let received := x.received + data.length
    let pages := pagesOf data.length offset data
    let taken := s.onTariff (fun t => { t with
      session := some { x with received := received }
      writes := t.writes ++ [⟨x.id, x.bank, i, received, pages.length⟩] })
    pages.foldl (fun s p => s.ask (.program x.bank p.1 p.2 x.id i)) taken

/-- T_CLOSE (R48). -/
def serveTClose (i : SlotId) (s : State) : State :=
  match s.tariff.session with
  | none => s.refuse i .notLoading
  | some x =>
    if x.received < x.length then s.refuse i .short (.received x.received)
    else
      ((s.onBank x.bank (fun b => { b with
        state := .verifying, description := some (describe x.length x.crc none) })).onTariff
        (fun t => { t with session := none, queue := t.queue ++ [⟨x.bank, x.id, i⟩] })).turnVerifier

/-- A bank emptied by T_DISCARD: its description and last result absent, its record rewritten (R49). -/
def State.discardBank (s : State) (k : Bank) : State :=
  ((s.emptyBank k).onBank k (fun b => { b with lastResult := none })).rewriteRecord k .empty none

/-- T_DISCARD (R49). The requests it discards are answered before it is (log 57). -/
def serveTDiscard (bank : Option Bank) (i : SlotId) (s : State) : State :=
  match bank with
  | none => s.badField i .bank
  | some k =>
    match s.bankState k with
    | .active => s.refuse i .bankActive
    | .verifying => s.refuse i .bankBusy
    | .empty => s.ok i
    | .staged => ((s.onTariff (fun t => { t with staged := none })).discardBank k).ok i
    | .damaged => (s.discardBank k).ok i
    | .loading =>
      match s.tariff.session with
      | none => (s.discardBank k).ok i
      | some x =>
        ((s.endSession x .discarded).onBank k (fun b => { b with lastResult := none })).ok i

/-- T_ACTIVATE (R54). Its reply comes after what the activation sends (log 46). -/
def serveTActivate (i : SlotId) (s : State) : State :=
  match s.stagedTariff with
  | none => s.refuse i .noneStaged
  | some (k, t) =>
    (s.activate k t .request).ok i (.activated k t.header.tariffId t.header.version
      (nextGeneration s.tariff.generation))

/-- One bank in the reply of T_STATUS (R58). -/
def BankRec.view (b : BankRec) : BankView := ⟨b.state, b.description, b.lastResult, b.recordFault⟩

/-- The reply of T_STATUS (R58). The position of a verification is the count of bytes read, and it is absent
until the verification has begun (log 58). -/
def State.tariffView (s : State) : TariffView :=
  { bankA := s.tariff.banks.a.view, bankB := s.tariff.banks.b.view
    session := s.tariff.session.map (fun x => (x.erasing, x.length, x.received))
    queue := s.tariff.queue.map (·.bank)
    position := s.tariff.verify.map (·.got)
    generation := s.tariff.generation
    active := s.tariff.active.map (·.header)
    waitingWalk := if s.port.walk.isSome then 1 else 0
    waitingVerify := if s.port.verification.isSome then 1 else 0
    waitingProgramming := s.port.programming.length }

/-- T_STATUS (R58). -/
def serveTStatus (i : SlotId) (s : State) : State := s.ok i (.tariff s.tariffView)

/-- T_OPEN. -/
def execTOpen (tag : Byte) (bank : Option Bank) (length : Nat) (crc : BitVec 32) (s : State) :
    Host.Outcome State Fault Refusal :=
  .next (s.request tag .tOpen (serveTOpen bank length crc))

/-- A piece of at most 512 bytes has the right payload length (R47). -/
def pieceFits (data : List Byte) : Bool := data.length ≤ Config.pieceBytes

/-- T_DATA: a piece of more than 512 bytes is answered BAD_LENGTH (R47). -/
def execTData (tag : Byte) (offset : Nat) (data : List Byte) (s : State) :
    Host.Outcome State Fault Refusal :=
  .next (s.whenRunning (fun s =>
    s.dispatch tag (.req .tData) true (pieceFits data) (serveTData offset data)))

/-- T_CLOSE. -/
def execTClose (tag : Byte) (s : State) : Host.Outcome State Fault Refusal :=
  .next (s.request tag .tClose serveTClose)

/-- T_DISCARD. -/
def execTDiscard (tag : Byte) (bank : Option Bank) (s : State) : Host.Outcome State Fault Refusal :=
  .next (s.request tag .tDiscard (serveTDiscard bank))

/-- T_ACTIVATE. -/
def execTActivate (tag : Byte) (s : State) : Host.Outcome State Fault Refusal :=
  .next (s.request tag .tActivate serveTActivate)

/-- T_STATUS. -/
def execTStatus (tag : Byte) (s : State) : Host.Outcome State Fault Refusal :=
  .next (s.request tag .tStatus serveTStatus)

end Sys2Proof.Machine
end

