-- ==== Sys2Proof/Machine/Walks.lean ====
section
/-! DEFINITION. Walk reads (04_rate_cache_and_tariff_walks.md, R65 to R69): the judgement of a read, the
retry, and how a zone walk and a rate walk go on and end. -/

namespace Sys2Proof.Machine

/-! ## Judging a read (R66) -/

/-- The form of a record of a kind: its bytes are as many as it says, its kind byte is the one expected, its
length is right for the kind, and its CRC-16 is right (R66). -/
def recordGood (kind : Nat) (bs : List Byte) : Bool :=
  5 ≤ bs.length && recordKind bs == kind && recordLength bs == bs.length && lengthFits kind bs.length &&
  (kind != 4 || ladderLength bs == bs.length) && recordCrcOk bs

/-- A read is good for the stage of its walk (R66). -/
def Walk.good (w : Walk) (bs : List Byte) : Bool :=
  match w.stage, w.lookup with
  | .zone .., _ => recordGood 3 bs && (zoneOf bs).low ≤ (zoneOf bs).high
  | .service, .price s _ _ => recordGood 2 bs && byteAt bs 3 == s
  | .ladder _, .price s z _ => recordGood 4 bs && byteAt bs 3 == s && byteAt bs 4 == z
  | .service, .zone .. | .ladder _, .zone .. => false

/-! ## What a good read gives (R67, R68) -/

/-- How a walk goes on after a good read: it ends with an answer and what it may install, or it reads
another record. -/
inductive WalkNext where
  | ends (a : Answer)
  | point (a : Answer) (e : PointEntry)
  | band (a : Answer) (e : BandEntry)
  | lookaside (a : Answer) (k : Pos) (e : Lookaside)
  | reads (w : Walk)
deriving DecidableEq, Repr

/-- A zone walk with the record of its midpoint (R67). -/
def Walk.zoneStep (w : Walk) (lo hi : Nat) (k : Pos) (x : Nat) (z : ZoneRange) : WalkNext :=
  let m := midpoint lo hi
  let narrowed (lo hi : Nat) : WalkNext :=
    if hi < lo then .ends .noZone
    else
      .reads { w with
        stage := .zone lo hi
        place := zonePlace w.services (midpoint lo hi)
        record := 1 + w.services + midpoint lo hi
        retry := false }
  if x < z.low then narrowed lo (m - 1)
  else if z.high < x then narrowed (m + 1) hi
  else .lookaside (.zoneFound z.zone z.sort) k ⟨true, w.generation, z.low, z.high, z.zone, z.sort⟩

/-- A rate walk with its service record: the zone is not offered, or the ladder is read next (R68). -/
def Walk.serviceStep (w : Walk) (zone : Nat) (v : Service) : WalkNext :=
  if !offers v zone then .ends .notOffered
  else
    .reads { w with
      stage := .ladder v.maxWeight
      place := v.offsets.getD (zone - 1) 0
      record := w.ladderRecords.getD (zone - 1) 0
      retry := false }

/-- The first step whose upper bound reaches a weight, with the bound of the step before it (R68). -/
def stepFor (cw : Nat) : Nat → List (Nat × Nat) → Option (Nat × Nat × Nat)
  | _, [] => none
  | low, (ub, price) :: rest => if cw ≤ ub then some (low, ub, price) else stepFor cw ub rest

/-- The last step of a ladder: its upper bound and price. -/
def lastStep (steps : List (Nat × Nat)) : Nat × Nat := steps.getLast?.getD (0, 0)

/-- A rate walk with its ladder (R68). -/
def Walk.ladderStep (w : Walk) (maxWeight service zone cw : Nat) (l : Ladder) : WalkNext :=
  match stepFor cw 0 l.steps with
  | some (low, ub, price) =>
    .point (.step price low ub) ⟨true, w.generation, service, zone, low, ub, price⟩
  | none =>
    let last := lastStep l.steps
    match l.tail with
    | some (step, inc) =>
      if cw ≤ maxWeight then
        .band (.tail last.1 last.2 step inc)
          ⟨true, w.generation, service, zone, last.1, last.2, step, inc, maxWeight⟩
      else .ends (.overweight last.1)
    | none => .ends (.overweight last.1)

/-- How a walk goes on after a good read (R67, R68). -/
def Walk.next (w : Walk) (bs : List Byte) : WalkNext :=
  match w.stage, w.lookup with
  | .zone lo hi, .zone k x => w.zoneStep lo hi k x (zoneOf bs)
  | .service, .price _ z _ => w.serviceStep z (serviceOf bs w.record)
  | .ladder most, .price s z cw => w.ladderStep most s z cw (ladderOf bs)
  | .zone .., .price .. | .service, .zone .. | .ladder _, .zone .. => .ends .tariffFault

namespace State

/-- An entry installed at the end of a walk, when R69 allows. -/
def install (s : State) (w : Walk) (f : Cache → Cache) : State :=
  if s.tariff.generation = w.generation ∧ s.activeBank.isSome then s.onCache f else s

/-- The walk asks its next read (R65). -/
def askWalk (s : State) (w : Walk) : State :=
  (s.onCache (fun c => { c with walk := some w })).ask (.walk w.bank w.place)

/-- The walk goes on after a good read (R67 to R69). -/
def goWalk (s : State) (w : Walk) : WalkNext → State
  | .ends a => s.endWalk a
  | .point a e => (s.install w (fun c => c.installPoint e)).endWalk a
  | .band a e => (s.install w (fun c => c.installBand e)).endWalk a
  | .lookaside a k e => (s.install w (fun c => c.installLookaside k e)).endWalk a
  | .reads w => s.askWalk w

/-- A bad read: a first one is read again, a second one is reported as damage and ends the walk (R66). -/
def badRead (s : State) (w : Walk) : State :=
  let counted := s.onCache (fun c => c.count (fun n => { n with recordErrors := bump32 n.recordErrors }))
  if w.retry then (counted.damage w.generation w.record).endWalk .tariffFault
  else counted.askWalk { w with retry := true }

/-- A walk read has completed with the bytes of its record (R65). -/
def walkRead (s : State) (bs : List Byte) : State :=
  match s.cache.walk with
  | none => s
  | some old =>
    let w := { old with reads := old.reads + 1 }
    let counted := (s.onCache (fun c => c.count (fun n => { n with walkReads := bump32 n.walkReads }))).onCache
      (fun c => { c with walk := some w })
    if s.tariff.generation ≠ w.generation then counted.endWalk .restart
    else if !w.good bs then counted.badRead w
    else counted.goWalk w (w.next bs)

/-- `count` bytes of a bank from an image offset on, as a walk read delivers them: those of the image area are
the memory's, and beyond it each is a free value (log 35). -/
def walkRun (s : State) (k : Bank) (offset : Nat) : Nat → List Byte
  | 0 => []
  | count + 1 =>
    (if offset < Config.imageBytes then Memory.read s.flash.cells (bankBase k + offset)
      else Config.strayByte s.fresh offset) :: walkRun s k (offset + 1) count

/-- The record at an image offset of a bank, as long as its length field says. -/
def recordAt (s : State) (k : Bank) (offset : Nat) : List Byte :=
  s.walkRun k offset (recordLength (s.walkRun k offset 3))

/-- What a walk read delivers that is not given with its completion, and the state that has read it: free
values are drawn where the read leaves the image area (log 35). -/
def deliver (s : State) (k : Bank) (offset : Nat) : List Byte × State :=
  let bs := s.recordAt k offset
  (bs, if Config.imageBytes < offset + max 3 bs.length then s.draw.2 else s)

/-- A walk read of a bank at an image offset has completed: the arbiter starts the next access, and the walk
takes the bytes (R57, R65). -/
def walkDone (s : State) (k : Bank) (offset : Nat) (delivered : Option (List Byte)) : State :=
  let got := match delivered with
    | some bs => (bs, s)
    | none => s.deliver k offset
  (got.2.onPort Port.complete).walkRead got.1

end State

/-- WALK_READ_COMPLETE (R65). -/
def execWalkReadComplete (delivered : Option (List Byte)) (s : State) : Host.Outcome State Fault Refusal :=
  .next (s.whenRunning (fun s =>
    match s.port.current with
    | some (.walk k offset) => s.walkDone k offset delivered
    | _ => s))

end Sys2Proof.Machine
end

