-- ==== Sys2Proof/Machine/Startup.lean ====
section
/-! DEFINITION. The settings record (R200, R201), what each reset does (R206, R59, R23, R36, R76, R100, R123,
R152, R172, R190), and the power and reset lines (log 21). -/

namespace Sys2Proof

/-! ## Ranges of the settings record (R138, R200) -/

/-- `v` lies within `lo` to `hi`. -/
def between (lo hi v : Nat) : Bool := lo ≤ v && v ≤ hi

/-- The home offsets in their order, with their limits met or not. -/
def homeOffsetChecks (h : HostFields) : List (FieldName × Bool) :=
  Pos.all.flatMap (fun k => Axis.all.map (fun a =>
    (.homeOffset k a, between 0 200 ((h.homeOffsets.get k).get a))))

/-- The induct distances in their order: each in range and below the one upstream (R138). Of two that are not
strictly decreasing the downstream one fails (log 29). -/
def inductChecks (g : Geometry) : List (FieldName × Bool) :=
  let near (k : Pos) (above : Option Nat) : FieldName × Bool :=
    (.induct k, between 1500 20000 (g.d.get k) && above.all (fun u => g.d.get k < u))
  [near .p1 none, near .p2 (some g.d.v1), near .p3 (some g.d.v2), near .p4 (some g.d.v3),
    near .p5 (some g.d.v4), near .p6 (some g.d.v5)]

/-- The other geometry and ramp fields in the order of R138. -/
def geometryChecks (g : Geometry) : List (FieldName × Bool) :=
  [(.tampOffset, between 0 300 g.aOff), (.diverterDistance, between 200 3000 g.dDiv),
    (.pitch, between 300 3000 g.pitch), (.gap, between 100 1000 g.gap),
    (.releaseLength, between 500 4000 g.lres), (.tolerance, between 20 200 g.tol),
    (.slowdown, between (g.tol + 100) 2000 g.slow && g.slow < g.d.v6),
    (.acceleration, between 100 2000 g.accel), (.deceleration, between 100 2000 g.decel)]

/-- The default TREQ and X of each position. -/
def defaultChecks (h : HostFields) : List (FieldName × Bool) :=
  Pos.all.flatMap (fun k =>
    [(.defaultTreq k, between 2000 60000 (h.defaults.get k).1), (.defaultX k, between 0 3 (h.defaults.get k).2)])

/-- Every host field in the order of R200, with its conditions met or not. -/
def HostFields.checks (h : HostFields) : List (FieldName × Bool) :=
  [(.office, between 0 9999 h.office)] ++ homeOffsetChecks h ++ inductChecks h.geo ++ geometryChecks h.geo ++
  [(.labelLength, between 100 200 h.labelLength), (.printSpeed, between 100 200 h.printSpeed),
    (.applyMs, between 100 1000 h.applyMs), (.lowWater, between 0 100000 h.lowWater)] ++ defaultChecks h

/-- The first host field that fails, in the order of R200 (R202). -/
def HostFields.fault (h : HostFields) : Option FieldName := (h.checks.find? (fun c => !c.2)).map (·.1)

/-- The channel fields within their ranges (R200). -/
def ChannelSettings.ok (c : ChannelSettings) : Bool :=
  decide (-8388608 ≤ c.zc) && decide (c.zc ≤ 8388607) && decide (10000 ≤ c.k) && decide (c.k ≤ 2000000) &&
  between 4 32 c.n && between 1 5 c.b

/-- Every field of a record within its range (R200). -/
def SettingsRecord.ok (r : SettingsRecord) : Bool :=
  r.host.fault.isNone && r.channels.toList.all ChannelSettings.ok && between 500 10000 r.timeout

/-- The CRC-16 over the marker, the sequence number and the fields of a copy, computed as for frames (R200). -/
def settingsCrc (seq : BitVec 32) (r : SettingsRecord) : BitVec 16 := crc16 (Config.settingsBytes seq r)

/-- A copy as a store writes it (R200, R203). -/
def Copy.written (seq : BitVec 32) (r : SettingsRecord) : Copy := ⟨.right, seq, r, settingsCrc seq r⟩

/-- Which check a copy fails, or none when it is valid (R200, R201). A copy that fails several is named by the first
in the order marker, CRC-16, ranges, the order in which R201 lists them (log 70). -/
def Copy.fault (c : Copy) : Option CopyFault :=
  match c.marker with
  | .wrong => some .marker
  | .right =>
    if c.crc ≠ settingsCrc c.seq c.record then some .crc else if c.record.ok then none else some .range

/-- The sequence number and record of a valid copy. -/
def Copy.valid (c : Copy) : Option (BitVec 32 × SettingsRecord) :=
  match c.fault with
  | none => some (c.seq, c.record)
  | some _ => none

/-- A copy left by a write that failed or was cut short: a free value that is invalid (R201, R203, log 23). -/
def Copy.spoilt (n : Nat) : Copy :=
  let c := Config.failedCopy n
  match c.fault with
  | none => { c with marker := .wrong }
  | some _ => c

end Sys2Proof

namespace Sys2Proof.Machine

/-- A copy of the settings record. -/
def Settings.copyOf (s : Settings) : CopyId → Copy
  | .one => s.copy1
  | .two => s.copy2

/-- A copy of the settings record replaced. -/
def Settings.setCopy (s : Settings) (k : CopyId) (c : Copy) : Settings :=
  match k with
  | .one => { s with copy1 := c }
  | .two => { s with copy2 := c }

/-- The valid copy with the greater sequence number; of equal numbers, which the part never writes, copy 1
(R201, log 26). -/
def Settings.best (s : Settings) : Option (CopyId × BitVec 32 × SettingsRecord) :=
  match s.copy1.valid, s.copy2.valid with
  | some (a, r), some (b, t) => if a.toNat < b.toNat then some (.two, b, t) else some (.one, a, r)
  | some (a, r), none => some (.one, a, r)
  | none, some (b, t) => some (.two, b, t)
  | none, none => none

/-- A channel as a reset leaves it with its stored fields (R23). -/
def Channel.loaded (c : ChannelSettings) : Channel :=
  { zc := c.zc, zw := c.zc, k := c.k, calibration := c.calibration, n := c.n, b := c.b, enables := c.enables }

/-- A position as a reset leaves it with its defaults (R172). -/
def Place.loaded (d : Nat × Nat) : Place := { treq := d.1, x := d.2 }

namespace State

/-- The blocks load their values from a record (R201). -/
def loadRecord (s : State) (r : SettingsRecord) (source : Source) (seq : BitVec 32) : State :=
  { s with
    settings := { s.settings with source := source, seq := seq, host := r.host }
    weighing := { channels := r.channels.map Channel.loaded, timeout := r.timeout }
    release := { s.release with places := r.host.defaults.map Place.loaded } }

/-- The record in force found and loaded; the defaults are loaded and noticed when no copy is valid (R201). -/
def loadSettings (s : State) : State :=
  match s.settings.best with
  | some (k, seq, r) => s.loadRecord r (.copy k) seq
  | none =>
    (s.loadRecord .default .defaulted 0).offer
      (.settingsDefaulted (s.settings.copy1.fault.getD .marker) (s.settings.copy2.fault.getD .marker))

/-- What an access of tariff memory in progress at a reset leaves (R38, R59, log 22). -/
def cutAccess (s : State) : State :=
  match s.port.current with
  | none | some (.walk ..) | some (.verification ..) => s
  | some (.erase k sector _) => s.spoil (bankBase k + sector * Config.sectorBytes) Config.sectorBytes
  | some (.program k offset bytes _ _) => s.spoil (bankBase k + offset) bytes.length
  | some (.recordErase k) =>
    if Config.eraseTookHold s.draw.1 then
      s.draw.2.onFlash (fun f => { f with records := f.records.set k none })
    else s.draw.2
  | some (.recordProgram k _) => s.onFlash (fun f => { f with records := f.records.set k none })

/-- What a store in progress at a reset leaves: the copy being written is invalid (R201, log 23). -/
def cutStore (s : State) : State :=
  match s.settings.store with
  | none => s
  | some w => s.draw.2.onSettings (fun t => t.setCopy w.copy (Copy.spoilt s.draw.1))

/-- A gauge with nothing but its lines (R36). -/
def gaugeLines (g : Gauge) : Gauge :=
  { axes := g.axes.map (fun a => { pair := a.pair, closed := a.closed }), button := g.button }

/-- An eye with nothing but its line (R152); the P it records is 0 (log 48). -/
def eyeLine (r : EyeRecord) : EyeRecord := { blocked := r.blocked }

/-- The part with its volatile state lost: the lines, the non-volatile memories, the queue and the time given
stay (R206). -/
def cold (s : State) (time : Time) : State :=
  let cut := s.cutAccess.cutStore
  { pins := cut.pins
    gauges := cut.gauges.map gaugeLines
    flash := cut.flash
    belt := { eyes := cut.belt.eyes.map eyeLine, applicator := eyeLine cut.belt.applicator }
    settings := { copy1 := cut.settings.copy1, copy2 := cut.settings.copy2 }
    time := time
    fresh := cut.fresh
    pending := cut.pending }

/-- The home switches found closed at start are taken as home events (R36), gauge by gauge and L, W, H in each
(log 56). -/
def readSwitches (s : State) : State :=
  Pos.all.foldl (fun s g =>
    Axis.all.foldl (fun s a =>
      if ((s.gauges.get g).axes.get a).closed then s.homeEvent g a else s) s) s

/-- A label found on the pad at start is ejected to waste (R190). -/
def readPad (s : State) (sensor : PadSensor) : State :=
  match sensor with
  | .clear => s
  | .label => s.countWasted

/-- A part whose volatile state is lost starts (R204): the settings, the start readings, and then the scan
(log 56). The printer's FAULT of a reset sends no PRINTER_STATE (log 66). -/
def start (s : State) (sensor : PadSensor) : State :=
  ((s.loadSettings.readSwitches).readPad sensor).beginScan

/-- The time a restart keeps: the calendar and its millisecond phase (R197, R206). -/
def keptTime (s : State) : Time := { calendar := s.time.calendar, msPhase := s.time.msPhase }

/-- A restart (R206). -/
def restart (s : State) : State :=
  s.draw.2.cold s.keptTime |>.start (Config.padSensor s.draw.1)

/-- The part starts when power is good and the reset line is released (R206). -/
def startUp (s : State) (sensor : PadSensor) : State :=
  if s.running then (s.cold {}).start sensor else s.cold {}

end State

/-- POWER_ON_RESET (R206): power is good. -/
def execPowerOnReset (sensor : PadSensor) (s : State) : Host.Outcome State Fault Refusal :=
  .next ((s.onPins (fun p => { p with powerGood := true })).startUp sensor)

/-- PIN_RESET (R206): the external reset line is released. -/
def execPinReset (sensor : PadSensor) (s : State) : Host.Outcome State Fault Refusal :=
  .next ((s.onPins (fun p => { p with resetLine := false })).startUp sensor)

/-- RESET_LINE_ASSERTED (R206): the part is held in reset. -/
def execResetLineAsserted (s : State) : Host.Outcome State Fault Refusal :=
  .next ((s.onPins (fun p => { p with resetLine := true })).cold {})

/-- POWER_LOSS (R206): the volatile state and the calendar are lost. -/
def execPowerLoss (s : State) : Host.Outcome State Fault Refusal :=
  .next ((s.onPins (fun p => { p with powerGood := false })).cold {})

end Sys2Proof.Machine
end

