-- ==== Sys2Proof/Machine/HostLink.lean ====
section
/-! DEFINITION. The Link Controller, the calendar and the Settings Store
(10_host_link_calendar_and_settings.md): the S_ requests, the calendar second, the store's write, the
receiver with dispatch of what a frame carries, and the transmitter. -/

namespace Sys2Proof.Machine

/-! ## Calendar (R197 to R199) -/

/-- The first field of an S_CLOCK_SET that fails (R198). -/
def clockFault (c : Clock) : Option FieldName :=
  let m := c.minute
  if !between 2000 2099 m.year then some .year
  else if !between 1 12 m.month then some .month
  else if !between 1 (daysIn m.year m.month) m.day then some .day
  else if 23 < m.hour then some .hour
  else if 59 < m.minute then some .minute
  else if 59 < c.second then some .second
  else none

/-- S_CLOCK_SET (R198): the effective-minute check runs, and then the request is answered (log 46). -/
def serveSClockSet (c : Clock) (i : SlotId) (s : State) : State :=
  match clockFault c with
  | some f => s.badField i f
  | none =>
    ((s.onTime (fun t => { t with calendar := some c, msPhase := 0 })).effectiveCheck).ok i
      (.clock s.time.calendar)

/-- A second of the calendar (R197), with its minute event (R199). -/
def State.second (s : State) : State :=
  let phased := s.onTime (fun t => { t with msPhase := 0, calendar := t.calendar.bind Clock.next })
  match phased.time.calendar with
  | none => phased
  | some c => if c.second = 0 ∧ s.link.part = .ready then phased.effectiveCheck else phased

/-! ## Settings (R200 to R203) -/

/-- The settings a store may only change while the drive is STOPPED and nothing is tracked (R138). -/
def lineFields (h : HostFields) : Geometry × Nat × Nat × Nat := (h.geo, h.labelLength, h.printSpeed, h.applyMs)

/-- The refusal of an S_STORE with its fields (R202). -/
def State.storeRefusal (s : State) (h : HostFields) : Option (Reason × Fields) :=
  if s.settings.store.isSome then some (.storeBusy, .none)
  else
    match h.fault with
    | some f => some (.badField, .field f)
    | none =>
      if lineFields h ≠ lineFields s.settings.host ∧ (s.belt.drive ≠ .stopped ∨ s.belt.queue ≠ []) then
        some (.beltBusy, .none)
      else none

/-- The channel fields of a record as a channel stands (R200). -/
def Channel.stored (c : Channel) : ChannelSettings := ⟨c.zc, c.k, c.calibration, c.n, c.b, c.enables⟩

/-- The copy that a store writes: the one that does not hold the record in force; copy 1 under defaults
(R201, log 43). -/
def Settings.writeCopy (t : Settings) : CopyId :=
  match t.source with
  | .copy c => c.other
  | .defaulted => .one

/-- The host fields take effect, and the write begins (R202). -/
def State.store (s : State) (h : HostFields) (i : SlotId) : State :=
  let record : SettingsRecord := ⟨h, s.weighing.channels.map Channel.stored, s.weighing.timeout⟩
  let used := s.onSettings (fun t => { t with
    host := h, store := some ⟨t.writeCopy, record, t.seq + 1, i⟩ })
  let lowered := used.onBelt (fun b => { b with runTarget := min b.runTarget h.vmax })
  lowered.onItems (fun m => { m with lowMark := decide (poolLeft m.pool < h.lowWater) })

/-- S_STORE (R202). -/
def serveSStore (h : HostFields) (i : SlotId) (s : State) : State :=
  match s.storeRefusal h with
  | some (r, f) => s.refuse i r f
  | none => s.store h i

/-- The store's write has completed (R203). -/
def State.storeDone (s : State) (success : Bool) : State :=
  match s.settings.store with
  | none => s
  | some w =>
    if success then
      (s.onSettings (fun t => { t.setCopy w.copy (Copy.written w.seq w.record) with
        source := .copy w.copy, seq := w.seq, store := none })).ok w.slot (.stored w.copy w.seq)
    else
      (s.draw.2.onSettings (fun t => { t.setCopy w.copy (Copy.spoilt s.draw.1) with
        store := none })).refuse w.slot .storeFault

/-- The record in force (R201). -/
def Settings.recordInForce (t : Settings) : SettingsRecord :=
  match t.source with
  | .defaulted => .default
  | .copy c => (t.copyOf c).record

/-- S_GET (R203). -/
def serveSGet (i : SlotId) (s : State) : State :=
  s.ok i (.settings s.settings.recordInForce s.settings.seq s.settings.source)

/-! ## Status and restart (R205, R206) -/

/-- The reply of S_STATUS (R205). -/
def State.partView (s : State) : PartView :=
  { part := s.link.part, partCode := Config.partCode, revision := Config.revision
    calendar := s.time.calendar, bankA := s.bankState .a, bankB := s.bankState .b
    source := s.settings.source, seq := s.settings.seq, storing := s.settings.store.isSome
    slotsHeld := s.link.slotsHeld, busyEntries := s.link.busyList.length
    notices := s.link.notices.length, drops := s.link.drops
    frameErrors := s.link.frameErrors, lostRequests := s.link.lostRequests }

/-- S_STATUS (R205): the two counts are cleared after their values have been taken into the reply. -/
def serveSStatus (clear : Bool) (i : SlotId) (s : State) : State :=
  let reply := Fields.part s.partView
  (if clear then s.onLink (fun l => { l with frameErrors := 0, lostRequests := 0 }) else s).ok i reply

/-- S_RESTART (R206): the restart takes place at the end of its reply. -/
def serveSRestart (i : SlotId) (s : State) : State :=
  if s.settings.store.isSome then s.refuse i .storeBusy
  else (s.onLink (fun l => { l with restartSlot := some (l.restartSlot.getD i) })).ok i

/-! ## What serves each request (R193) -/

/-- A request handed to the block named by its prefix. -/
def serve : Request → SlotId → State → State
  | .wSet c n b e => serveWSet c n b e
  | .wTimeout ms => serveWTimeout ms
  | .wZero c => serveWZero c
  | .wTare c => serveWTare c
  | .wClearTare c => serveWClearTare c
  | .wCalibrateZero c => serveWCalibrateZero c
  | .wCalibrateSpan c g => serveWCalibrateSpan c g
  | .wStatus c => serveWStatus c
  | .gLatch g => serveGLatch g
  | .gStatus g => serveGStatus g
  | .tOpen b l c => serveTOpen b l c
  | .tData o d => serveTData o d
  | .tClose => serveTClose
  | .tDiscard b => serveTDiscard b
  | .tActivate => serveTActivate
  | .tStatus => serveTStatus
  | .cPurge => serveCPurge
  | .cStats c => serveCStats c
  | .cRead k i => serveCRead k i
  | .iOpen f => serveIOpen f
  | .iAmend f => serveIAmend f
  | .iRate p => serveIRate p
  | .iConfirm p => serveIConfirm p
  | .iCancel p => serveICancel p
  | .iVoid n => serveIVoid n
  | .iStatus p => serveIStatus p
  | .iRead n => serveIRead n
  | .iList => serveIList
  | .iCounts => serveICounts
  | .nLoad f c => serveNLoad f c
  | .nStatus => serveNStatus
  | .bRun v => serveBRun v
  | .bStop => serveBStop
  | .bReset => serveBReset
  | .bStatus => serveBStatus
  | .bQueue => serveBQueue
  | .pOpen p t x => servePOpen p t x
  | .pClose p => servePClose p
  | .pStatus => servePStatus
  | .pStats c => servePStats c
  | .lStatus => serveLStatus
  | .lStats c => serveLStats c
  | .sClockSet c => serveSClockSet c
  | .sStore h => serveSStore h
  | .sGet => serveSGet
  | .sStatus c => serveSStatus c
  | .sRestart => serveSRestart

/-- A request whose payload length dispatch finds right: T_DATA carries at most 512 bytes (R47). -/
def requestFits : Request → Bool
  | .tData _ d => pieceFits d
  | _ => true

/-! ## The receiver (R192, R193) -/

namespace State

/-- The frame in progress discarded (R192). -/
def discardFrame (s : State) : State :=
  s.onLink (fun l => { l with
    receiver := .hunting, gap := 0, frameErrors := bump Config.stat16 l.frameErrors })

/-- A payload handed to dispatch with its tag (R193). -/
def dispatchPayload (s : State) (tag code : Byte) (fields : List Byte) : State :=
  match readPayload code fields with
  | .unknown => s.dispatch tag (.other code) false true (fun _ s => s)
  | .badLength n => s.dispatch tag (.req n) true false (fun _ s => s)
  | .request r => s.dispatch tag (.req r.name) true (requestFits r) (serve r)

/-- The bytes of a whole frame, from its payload length on, tested and dispatched or discarded (R192). -/
def testFrame (s : State) (bs : List Byte) : State :=
  let length := word16 bs 0
  if length ≠ 0 ∧ byteAt bs 2 = 1 ∧ (crc16 (bs.take (length + 4))).toNat = word16 bs (length + 4) then
    (s.onLink (fun l => { l with receiver := .hunting, gap := 0 })).dispatchPayload (bs.getD 3 0)
      (bs.getD 4 0) ((bs.drop 5).take (length - 1))
  else s.discardFrame

/-- A byte of the line (R192). -/
def takeByte (s : State) (b : Byte) : State :=
  match s.link.receiver with
  | .hunting =>
    if b = 0xA5 then s.onLink (fun l => { l with receiver := .inFrame [], gap := Config.byteGap }) else s
  | .inFrame held =>
    let bs := held ++ [b]
    if bs.length = 2 ∧ Config.payloadBytes < word16 bs 0 then s.discardFrame
    else if 2 ≤ bs.length ∧ bs.length = word16 bs 0 + 6 then s.testFrame bs
    else s.onLink (fun l => { l with receiver := .inFrame bs, gap := Config.byteGap })

/-- A frame in progress discarded; a receiver that hunts is left as it is. -/
def breakFrame (s : State) : State :=
  match s.link.receiver with
  | .hunting => s
  | .inFrame _ => s.discardFrame

/-! ## The transmitter (R195, R206) -/

/-- The last byte of the frame being sent has gone (R194, R195). -/
def frameSent (s : State) : State :=
  match s.link.transmitter with
  | .idle => s
  | .sending (.reply i) =>
    if s.link.restartSlot = some i then s.restart
    else
      s.onLink (fun l => Link.sendNext { l with
        transmitter := .idle, slots := l.slots.set i none, ready := l.ready.drop 1 })
  | .sending (.busy ..) =>
    s.onLink (fun l => Link.sendNext { l with transmitter := .idle, ready := l.ready.drop 1 })
  | .sending (.notice ..) => s.onLink (fun l => Link.sendNext { l with transmitter := .idle })

end State

/-! ## The commands -/

/-- FRAME_RECEIVED (R192): the last byte of a frame. -/
def execFrameReceived (byte : Byte) (s : State) : Host.Outcome State Fault Refusal :=
  .next (s.whenRunning (fun s => s.takeByte byte))

/-- BYTE_RECEIVED (R192): a byte that is not the last of a frame. -/
def execByteReceived (byte : Byte) (s : State) : Host.Outcome State Fault Refusal :=
  .next (s.whenRunning (fun s => s.takeByte byte))

/-- BYTE_FRAMING_ERROR (R192). -/
def execByteFramingError (s : State) : Host.Outcome State Fault Refusal :=
  .next (s.whenRunning State.breakFrame)

/-- BYTE_GAP_TIMEOUT (R192). -/
def execByteGapTimeout (s : State) : Host.Outcome State Fault Refusal :=
  .next (s.whenRunning State.breakFrame)

/-- TRANSMIT_FRAME_END (R195). -/
def execTransmitFrameEnd (s : State) : Host.Outcome State Fault Refusal :=
  .next (s.whenRunning State.frameSent)

/-- CALENDAR_SECOND (R197). -/
def execCalendarSecond (s : State) : Host.Outcome State Fault Refusal := .next (s.whenRunning State.second)

/-- STORE_WRITE_COMPLETE (R203). -/
def execStoreWriteComplete (success : Bool) (s : State) : Host.Outcome State Fault Refusal :=
  .next (s.whenRunning (fun s => s.storeDone success))

/-- S_CLOCK_SET. -/
def execSClockSet (tag : Byte) (c : Clock) (s : State) : Host.Outcome State Fault Refusal :=
  .next (s.request tag .sClockSet (serveSClockSet c))

/-- S_STORE. -/
def execSStore (tag : Byte) (h : HostFields) (s : State) : Host.Outcome State Fault Refusal :=
  .next (s.request tag .sStore (serveSStore h))

/-- S_GET. -/
def execSGet (tag : Byte) (s : State) : Host.Outcome State Fault Refusal :=
  .next (s.request tag .sGet serveSGet)

/-- S_STATUS. -/
def execSStatus (tag : Byte) (clear : Bool) (s : State) : Host.Outcome State Fault Refusal :=
  .next (s.request tag .sStatus (serveSStatus clear))

/-- S_RESTART. -/
def execSRestart (tag : Byte) (s : State) : Host.Outcome State Fault Refusal :=
  .next (s.request tag .sRestart serveSRestart)

end Sys2Proof.Machine
end

