-- ==== Sys2Proof/Machine/Dispatch.lean ====
section
/-! DEFINITION. One arm per command: each calls the meaning of its row of spec/opcode_table.json. -/

namespace Sys2Proof.Machine

/-- The effect of a command on everything but the queue. -/
def exec (i : Instr) (s : State) : Host.Outcome State Fault Refusal :=
  match i with
  | .sampleArrival channel raw => Sys2Proof.Machine.execSampleArrival channel raw s
  | .sampleTimerExpiry channel => Sys2Proof.Machine.execSampleTimerExpiry channel s
  | .captureTimeout channel => Sys2Proof.Machine.execCaptureTimeout channel s
  | .wSet tag channel n b enables => Sys2Proof.Machine.execWSet tag channel n b enables s
  | .wTimeout tag ms => Sys2Proof.Machine.execWTimeout tag ms s
  | .wZero tag channel => Sys2Proof.Machine.execWZero tag channel s
  | .wTare tag channel => Sys2Proof.Machine.execWTare tag channel s
  | .wClearTare tag channel => Sys2Proof.Machine.execWClearTare tag channel s
  | .wCalibrateZero tag channel => Sys2Proof.Machine.execWCalibrateZero tag channel s
  | .wCalibrateSpan tag channel grams => Sys2Proof.Machine.execWCalibrateSpan tag channel grams s
  | .wStatus tag channel => Sys2Proof.Machine.execWStatus tag channel s
  | .encoderStep gauge axis pair => Sys2Proof.Machine.execEncoderStep gauge axis pair s
  | .homeEvent gauge axis => Sys2Proof.Machine.execHomeEvent gauge axis s
  | .buttonPress gauge => Sys2Proof.Machine.execButtonPress gauge s
  | .buttonRelease gauge => Sys2Proof.Machine.execButtonRelease gauge s
  | .gLatch tag gauge => Sys2Proof.Machine.execGLatch tag gauge s
  | .gStatus tag gauge => Sys2Proof.Machine.execGStatus tag gauge s
  | .tOpen tag bank length crc => Sys2Proof.Machine.execTOpen tag bank length crc s
  | .tData tag offset data => Sys2Proof.Machine.execTData tag offset data s
  | .tClose tag => Sys2Proof.Machine.execTClose tag s
  | .tDiscard tag bank => Sys2Proof.Machine.execTDiscard tag bank s
  | .tActivate tag => Sys2Proof.Machine.execTActivate tag s
  | .tStatus tag => Sys2Proof.Machine.execTStatus tag s
  | .programmingAccessComplete success => Sys2Proof.Machine.execProgrammingAccessComplete success s
  | .verificationReadComplete delivered => Sys2Proof.Machine.execVerificationReadComplete delivered s
  | .walkReadComplete delivered => Sys2Proof.Machine.execWalkReadComplete delivered s
  | .cPurge tag => Sys2Proof.Machine.execCPurge tag s
  | .cStats tag clear => Sys2Proof.Machine.execCStats tag clear s
  | .cRead tag kind index => Sys2Proof.Machine.execCRead tag kind index s
  | .iOpen tag f => Sys2Proof.Machine.execIOpen tag f s
  | .iAmend tag f => Sys2Proof.Machine.execIAmend tag f s
  | .iRate tag position => Sys2Proof.Machine.execIRate tag position s
  | .iConfirm tag position => Sys2Proof.Machine.execIConfirm tag position s
  | .iCancel tag position => Sys2Proof.Machine.execICancel tag position s
  | .iVoid tag number => Sys2Proof.Machine.execIVoid tag number s
  | .iStatus tag position => Sys2Proof.Machine.execIStatus tag position s
  | .iRead tag number => Sys2Proof.Machine.execIRead tag number s
  | .iList tag => Sys2Proof.Machine.execIList tag s
  | .iCounts tag => Sys2Proof.Machine.execICounts tag s
  | .nLoad tag first count => Sys2Proof.Machine.execNLoad tag first count s
  | .nStatus tag => Sys2Proof.Machine.execNStatus tag s
  | .beltEncoderCount forward => Sys2Proof.Machine.execBeltEncoderCount forward s
  | .speedWindowEnd => Sys2Proof.Machine.execSpeedWindowEnd s
  | .rampStep => Sys2Proof.Machine.execRampStep s
  | .bRun tag speed => Sys2Proof.Machine.execBRun tag speed s
  | .bStop tag => Sys2Proof.Machine.execBStop tag s
  | .bReset tag => Sys2Proof.Machine.execBReset tag s
  | .bStatus tag => Sys2Proof.Machine.execBStatus tag s
  | .bQueue tag => Sys2Proof.Machine.execBQueue tag s
  | .emergencyStopAsserted => Sys2Proof.Machine.execEmergencyStopAsserted s
  | .emergencyStopReleased => Sys2Proof.Machine.execEmergencyStopReleased s
  | .inductEyeFrontEdge eye => Sys2Proof.Machine.execInductEyeFrontEdge eye s
  | .inductEyeTrailingEdge eye => Sys2Proof.Machine.execInductEyeTrailingEdge eye s
  | .applicatorEyeFrontEdge => Sys2Proof.Machine.execApplicatorEyeFrontEdge s
  | .applicatorEyeTrailingEdge => Sys2Proof.Machine.execApplicatorEyeTrailingEdge s
  | .pOpen tag position treq x => Sys2Proof.Machine.execPOpen tag position treq x s
  | .pClose tag position => Sys2Proof.Machine.execPClose tag position s
  | .pStatus tag => Sys2Proof.Machine.execPStatus tag s
  | .pStats tag clear => Sys2Proof.Machine.execPStats tag clear s
  | .negotiationTimerExpiry => Sys2Proof.Machine.execNegotiationTimerExpiry s
  | .rotationTimerExpiry position => Sys2Proof.Machine.execRotationTimerExpiry position s
  | .tokenPass => Sys2Proof.Machine.execTokenPass s
  | .thtExpiry => Sys2Proof.Machine.execThtExpiry s
  | .expressWaitExpiry => Sys2Proof.Machine.execExpressWaitExpiry s
  | .printerReadyReport => Sys2Proof.Machine.execPrinterReadyReport s
  | .printerPresentedReport => Sys2Proof.Machine.execPrinterPresentedReport s
  | .printerFaultReport kind => Sys2Proof.Machine.execPrinterFaultReport kind s
  | .jobTimerExpiry => Sys2Proof.Machine.execJobTimerExpiry s
  | .queryTimerExpiry => Sys2Proof.Machine.execQueryTimerExpiry s
  | .tampExtendEnd => Sys2Proof.Machine.execTampExtendEnd s
  | .tampDwellEnd => Sys2Proof.Machine.execTampDwellEnd s
  | .tampRetractEnd sensor => Sys2Proof.Machine.execTampRetractEnd sensor s
  | .lStatus tag => Sys2Proof.Machine.execLStatus tag s
  | .lStats tag clear => Sys2Proof.Machine.execLStats tag clear s
  | .frameReceived byte => Sys2Proof.Machine.execFrameReceived byte s
  | .byteFramingError => Sys2Proof.Machine.execByteFramingError s
  | .byteGapTimeout => Sys2Proof.Machine.execByteGapTimeout s
  | .transmitFrameEnd => Sys2Proof.Machine.execTransmitFrameEnd s
  | .calendarSecond => Sys2Proof.Machine.execCalendarSecond s
  | .sClockSet tag c => Sys2Proof.Machine.execSClockSet tag c s
  | .sStore tag h => Sys2Proof.Machine.execSStore tag h s
  | .storeWriteComplete success => Sys2Proof.Machine.execStoreWriteComplete success s
  | .sGet tag => Sys2Proof.Machine.execSGet tag s
  | .sStatus tag clear => Sys2Proof.Machine.execSStatus tag clear s
  | .sRestart tag => Sys2Proof.Machine.execSRestart tag s
  | .powerOnReset sensor => Sys2Proof.Machine.execPowerOnReset sensor s
  | .pinReset sensor => Sys2Proof.Machine.execPinReset sensor s
  | .byteReceived byte => Sys2Proof.Machine.execByteReceived byte s
  | .homeSwitchOpened gauge axis => Sys2Proof.Machine.execHomeSwitchOpened gauge axis s
  | .resetLineAsserted => Sys2Proof.Machine.execResetLineAsserted s
  | .powerLoss => Sys2Proof.Machine.execPowerLoss s

end Sys2Proof.Machine
end

