-- ==== Sys2Proof/Machine/TimeBase.lean ====
section
/-! DEFINITION. The time base (R197): one millisecond event. Every running timer counts down by one, and the
command of each timer that reaches 0 joins the queue, in the fixed order of `dueCommands` (log 2). -/

namespace Sys2Proof.Machine

/-- A list of one command when a condition holds. -/
def whenDue (b : Bool) (i : Instr) : List Instr := if b then [i] else []

/-- The commands of positions at which a condition holds, in ascending order. -/
def dueAtEach (f : Pos → Bool) (i : Pos → Instr) : List Instr := (Pos.all.filter f).map i

/-- One channel at a millisecond event. -/
def Channel.tick (c : Channel) : Channel :=
  { c with sampleTimer := c.sampleTimer - 1, waiting := c.waiting.map (· - 1) }

/-- The command at the end of the tamp phase that has one millisecond left. -/
def tampDue (u : Tamp) (sensor : PadSensor) : List Instr :=
  match u with
  | .extend _ 1 => [.tampExtendEnd]
  | .dwell _ 1 => [.tampDwellEnd]
  | .retract _ 1 => [.tampRetractEnd sensor]
  | .extend .. | .dwell .. | .retract .. | .retracted | .armed .. => []

/-- The tamp at a millisecond event. -/
def tampTick : Tamp → Tamp
  | .extend e n => .extend e (n - 1)
  | .dwell e n => .dwell e (n - 1)
  | .retract e n => .retract e (n - 1)
  | .retracted => .retracted
  | .armed e p => .armed e p

/-- The Label Unit at a millisecond event: the job timer runs in PRINTING, the query timer in FAULT. -/
def LabelUnit.tick (u : LabelUnit) (fault : Bool) : LabelUnit :=
  { u with
    job := if u.printer = .printing then u.job.map (fun j => { j with timer := j.timer - 1 }) else u.job
    query := if fault then u.query - 1 else u.query
    tamp := tampTick u.tamp }

/-- The receiver is in a frame. -/
def Link.inFrame (l : Link) : Bool :=
  match l.receiver with
  | .hunting => false
  | .inFrame _ => true

/-- The next second of a SET calendar is due at the next millisecond event. -/
def Time.secondDue (t : Time) : Bool := t.msPhase == 999

/-- The Time Base at a millisecond event. -/
def Time.tick (t : Time) : Time :=
  { t with
    msPhase := if t.secondDue then 0 else t.msPhase + 1
    rampIn := t.rampIn - 1, speedIn := t.speedIn - 1 }

namespace State

/-- The Release Controller at a millisecond event (R153). -/
def releaseTick (s : State) : Release :=
  let r := s.release
  { r with
    negotiation := if r.state = .negotiating then r.negotiation - 1 else r.negotiation
    places := .of (fun k =>
      let p := r.places.get k
      if s.rotationRuns k then { p with trt := p.trt - 1 } else p)
    tht := if s.holdingRuns then r.tht - 1 else r.tht
    candidate := r.candidate.map (fun c =>
      if r.state = .rotating then { c with wait := c.wait.map (· - 1) } else c) }

/-- The commands that come due at a millisecond event, in order (log 2). The Release Controller's timers come
before the ramp and the speed window, so that a jam which suspends it at the same event finds them expired
(R153, R170), and the token pass after them, so that such a jam keeps the token where it is (R161). The pad
sensor's reading at the end of RETRACT is a free value (log 9). -/
def dueCommands (s : State) : List Instr :=
  whenDue (s.time.secondDue && s.time.calendar.isSome) .calendarSecond ++
  dueAtEach (fun k => (s.channel k).sampleTimer == 1) .sampleTimerExpiry ++
  dueAtEach (fun k => (s.channel k).waiting == some 1) .captureTimeout ++
  whenDue (s.release.state == .negotiating && s.release.negotiation == 1) .negotiationTimerExpiry ++
  dueAtEach (fun k => s.rotationRuns k && (s.release.places.get k).trt == 1) .rotationTimerExpiry ++
  whenDue (s.holdingRuns && s.release.tht == 1) .thtExpiry ++
  whenDue (s.release.state == .rotating && s.release.candidate.any (fun c => c.wait == some 1))
    .expressWaitExpiry ++
  whenDue (s.time.rampIn == 1) .rampStep ++
  whenDue (s.time.speedIn == 1) .speedWindowEnd ++
  whenDue (s.release.passFrom s.items.register).isSome .tokenPass ++
  whenDue (s.label.printer == .printing && s.label.job.any (fun j => j.timer == 1)) .jobTimerExpiry ++
  whenDue (s.printerFault && s.label.query == 1) .queryTimerExpiry ++
  tampDue s.label.tamp (Config.padSensor s.fresh) ++
  whenDue (s.link.inFrame && s.link.gap == 1) .byteGapTimeout

/-- The free values read at a millisecond event: one at the end of RETRACT. -/
def tickFresh (s : State) : Nat :=
  match s.label.tamp with
  | .retract _ 1 => s.fresh + 1
  | .retract .. | .extend .. | .dwell .. | .retracted | .armed .. => s.fresh

/-- One millisecond event (R197). -/
def tick (s : State) : State :=
  { s with
    fresh := s.tickFresh
    weighing := { s.weighing with channels := s.weighing.channels.map Channel.tick }
    release := s.releaseTick
    label := s.label.tick s.printerFault
    link := { s.link with gap := if s.link.inFrame then s.link.gap - 1 else s.link.gap }
    time := s.time.tick
    pending := s.pending ++ s.dueCommands }

end State

end Sys2Proof.Machine
end

