-- ==== Sys2Proof/Safety.lean ====
section
/-! DEFINITION. What counts as a safe step, and the conditions and results in whose terms claims about the
commands are made. -/

namespace Sys2Proof.Machine

/-- The step at `s` neither faults nor is refused. -/
def State.goesOn (s : State) : Prop := ∃ t, step s = .next t

/-- A request that arrives now takes request slot i and is served: the part works, is READY, and i is the
first free slot (R193, R204). -/
def State.takes (s : State) (i : SlotId) : Prop :=
  s.running = true ∧ s.link.part = .ready ∧ s.link.freeSlot = some i

/-- The Link Controller after a request has taken slot i and has been answered there at once (R193). -/
def State.replied (s : State) (i : SlotId) (tag : Byte) (name : ReqName) (r : Reply) : Link :=
  Link.answer i r (Link.hold i tag (.req name) s.link)

/-- The Link Controller after a request has taken slot i and is being served (R193). -/
def State.serving (s : State) (i : SlotId) (tag : Byte) (name : ReqName) : Link :=
  Link.hold i tag (.req name) s.link

/-- The next state is `s` with the request answered at once from slot i, and nothing else changed. -/
def State.answers (s : State) (i : SlotId) (tag : Byte) (name : ReqName) (r : Reply) :
    Host.Outcome State Fault Refusal := .next { s with link := s.replied i tag name r }

/-- The next state is `s` with the request refused at once from slot i, and nothing else changed. -/
def State.refuses (s : State) (i : SlotId) (tag : Byte) (name : ReqName) (r : Reason) (f : Fields := .none) :
    Host.Outcome State Fault Refusal := s.answers i tag name (.refused r f)

/-- The notices offered to the queue one after another (R196). -/
def Link.offers (l : Link) (ns : List Notice) : Link := ns.foldl (fun m n => m.offer n) l

/-- Accesses asked of the port one after another (R57). -/
def Port.asks (p : Port) (l : List Access) : Port := l.foldl (fun q a => q.ask a) p

/-- The requests in the slots answered one after another with one reply (R49, R50). -/
def Link.answers (l : Link) (slots : List SlotId) (r : Reply) : Link := slots.foldl (fun m i => m.answer i r) l

/-- A weighing channel without what captures and their comparators give it: two channels with one core agree
in every other field. -/
def Channel.core (c : Channel) : Channel :=
  { c with capture := none, disturb := none, limit := none, waiting := none }

/-- The line is at rest: nothing is tracked, the tamp is home, the diverter passes, there is no label-wait stop
and no creep, and the Release Controller is IDLE or NEGOTIATING. What follows from an event on the line
(log 11) is then nothing. -/
abbrev State.atRest (s : State) : Prop :=
  s.belt.queue = [] ∧ s.label.tamp = .retracted ∧ s.label.diverter = .pass ∧ s.belt.reason ≠ .labelWait ∧
  s.belt.drive ≠ .creeping ∧ (s.release.state = .idle ∨ s.release.state = .negotiating)

/-- `s` with a request that has taken slot i and is being served (R193). -/
def State.held (s : State) (i : SlotId) (tag : Byte) (name : ReqName) : State :=
  { s with link := s.serving i tag name }

/-- A bank state record as a rewrite asks it: its marker and CRC-16 are right, so that it reads as itself, and it
gives this sequence number and state, and what the description says (R38). -/
def recordSays (r : StateRecord) (seq : BitVec 32) (st : RecordedState) (d : Option Description) : Prop :=
  r.marker = .right ∧ r.check = crc16 (Config.recordBytes r.toRecordFields) ∧ r.seq = seq ∧ r.state = st ∧
  ∀ y, d = some y → r.length = y.length ∧ r.crc = y.crc ∧
    ∀ id version e, y.tariff = some (id, version, e) → r.tariffId = id ∧ r.version = version ∧ r.effective = e

/-! ## The laws the part keeps -/

/-- The speed law (R128): in STOPPED and ESTOPPED the setpoint and the target are 0, in STOPPING the target
is 0; setpoint, target and run target never exceed Vmax. The setpoint is in hundredths of mm/s
(log 10). -/
abbrev Belt.speedLaw (b : Belt) (vmax : Nat) : Prop :=
  ((b.drive = .stopped ∨ b.drive = .estopped) → b.setpoint = 0) ∧
  ((b.drive = .stopped ∨ b.drive = .estopped ∨ b.drive = .stopping) → b.target = 0) ∧
  b.setpoint ≤ vmax * 100 ∧ b.target ≤ vmax ∧ b.runTarget ≤ vmax

/-- The token law (R156, R161, R164): a staffed position holds the token while ROTATING or SUSPENDED, and none
does in IDLE and NEGOTIATING; a lit release stands at the position of the token; a negotiation is pending
only while a release is lit. -/
abbrev Release.tokenLaw (r : Release) : Prop :=
  r.token.isSome = (r.state == .rotating || r.state == .suspended) ∧
  r.token.all (fun k => (r.places.get k).staffed) = true ∧
  r.lit.all (fun l => r.token == some l.position) = true ∧
  (r.pendingMark = true → r.lit.isSome = true)

/-- The names law (log 18): no two entries of the tracking queue have one id, and every id was given before the
next one to be given. -/
abbrev Belt.namesLaw (b : Belt) : Prop := (b.queue.map (·.id)).Nodup ∧ ∀ e ∈ b.queue, e.id < b.nextId

/-- The outcomes counted so far (R121). -/
def Items.closed (i : Items) : Nat := i.labelled + i.rejected + i.missing + i.voided

/-- The account law (R121): the register's occupancy is confirmed less the four outcomes. -/
abbrev Items.accountLaw (i : Items) : Prop := i.confirmed = i.register.length + i.closed

/-- The bank law (R39): at most one bank is ACTIVE, at most one STAGED, at most one LOADING. -/
abbrev Tariff.bankLaw (t : Tariff) : Prop :=
  ¬(t.banks.a.state = .active ∧ t.banks.b.state = .active) ∧
  ¬(t.banks.a.state = .staged ∧ t.banks.b.state = .staged) ∧
  ¬(t.banks.a.state = .loading ∧ t.banks.b.state = .loading)

/-- The bounded stores hold no more than their sizes: register 32 (R118), tracking queue 24 (R140), number
pool 4 blocks (R113), notice queue 64 (R196), BUSY list 8 (R194). -/
abbrev State.withinSizes (s : State) : Prop :=
  s.items.register.length ≤ 32 ∧ s.belt.queue.length ≤ 24 ∧ s.items.pool.length ≤ 4 ∧
  s.link.notices.length ≤ 64 ∧ s.link.busyList.length ≤ 8

/-! ## What the operations along the line leave alone -/

/-- `t` follows from `s` by operations along the line: what they leave alone, and the laws they keep. -/
structure LineFrame (s t : State) : Prop where
  pins : t.pins = s.pins
  weighing : t.weighing = s.weighing
  gauges : t.gauges = s.gauges
  tariff : t.tariff = s.tariff
  flash : t.flash = s.flash
  port : t.port = s.port
  cache : t.cache = s.cache
  rating : t.rating = s.rating
  settings : t.settings = s.settings
  time : t.time = s.time
  fresh : t.fresh = s.fresh
  pending : t.pending = s.pending
  slots : t.items.slots = s.items.slots
  pool : t.items.pool = s.items.pool
  issued : t.items.issued = s.items.issued
  lowMark : t.items.lowMark = s.items.lowMark
  confirmed : t.items.confirmed = s.items.confirmed
  account : t.items.register.length + t.items.closed = s.items.register.length + s.items.closed
  occupancy : t.items.register.length ≤ s.items.register.length
  p : t.belt.p = s.belt.p
  sub : t.belt.sub = s.belt.sub
  high : t.belt.high = s.belt.high
  measured : t.belt.measured = s.belt.measured
  windowCount : t.belt.windowCount = s.belt.windowCount
  jamCount : t.belt.jamCount = s.belt.jamCount
  eyes : t.belt.eyes = s.belt.eyes
  applicator : t.belt.applicator = s.belt.applicator
  runTarget : t.belt.runTarget = s.belt.runTarget
  setpoint : t.belt.setpoint = s.belt.setpoint
  queue : s.belt.queue.length ≤ 24 → t.belt.queue.length ≤ 24
  names : s.belt.namesLaw → t.belt.namesLaw
  speed : ∀ v, 100 ≤ v → s.belt.speedLaw v → t.belt.speedLaw v
  token : s.release.tokenLaw → t.release.tokenLaw
  requests : t.link.slots = s.link.slots
  ready : t.link.ready = s.link.ready
  receiver : t.link.receiver = s.link.receiver
  gap : t.link.gap = s.link.gap
  part : t.link.part = s.link.part
  frameErrors : t.link.frameErrors = s.link.frameErrors
  lostRequests : t.link.lostRequests = s.link.lostRequests
  restartSlot : t.link.restartSlot = s.link.restartSlot
  notices : s.link.notices.length ≤ 64 → t.link.notices.length ≤ 64

/-- `t` follows from `s` by a command of the belt line: everything off the line is as before, the Link
Controller apart from its replies and notices, and no item is lost from the account. -/
structure OffLine (s t : State) : Prop where
  pins : t.pins = s.pins
  weighing : t.weighing = s.weighing
  gauges : t.gauges = s.gauges
  tariff : t.tariff = s.tariff
  flash : t.flash = s.flash
  port : t.port = s.port
  cache : t.cache = s.cache
  rating : t.rating = s.rating
  settings : t.settings = s.settings
  time : t.time = s.time
  fresh : t.fresh = s.fresh
  pending : t.pending = s.pending
  slots : t.items.slots = s.items.slots
  pool : t.items.pool = s.items.pool
  issued : t.items.issued = s.items.issued
  lowMark : t.items.lowMark = s.items.lowMark
  confirmed : t.items.confirmed = s.items.confirmed
  account : t.items.register.length + t.items.closed = s.items.register.length + s.items.closed
  receiver : t.link.receiver = s.link.receiver
  part : t.link.part = s.link.part
  frameErrors : t.link.frameErrors = s.link.frameErrors
  lostRequests : t.link.lostRequests = s.link.lostRequests
  restartSlot : t.link.restartSlot = s.link.restartSlot

/-! ## What the counter side leaves alone -/

/-- `t` follows from `s` by operations of the weighing channels, the gauges, the open-item slots, the Rating
Unit and the Rate Cache with its walks: what they leave alone. -/
structure CounterFrame (s t : State) : Prop where
  pins : t.pins = s.pins
  timeout : t.weighing.timeout = s.weighing.timeout
  tariff : t.tariff = s.tariff
  flash : t.flash = s.flash
  belt : t.belt = s.belt
  release : t.release = s.release
  label : t.label = s.label
  time : t.time = s.time
  settings : t.settings = s.settings
  fresh : t.fresh = s.fresh
  pending : t.pending = s.pending
  register : t.items.register = s.items.register
  pool : t.items.pool = s.items.pool
  issued : t.items.issued = s.items.issued
  lowMark : t.items.lowMark = s.items.lowMark
  confirmed : t.items.confirmed = s.items.confirmed
  labelled : t.items.labelled = s.items.labelled
  rejected : t.items.rejected = s.items.rejected
  missing : t.items.missing = s.items.missing
  voided : t.items.voided = s.items.voided
  receiver : t.link.receiver = s.link.receiver
  gap : t.link.gap = s.link.gap
  part : t.link.part = s.link.part
  frameErrors : t.link.frameErrors = s.link.frameErrors
  lostRequests : t.link.lostRequests = s.link.lostRequests
  restartSlot : t.link.restartSlot = s.link.restartSlot
  busyList : t.link.busyList = s.link.busyList
  notices : s.link.notices.length ≤ 64 → t.link.notices.length ≤ 64

/-! ## What the Tariff Controller leaves alone -/

/-- `t` follows from `s` by operations of the Tariff Controller and its port, with what they tell the cache, the
ratings and the open-item slots: what they leave alone, and the laws they keep. -/
structure TariffFrame (s t : State) : Prop where
  pins : t.pins = s.pins
  timeout : t.weighing.timeout = s.weighing.timeout
  belt : t.belt = s.belt
  release : t.release = s.release
  label : t.label = s.label
  time : t.time = s.time
  settings : t.settings = s.settings
  pending : t.pending = s.pending
  register : t.items.register = s.items.register
  pool : t.items.pool = s.items.pool
  issued : t.items.issued = s.items.issued
  lowMark : t.items.lowMark = s.items.lowMark
  confirmed : t.items.confirmed = s.items.confirmed
  labelled : t.items.labelled = s.items.labelled
  rejected : t.items.rejected = s.items.rejected
  missing : t.items.missing = s.items.missing
  voided : t.items.voided = s.items.voided
  receiver : t.link.receiver = s.link.receiver
  gap : t.link.gap = s.link.gap
  part : t.link.part = s.link.part
  frameErrors : t.link.frameErrors = s.link.frameErrors
  lostRequests : t.link.lostRequests = s.link.lostRequests
  restartSlot : t.link.restartSlot = s.link.restartSlot
  busyList : t.link.busyList = s.link.busyList
  notices : s.link.notices.length ≤ 64 → t.link.notices.length ≤ 64
  memory : Memory.wf s.flash.cells = true → Memory.wf t.flash.cells = true
  banks : s.tariff.bankLaw → t.tariff.bankLaw

end Sys2Proof.Machine
end

