-- ==== Sys2Proof/Certificates/Slice0/Obligations.lean ====
section
/-! DEFINITION. The statements about the part, chapter by chapter of spec/. A request is stated as it arrives
at a working part that is READY with a free slot (`State.takes`); its answer is `State.replied`. -/

open Sys2Proof Sys2Proof.Machine

/-! ## The queue, the time base and dispatch -/

/-- A step takes the command at the front of the queue and runs it with the queue's rest (log 1). -/
def Obligations.StepRunsFrontCommand : Prop :=
  ∀ (c : Instr) (rest : List Instr) (s : State), s.pending = c :: rest →
    step s = exec c { s with pending := rest }

/-- With nothing waiting a working part takes one millisecond event (R197; that an empty queue stands for it is
the model's choice, log 2): each running timer counts down by one, and the command of each timer that
ends joins the queue. A part without power or held in reset stays as it is. -/
def Obligations.IdleStepTicks : Prop :=
  ∀ s : State, s.pending = [] →
    (s.running = false → step s = .next s) ∧
    (s.running = true → ∃ t, step s = .next t ∧
      (∀ k, t.channel k = { s.channel k with
        sampleTimer := (s.channel k).sampleTimer - 1
        waiting := (s.channel k).waiting.map (· - 1) }) ∧
      (∀ k, .sampleTimerExpiry k ∈ t.pending ↔ (s.channel k).sampleTimer = 1) ∧
      (∀ k, .captureTimeout k ∈ t.pending ↔ (s.channel k).waiting = some 1) ∧
      t.time.rampIn = s.time.rampIn - 1 ∧ (.rampStep ∈ t.pending ↔ s.time.rampIn = 1) ∧
      t.time.speedIn = s.time.speedIn - 1 ∧ (.speedWindowEnd ∈ t.pending ↔ s.time.speedIn = 1) ∧
      t.time.calendar = s.time.calendar ∧
      t.time.msPhase = (if s.time.msPhase = 999 then 0 else s.time.msPhase + 1) ∧
      (.calendarSecond ∈ t.pending ↔ s.time.msPhase = 999 ∧ s.time.calendar.isSome = true) ∧
      (let r := s.release
       let counts (k : Pos) : Prop :=
         (r.places.get k).staffed = true ∧ (r.places.get k).mode = .running ∧ r.state = .rotating
       let holds : Prop := r.state = .rotating ∧ r.token ≠ none ∧ r.lit = none
       t.release.negotiation = (if r.state = .negotiating then r.negotiation - 1 else r.negotiation) ∧
       (.negotiationTimerExpiry ∈ t.pending ↔ r.state = .negotiating ∧ r.negotiation = 1) ∧
       (∀ k, (counts k → t.release.places.get k = { r.places.get k with trt := (r.places.get k).trt - 1 }) ∧
         (¬counts k → t.release.places.get k = r.places.get k) ∧
         (.rotationTimerExpiry k ∈ t.pending ↔ counts k ∧ (r.places.get k).trt = 1)) ∧
       (holds → t.release.tht = r.tht - 1) ∧ (¬holds → t.release.tht = r.tht) ∧
       (.thtExpiry ∈ t.pending ↔ holds ∧ r.tht = 1) ∧
       t.release.candidate = (if r.state = .rotating then
         r.candidate.map (fun c => { c with wait := c.wait.map (· - 1) }) else r.candidate) ∧
       (.expressWaitExpiry ∈ t.pending ↔ r.state = .rotating ∧ ∃ c, r.candidate = some c ∧ c.wait = some 1) ∧
       (.tokenPass ∈ t.pending ↔ r.passFrom s.items.register ≠ none)) ∧
      (let u := s.label
       t.label.job = (if u.printer = .printing then u.job.map (fun j => { j with timer := j.timer - 1 }) else u.job) ∧
       (.jobTimerExpiry ∈ t.pending ↔ u.printer = .printing ∧ ∃ j, u.job = some j ∧ j.timer = 1) ∧
       (∀ k, u.printer = .fault k → t.label.query = u.query - 1) ∧
       (.queryTimerExpiry ∈ t.pending ↔ (∃ k, u.printer = .fault k) ∧ u.query = 1) ∧
       (∀ e n, (u.tamp = .extend e n → t.label.tamp = .extend e (n - 1)) ∧
         (u.tamp = .dwell e n → t.label.tamp = .dwell e (n - 1)) ∧
         (u.tamp = .retract e n → t.label.tamp = .retract e (n - 1))) ∧
       (.tampExtendEnd ∈ t.pending ↔ ∃ e, u.tamp = .extend e 1) ∧
       (.tampDwellEnd ∈ t.pending ↔ ∃ e, u.tamp = .dwell e 1) ∧
       ((∃ p, .tampRetractEnd p ∈ t.pending) ↔ ∃ e, u.tamp = .retract e 1)) ∧
      (∀ bs, s.link.receiver = .inFrame bs → t.link.gap = s.link.gap - 1) ∧
      (.byteGapTimeout ∈ t.pending ↔ (∃ bs, s.link.receiver = .inFrame bs) ∧ s.link.gap = 1) ∧
      t.weighing.timeout = s.weighing.timeout ∧ t.pins = s.pins ∧ t.gauges = s.gauges ∧
      t.tariff = s.tariff ∧ t.flash = s.flash ∧ t.port = s.port ∧ t.cache = s.cache ∧
      t.rating = s.rating ∧ t.items = s.items ∧ t.belt = s.belt ∧ t.settings = s.settings)

/-- What dispatch does with every request row (R193, R194): BUSY or lost without a free slot; else it holds
the slot and is answered BAD_LENGTH or STARTING, or is handed to the block that serves it. -/
def Obligations.RequestArrival : Prop :=
  ∀ (c : Instr) (tag : Byte) (r : Request) (s : State), c.request = some (tag, r) → s.running = true →
    (s.link.freeSlot = none →
      exec c s = .next (s.onLink (fun l =>
        if l.busyList.length < 8 then
          Link.sendNext { l with ready := l.ready ++ [.busy tag (.req r.name)] }
        else { l with lostRequests :=
          if l.lostRequests < 65535 then l.lostRequests + 1 else l.lostRequests }))) ∧
    (∀ i, s.link.freeSlot = some i →
      (requestFits r = false → exec c s = s.answers i tag r.name .badLength) ∧
      (requestFits r = true → s.link.part = .starting → r.name ≠ .sStatus →
        exec c s = s.refuses i tag r.name .starting) ∧
      (requestFits r = true → (s.link.part = .ready ∨ r.name = .sStatus) →
        exec c s = .next (serve r i { s with link := s.serving i tag r.name })))

/-- The requests that only read answer at once and change nothing but the Link Controller (R22, R35, R58, R112, R122,
R137, R151, R171, R189, R203); L_STATUS reads a free value for the pad sensor (log 9). The statistics requests give
the values and, when asked, clear them after (R74, R171, R189, R205). That a number which is no item number is named as
the field number is the model's choice (log 29): R122 names no field. -/
def Obligations.StatusAndStatisticsAnswered : Prop :=
  (∀ (s : State) (i : SlotId) (tag : Byte), s.takes i →
    (∀ n k, Pos.ofNumber n = some k →
      exec (.wStatus tag n) s = s.answers i tag .wStatus (.ok (.channel ((s.channel k).view s.weighing.timeout))) ∧
      exec (.gStatus tag n) s =
        s.answers i tag .gStatus (.ok (.gauge ((s.gauges.get k).view (s.settings.host.homeOffsets.get k)))) ∧
      exec (.iStatus tag n) s =
        s.answers i tag .iStatus (.ok ((s.openSlot k).view (s.serving i tag .iStatus).tagOf))) ∧
    exec (.tStatus tag) s = s.answers i tag .tStatus (.ok (.tariff s.tariffView)) ∧
    (∀ ds n e, numberField ds = some n → s.findItem n = some e →
      exec (.iRead tag ds) s = s.answers i tag .iRead (.ok (.regEntry e))) ∧
    (∀ ds n, numberField ds = some n → s.findItem n = none →
      exec (.iRead tag ds) s =
        s.refuses i tag .iRead .noSuchItem) ∧
    (∀ ds, numberField ds = none →
      exec (.iRead tag ds) s =
        s.refuses i tag .iRead .badField (.field .number)) ∧
    exec (.iList tag) s = s.answers i tag .iList (.ok (.regList (s.items.register.map
        (fun e => ⟨e.number, e.position, e.state, e.label, e.reject⟩)))) ∧
    exec (.iCounts tag) s =
      s.answers i tag .iCounts (.ok (.counts ⟨s.items.confirmed, s.items.labelled, s.items.rejected, s.items.missing,
        s.items.voided, s.items.register.length⟩)) ∧
    exec (.nStatus tag) s =
      s.answers i tag .nStatus (.ok (.pool ⟨s.items.pool, (s.items.pool.map (fun b => b.last + 1 - b.next)).sum,
        s.settings.host.lowWater, s.items.lowMark, s.items.issued⟩)) ∧
    exec (.bStatus tag) s = s.answers i tag .bStatus (.ok (.belt s.beltView)) ∧
    exec (.bQueue tag) s =
      s.answers i tag .bQueue (.ok (.queue (s.belt.queue.map (fun e => (e, (e.front - s.belt.p).toInt))))) ∧
    exec (.pStatus tag) s = s.answers i tag .pStatus (.ok (.release (s.release.view s.settings.host.defaults))) ∧
    exec (.lStatus tag) s = ({ s with fresh := s.fresh + 1 } : State).answers i tag .lStatus
      (.ok (.label (s.labelView (Config.padSensor s.fresh)))) ∧
    exec (.sGet tag) s =
      s.answers i tag .sGet (.ok (.settings s.settings.recordInForce s.settings.seq s.settings.source))) ∧
  (∀ (s : State) (i : SlotId) (tag : Byte) (clear : Bool), s.takes i →
    exec (.cStats tag clear) s =
      (s.onCache (fun c => { c with stats := if clear then {} else c.stats })).answers i tag .cStats
        (.ok (.cache (s.cache.view s.tariff.generation))) ∧
    exec (.pStats tag clear) s =
      (s.onRelease (fun r => { r with stats := if clear then {} else r.stats })).answers i tag .pStats
        (.ok (.relStats s.release.stats)) ∧
    exec (.lStats tag clear) s =
      (s.onLabel (fun u => { u with stats := if clear then {} else u.stats })).answers i tag .lStats
        (.ok (.labelStats s.label.stats)) ∧
    (∃ l, exec (.sStatus tag clear) s = .next { s with link := l } ∧
      l.frameErrors = (if clear then 0 else s.link.frameErrors) ∧
      l.lostRequests = (if clear then 0 else s.link.lostRequests) ∧
      l.slots[i] = some ⟨tag, .req .sStatus, .replyReady (.ok (.part
        { part := .ready, partCode := 6120, revision := Config.revision, calendar := s.time.calendar
          bankA := s.tariff.banks.a.state, bankB := s.tariff.banks.b.state
          source := s.settings.source, seq := s.settings.seq, storing := s.settings.store.isSome
          slotsHeld := (s.serving i tag .sStatus).slotsHeld, busyEntries := s.link.busyList.length
          notices := s.link.notices.length, drops := s.link.drops
          frameErrors := s.link.frameErrors, lostRequests := s.link.lostRequests }))⟩))


/-- A channel, gauge or position field outside 1 to 6 is refused with BAD_FIELD and changes nothing (R7, R10, R12
to R14, R22, R31, R35, R105, R109, R110, R112, R154, R155). That the reply names this field, whatever else is
wrong in the request, is the model's choice (log 29): no rule says which field a BAD_FIELD names. -/
def Obligations.PositionFieldChecked : Prop :=
  ∀ (s : State) (i : SlotId) (tag : Byte) (n : Nat), s.takes i → (n < 1 ∨ 6 < n) →
    (∀ m b e, exec (.wSet tag n m b e) s =
      s.refuses i tag .wSet .badField (.field .channel)) ∧
    exec (.wZero tag n) s =
      s.refuses i tag .wZero .badField (.field .channel) ∧
    exec (.wTare tag n) s =
      s.refuses i tag .wTare .badField (.field .channel) ∧
    exec (.wClearTare tag n) s =
      s.refuses i tag .wClearTare .badField (.field .channel) ∧
    exec (.wCalibrateZero tag n) s =
      s.refuses i tag .wCalibrate .badField (.field .channel) ∧
    (∀ g, exec (.wCalibrateSpan tag n g) s =
      s.refuses i tag .wCalibrate .badField (.field .channel)) ∧
    exec (.wStatus tag n) s =
      s.refuses i tag .wStatus .badField (.field .channel) ∧
    exec (.gLatch tag n) s =
      s.refuses i tag .gLatch .badField (.field .gauge) ∧
    exec (.gStatus tag n) s =
      s.refuses i tag .gStatus .badField (.field .gauge) ∧
    exec (.iRate tag n) s =
      s.refuses i tag .iRate .badField (.field .position) ∧
    exec (.iConfirm tag n) s =
      s.refuses i tag .iConfirm .badField (.field .position) ∧
    exec (.iCancel tag n) s =
      s.refuses i tag .iCancel .badField (.field .position) ∧
    exec (.iStatus tag n) s =
      s.refuses i tag .iStatus .badField (.field .position) ∧
    (∀ t x, exec (.pOpen tag n t x) s =
      s.refuses i tag .pOpen .badField (.field .position)) ∧
    exec (.pClose tag n) s =
      s.refuses i tag .pClose .badField (.field .position)

/-! ## Weighing channels (01_weighing_channels.md) -/

/-- Conversion and the mean round half away from zero (R3, R6): the result times the divisor differs from the
dividend by at most half the divisor, and by exactly half only on the side away from zero. -/
def Obligations.WeighingRoundsHalfAway : Prop :=
  ∀ (num : Int) (den : Nat), 0 < den →
    2 * (roundHalfAway num den * den - num).natAbs ≤ den ∧
    (2 * (roundHalfAway num den * den - num).natAbs = den →
      num.natAbs < (roundHalfAway num den * den).natAbs) ∧
    (∀ zero raw : Int, (raw - zero) * 10000 = num → fineAbout zero den raw = roundHalfAway num den) ∧
    (∀ w : List Int, w.sum = num → w.length = den → meanOf w = roundHalfAway num den)

/-- The reported gross is the fine weight in grams to the nearest multiple of e, halves up, where e is 2 g up to
f = 60,000 and 10 g beyond (R4). -/
def Obligations.ReportedGrossNearest : Prop :=
  ∀ f : Int, intervalAt f = (if f ≤ 60000 then 2 else 10) ∧
    ∃ m : Int, reportedGross f = m * intervalAt f ∧
      f - 5 * intervalAt f < 10 * reportedGross f ∧ 10 * reportedGross f ≤ f + 5 * intervalAt f

/-- A sample at a working part (R1, R2, R4 to R6, R8, R9, R11, R18): the window, the settled result, the state
from the first condition that holds, the try of the initial zero, tracking, the report, REMOVAL and the
interlock. It leaves the other channels' weighing and everything off the counter side as it was. What a sample does
to captures, comparators, a waiting capture, slots and ratings is SampleComparators'. -/
def Obligations.SampleDecidesChannel : Prop :=
  ∀ (s : State) (k : Pos) (raw : BitVec 24), s.running = true →
    ∃ t, exec (.sampleArrival k raw) s = .next t ∧ CounterFrame s t ∧
      (∀ j, j ≠ k → (t.channel j).core = (s.channel j).core) ∧
      let c := s.channel k
      let w := c.window.drop (c.window.length + 1 - c.n) ++ [raw.toInt]
      let mean := meanOf w
      let fm := fineAbout c.zw c.k mean
      let f := fineAbout c.zw c.k raw.toInt
      let settled : Prop := w.length = c.n ∧
        ∀ r ∈ w, (fineAbout c.zw c.k r - fm).natAbs ≤ c.b * intervalAt fm * 10
      let zeroed : Prop := c.z0 = none ∧ settled ∧ (fineAbout c.zc c.k mean).natAbs ≤ 30000
      let state : ChanState :=
        if c.z0 = none then (if zeroed then .stable else .zeroing)
        else if f > 300900 then .over else if f < -400 then .under
        else if settled then .stable else .motion
      let tracked : Prop := c.z0 ≠ none ∧ state = .stable ∧ c.tare = none ∧ c.capture = none ∧
        fm.natAbs ≤ 10 ∧ ∀ z, c.z0 = some z → (fineAbout z c.k mean).natAbs ≤ 6000
      let zw := if zeroed ∨ tracked then mean else c.zw
      let fine := if state = .stable then fineAbout zw c.k mean else f
      let net := reportedGross fine - c.tare.getD 0
      let weighs : Prop := state = .motion ∨ state = .stable
      (t.channel k).core = { c.core with
        window := w, missCount := 0, sampleTimer := 20, settled := decide settled, state := state
        z0 := if zeroed then some mean else c.z0
        zw := zw
        report := if weighs then some ⟨reportedGross fine, net, intervalAt fine, false⟩ else c.report
        removal := if weighs then decide (net < 10) else c.removal
        interlock := c.interlock && !decide (weighs ∧ net < 10)
        zeroRangeSent := (c.zeroRangeSent && decide (c.state = .zeroing)) ||
          decide (c.z0 = none ∧ settled ∧ ¬zeroed) }

/-- What a sample does to captures, comparators and the item (R16 to R21, R80, R81, R105, R106, R111): DISTURB and then
SERVICE_LIMIT, each releasing the capture and returning the item to OPEN; the I_RATE of a rating QUEUED or IN_PROGRESS
is refused DISTURBED and its request or rating withdrawn; a waiting capture is served once the channel is STABLE.
The order of the notices is the model's choice (log 14), and so is it that they show no report in OVER, UNDER and
ZEROING (log 15). -/
def Obligations.SampleComparators : Prop :=
  ∀ (s : State) (k : Pos) (raw : BitVec 24), s.running = true →
    ∃ t, exec (.sampleArrival k raw) s = .next t ∧
      let others : Prop := ∀ j, j ≠ k → t.channel j = s.channel j
      let c := s.channel k
      let now := t.channel k
      let weighs : Prop := now.state = .motion ∨ now.state = .stable
      let net := (now.report.map (·.net)).getD 0
      let shown := if weighs then now.report else none
      let disturbed : Prop := ∃ d, c.disturb = some d ∧
        ((weighs ∧ (net - d).natAbs > 2 * ((c.capture.map (·.e)).getD 0)) ∨
          ((c.state = .motion ∨ c.state = .stable) ∧ (now.state = .over ∨ now.state = .under)))
      let released : Prop := disturbed ∧ c.capture ≠ none
      let limited : Prop := ¬released ∧ ∃ m, c.limit = some m ∧ weighs ∧ net > m
      let lost : Prop := (disturbed ∨ limited) ∧ c.capture ≠ none
      let told (e : WeightEvent) (on : Bool) : List Notice :=
        if on then [.weightState k e now.state shown] else []
      let first : List Notice :=
        (if now.state = c.state then [] else told (.change c.state now.state)
            (if (c.state = .motion ∨ c.state = .stable) ∧ weighs then c.enables.motionStable
              else c.enables.fault)) ++
        (if now.zeroRangeSent ∧ ¬(c.zeroRangeSent ∧ c.state = .zeroing) then
          told .zeroRange c.enables.fault else []) ++
        (if now.removal = c.removal then [] else
          told (if now.removal then .removalOn else .removalOff) c.enables.removal)
      (c.waiting = none → (∀ it ph i, s.openSlot k ≠ .rating it ph i) →
        let item (cause : LostCause) : List Notice :=
          if s.openSlot k = .idle then []
          else [.itemDisturbed k cause (if cause = .serviceLimit ∧ disturbed then .opened
            else (s.openSlot k).state)]
        now.capture = (if lost then none else c.capture) ∧
        now.disturb = (if lost then none else c.disturb) ∧
        now.limit = (if lost then none else c.limit) ∧ now.waiting = none ∧
        t.items.slots = (if disturbed ∨ limited then
          s.items.slots.set k (match (s.openSlot k).item? with
            | none => .idle | some it => .opened { it with capture := none }) else s.items.slots) ∧
        others ∧ t.gauges = s.gauges ∧ t.port = s.port ∧ t.cache = s.cache ∧ t.rating = s.rating ∧
        t.link = s.link.offers (first ++
          (if disturbed then told .disturb c.enables.disturb ++ item .disturb else []) ++
          (if limited then told .serviceLimit c.enables.serviceLimit ++ item .serviceLimit else []))) ∧
      (∀ it ph i, c.waiting = none → c.capture ≠ none → ph ≠ .gathering → s.openSlot k = .rating it ph i →
        let rest : Prop := now.waiting = none ∧ others ∧ t.gauges = s.gauges ∧ t.port = s.port
        (¬disturbed → ¬limited → rest ∧ now.capture = c.capture ∧ now.disturb = c.disturb ∧ now.limit = c.limit ∧
          t.items.slots = s.items.slots ∧ t.rating = s.rating ∧ t.cache = s.cache ∧
          t.link = s.link.offers first) ∧
        (disturbed ∨ limited →
          let withdrawn : Prop :=
            rest ∧ now.capture = none ∧ now.disturb = none ∧ now.limit = none ∧
            t.items.slots = s.items.slots.set k (.opened { it with capture := none }) ∧
            t.link = ((s.link.offers (first ++ (if disturbed then told .disturb c.enables.disturb
              else told .serviceLimit c.enables.serviceLimit))).answer i (.refused .disturbed .none)).offer
                (.itemDisturbed k (if disturbed then .disturb else .serviceLimit) .rating)
          ((∀ u, s.rating.current = some u → u.req.position ≠ k) → withdrawn ∧ t.cache = s.cache ∧
            t.rating = { s.rating with
              pendingList := s.rating.pendingList.filter (fun q => q.position != k) }) ∧
          (∀ u, s.rating.current = some u → u.req.position = k → s.rating.pendingList = [] →
            withdrawn ∧ t.cache = { s.cache with waiting := none } ∧ t.rating = { s.rating with
              current := none
              orphan := if s.cache.waiting.isSome then s.rating.orphan else some u.lookup }))) ∧
      (∀ it i ms, c.waiting = some ms → c.capture = none → c.disturb = none → c.limit = none →
        s.openSlot k = .rating it .gathering i →
        let g := s.gauges.get k
        let kept : Prop := others ∧ t.rating = s.rating ∧ t.cache = s.cache ∧ t.port = s.port
        let ends (o : OpenSlot) (l : Link) : Prop :=
          t.items.slots = s.items.slots.set k o ∧ t.link = l ∧ t.gauges = s.gauges ∧ kept
        let held := s.link.offers first
        (now.state ≠ .stable → now.waiting = some ms ∧ now.capture = none ∧ now.disturb = none ∧
          t.items.slots = s.items.slots ∧ t.link = held ∧ t.gauges = s.gauges ∧ kept) ∧
        (now.state = .stable → now.waiting = none ∧ ∃ r, now.report = some r ∧
          (r.net < 20 → now.capture = none ∧ now.disturb = none ∧
            ends (.opened it) (held.answer i (.refused .tooLight .none))) ∧
          (30000 < r.net → now.capture = none ∧ now.disturb = none ∧
            ends (.opened it) (held.answer i (.refused .tooHeavy .none))) ∧
          (20 ≤ r.net → r.net ≤ 30000 →
            let x : Capture := ⟨r.net, r.e, s.time.calendar.map (·.minute)⟩
            let got : OpenItem := { it with capture := some x }
            let queued (y : OpenItem) (d : Three Nat) (record : Option LatchRecord) : Prop :=
              t.items.slots = s.items.slots.set k (.rating y .queued i) ∧ t.link = held ∧
              others ∧ t.gauges = s.gauges.set k { g with record := record } ∧ t.cache = s.cache ∧ t.port = s.port ∧
              t.rating = { s.rating with
                pendingList := s.rating.pendingList ++ [y.request k x.net.toNat d] }
            now.capture = some x ∧ now.disturb = some x.net ∧
            (∀ a, it.keyed = none → g.record = none → (g.axes.get a).state ≠ .ready →
              (a = .width → (g.axes.get .length).state = .ready) →
              (a = .height → (g.axes.get .length).state = .ready ∧ (g.axes.get .width).state = .ready) →
              ends (.opened got) (held.answer i
                (.refused .gaugeNotReady (.latchFailed a (g.axes.map (·.state)))))) ∧
            (s.rating.current ≠ none →
              (∀ d, it.keyed = some d → queued got d g.record) ∧
              (∀ l, it.keyed = none → g.record = some l →
                queued { got with latched := some { l with claimed := true } } l.cm
                  (some { l with claimed := true })) ∧
              (it.keyed = none → g.record = none → (∀ a, (g.axes.get a).state = .ready) →
                let cm (a : AxisRec) : Nat := (a.count.toNat + 19) / 20
                let l : LatchRecord := ⟨g.axes.map (·.count), g.axes.map cm, .rating, true⟩
                queued { got with latched := some l } l.cm (some l))))))


/-- A missed sample (R1, R8, R17, R19, R21, R80, R81, R111): the miss count rises to at most 10 and the timer
restarts; at 10 the channel enters OFFLINE with its window emptied and its report stale, an armed DISTURB fires and
releases the capture, its item returns to OPEN, the I_RATE of a rating QUEUED or IN_PROGRESS being refused DISTURBED
and its request or rating withdrawn, and a waiting capture fails. The end of a capture wait (R16, R105) fails the
I_RATE it served by the channel's state, and its item is OPEN again. The model's choices: the order of the notices at
the entry into OFFLINE (log 14), that another rating chosen and completed at a withdrawal answers first (log 63), and
that CAPTURE_TIMEOUT does nothing where no capture waits (log 20). -/
def Obligations.SampleAndCaptureTimers : Prop :=
  (∀ (s : State) (k : Pos), s.running = true →
    let c := s.channel k
    let missed := { c with sampleTimer := 20, missCount := if c.missCount < 10 then c.missCount + 1 else c.missCount }
    let off := { missed with
      state := .offline, window := [], settled := false, report := c.report.map (fun r => { r with stale := true }) }
    let told (e : WeightEvent) (on : Bool) (l : Link) : Link :=
      if on then l.offer (.weightState k e .offline off.report) else l
    let leaves : Prop := missed.missCount = 10 ∧ c.state ≠ .offline
    (¬leaves → exec (.sampleTimerExpiry k) s = .next (s.onChannel k (fun _ => missed))) ∧
    (leaves → ∃ t, exec (.sampleTimerExpiry k) s = .next t ∧ CounterFrame s t ∧
      (t.channel k).core = off.core ∧ (∀ j, j ≠ k → (t.channel j).core = (s.channel j).core) ∧
      (c.disturb = none → c.waiting = none →
        t = (s.onChannel k (fun _ => off)).onLink (told (.change c.state .offline) c.enables.fault)) ∧
      (∀ ms it i, c.disturb = none → c.waiting = some ms → s.openSlot k = .rating it .gathering i →
        t = (((s.onChannel k (fun _ => { off with waiting := none })).onLink
          (told (.change c.state .offline) c.enables.fault)).setOpenSlot k (.opened it)).refuse i .channelOffline) ∧
      (∀ d x, c.disturb = some d → c.capture = some x → c.waiting = none →
        let released := ((s.onChannel k (fun _ => { off with capture := none, disturb := none, limit := none })).onLink
          (told (.change c.state .offline) c.enables.fault)).onLink (told .disturb c.enables.disturb)
        let back (it : OpenItem) : State := released.setOpenSlot k (.opened { it with capture := none })
        ((s.openSlot k = .idle ∨ ∃ it i, s.openSlot k = .rating it .gathering i) → t = released) ∧
        (∀ it, s.openSlot k = .opened it → t = (back it).offer (.itemDisturbed k .disturb .opened)) ∧
        (∀ it r stale, s.openSlot k = .rated it r stale → t = (back it).offer (.itemDisturbed k .disturb .rated)) ∧
        (∀ it ph i, s.openSlot k = .rating it ph i → ph ≠ .gathering →
          let ends (u : State) : Prop := t = (u.refuse i .disturbed).offer (.itemDisturbed k .disturb .rating)
          ((∀ u, s.rating.current = some u → u.req.position ≠ k) → ends ((back it).onRating (fun x => { x with
            pendingList := x.pendingList.filter (fun q => q.position != k) }))) ∧
          (∀ u, s.rating.current = some u → u.req.position = k →
            let dropped := if s.cache.waiting.isSome = true then (back it).onCache (fun x => { x with waiting := none })
              else (back it).onRating (fun x => { x with orphan := some u.lookup })
            ends (dropped.onRating (fun x => { x with current := none })).arbitrate))))) ∧
  (∀ (s : State) (k : Pos), s.running = true →
    let ended := s.onChannel k (fun c => { c with waiting := none })
    ((s.channel k).waiting = none → exec (.captureTimeout k) s = .next s) ∧
    ((s.channel k).waiting ≠ none →
      (∀ it i, s.openSlot k = .rating it .gathering i →
        exec (.captureTimeout k) s = .next ((ended.setOpenSlot k (.opened it)).refuse i
          (if (s.channel k).state = .over then .channelOver
            else if (s.channel k).state = .under then .channelUnder else .weightUnstable))) ∧
      ((∀ it i, s.openSlot k ≠ .rating it .gathering i) → exec (.captureTimeout k) s = .next ended)))


/-- W_SET and W_TIMEOUT limit their values and answer CLAMPED when they did; a changed N empties the window and takes a
STABLE channel to MOTION (R7, R21). W_ZERO, W_TARE and W_CLEAR_TARE: the first check that fails gives the refusal,
which changes nothing; else the zero becomes the mean, the tare the reported gross, or the tare goes (R10, R12). The
model's choices: that OK carries the values used as CLAMPED does (log 42), and that W_SET's notice comes before its
reply (log 46). -/
def Obligations.WeighingRequests : Prop :=
  (∀ (s : State) (i : SlotId) (tag : Byte), s.takes i →
    (∀ n k m b e, Pos.ofNumber n = some k →
      let c := s.channel k
      let m' := if m < 4 then 4 else if 32 < m then 32 else m
      let b' := if b < 1 then 1 else if 5 < b then 5 else b
      let c' := if m' = c.n then { c with b := b', enables := e }
        else { c with
          n := m', b := b', enables := e, window := [], settled := false
          state := if c.state = .stable then .motion else c.state }
      let held := s.serving i tag .wSet
      let told := if m' ≠ c.n ∧ c.state = .stable ∧ e.motionStable = true then
        held.offer (.weightState k (.change .stable .motion) .motion c.report) else held
      exec (.wSet tag n m b e) s = .next ((s.onChannel k (fun _ => c')).onLink (fun _ =>
        told.answer i (if m' ≠ m ∨ b' ≠ b then .clamped (.settle m' b') else .ok (.settle m' b'))))) ∧
    (∀ ms,
      let used := if ms < 500 then 500 else if 10000 < ms then 10000 else ms
      exec (.wTimeout tag ms) s = (s.onWeighing (fun w => { w with timeout := used })).answers i tag .wTimeout
        (if used = ms then .ok (.milliseconds used) else .clamped (.milliseconds used)))) ∧
  (∀ (s : State) (i : SlotId) (tag : Byte) (n : Nat) (k : Pos), s.takes i → Pos.ofNumber n = some k →
    let c := s.channel k
    let notStable : Option Reason := match c.state with
      | .offline => some .channelOffline | .zeroing => some .channelZeroing
      | .motion | .over | .under => some .unstable | .stable => none
    let zeroRefusal : Option Reason :=
      if notStable ≠ none then notStable
      else if c.capture ≠ none then some .captureHeld
      else if c.tare ≠ none then some .tareHeld
      else if ∀ z, c.z0 = some z → 6000 < (fineAbout z c.k (meanOf c.window)).natAbs then some .zeroRange
      else none
    let tareRefusal : Option Reason :=
      if notStable ≠ none then notStable
      else if c.capture ≠ none then some .captureHeld
      else if ∀ r, c.report = some r → r.gross < 1 ∨ 2000 < r.gross then some .tareRange
      else none
    exec (.wZero tag n) s = (match zeroRefusal with
      | some r => s.refuses i tag .wZero r
      | none => (s.onChannel k (fun c => { c with zw := meanOf c.window })).answers i tag .wZero (.ok .none)) ∧
    exec (.wTare tag n) s = (match tareRefusal with
      | some r => s.refuses i tag .wTare r
      | none => (s.onChannel k (fun c => { c with tare := c.report.map (·.gross) })).answers i tag .wTare
          (.ok .none)) ∧
    exec (.wClearTare tag n) s =
      (if c.capture ≠ none then s.refuses i tag .wClearTare .captureHeld
      else (s.onChannel k (fun c => { c with tare := none })).answers i tag .wClearTare (.ok .none)))


/-- The two calibrations (R13, R14, R21): their refusals in order; zero takes the mean as all three zeros, removes
the tare and enters STABLE with gross 0; span sets K from the test weight. That the notice of a calibration comes
before its reply is the model's choice (log 46), and so is it that a wrong test weight is named as the field grams
(log 29): R14 names no field. -/
def Obligations.CalibrationRequests : Prop :=
  ∀ (s : State) (i : SlotId) (tag : Byte) (n : Nat) (k : Pos), s.takes i → Pos.ofNumber n = some k →
    let c := s.channel k
    let mean := meanOf c.window
    let zeroRefusal : Option Reason :=
      if c.state = .offline then some .channelOffline
      else if c.settled = false ∨ c.state = .motion then some .unstable
      else if c.capture ≠ none then some .captureHeld else none
    let zeroed := { c with
      zc := mean, z0 := some mean, zw := mean, tare := none, state := .stable, report := some ⟨0, 0, 2, false⟩
      calibration := if c.calibration = .uncalibrated then .zeroOnly else c.calibration }
    let held := s.serving i tag .wCalibrate
    let told := if c.state ≠ .stable ∧ c.enables.fault = true then
      held.offer (.weightState k (.change c.state .stable) .stable (some ⟨0, 0, 2, false⟩)) else held
    exec (.wCalibrateZero tag n) s = (match zeroRefusal with
      | some r => s.refuses i tag .wCalibrate r
      | none => .next ((s.onChannel k (fun _ => zeroed)).onLink (fun _ => told.answer i (.ok .none)))) ∧
    (∀ g, (g < 1000 ∨ 30000 < g) →
      exec (.wCalibrateSpan tag n g) s = s.refuses i tag .wCalibrate .badField (.field .grams)) ∧
    (∀ g, 1000 ≤ g → g ≤ 30000 →
      let span := roundHalfAway ((mean - c.zw) * 1000) g
      let spanRefusal : Option Reason :=
        if c.state = .offline then some .channelOffline
        else if c.state = .zeroing then some .channelZeroing
        else if c.settled = false then some .unstable
        else if c.capture ≠ none then some .captureHeld
        else if c.calibration = .uncalibrated then some .notZeroed
        else if span < 10000 ∨ 2000000 < span then some .kRange else none
      exec (.wCalibrateSpan tag n g) s = (match spanRefusal with
        | some r => s.refuses i tag .wCalibrate r
        | none => (s.onChannel k (fun c => { c with k := span, tare := none, calibration := .calibrated })).answers
            i tag .wCalibrate (.ok .none)))

/-! ## Dimension gauges (02_dimension_gauges.md) -/

/-- The lines of a gauge (R24 to R28, R30, R35): a step is counted and range-tested, one beyond the limits of the count
is not; that and a phase error make a referenced axis UNREFERENCED. A home event presets the count and makes the axis
READY; the opening of the switch and the release of the button change only the line's own record. The model's choices:
HOME_EVENT is the closing of the switch whatever level was held before (log 51), and the two lines are followed on a
part that is not running too (log 21). -/
def Obligations.GaugeLinesFollowed : Prop :=
  (∀ (s : State) (g : Pos) (a : Axis) (new : BitVec 2), s.running = true →
    let x := (s.gauges.get g).axes.get a
    let put (y : AxisRec) : State := s.onGauge g (fun u => { u with axes := u.axes.set a y })
    let lost (y : AxisRec) (e : GaugeEvent) : State :=
      if x.state = .unreferenced then put y else (put y).offer (.gaugeFault g e (some (a, .unreferenced, x.count)))
    let forward : Prop := (x.pair, new) ∈ [(0#2, 1#2), (1#2, 3#2), (3#2, 2#2), (2#2, 0#2)]
    let backward : Prop := (x.pair, new) ∈ [(2#2, 3#2), (3#2, 1#2), (1#2, 0#2), (0#2, 2#2)]
    let error : Prop := (x.pair, new) ∈ [(0#2, 3#2), (1#2, 2#2), (3#2, 0#2), (2#2, 1#2)]
    (new = x.pair → exec (.encoderStep g a new) s = .next s) ∧
    (∀ d : Int, (forward ∧ d = 1 ∨ backward ∧ d = -1) →
      ((x.count + d < -32768 ∨ 32767 < x.count + d) → exec (.encoderStep g a new) s =
        .next (lost { x with pair := new, state := .unreferenced } .countLimit)) ∧
      (-32768 ≤ x.count + d → x.count + d ≤ 32767 → exec (.encoderStep g a new) s =
        .next (put { x with
          pair := new, count := x.count + d
          state := if x.state = .unreferenced then .unreferenced
            else if 0 ≤ x.count + d ∧ x.count + d ≤ 3000 then .ready else .over }))) ∧
    (error → exec (.encoderStep g a new) s = .next (lost { x with
      pair := new, state := .unreferenced
      phaseErrors := if x.phaseErrors < 65535 then x.phaseErrors + 1 else x.phaseErrors } .phaseError))) ∧
  (∀ (s : State) (g : Pos) (a : Axis),
    let x := (s.gauges.get g).axes.get a
    let offset := (s.settings.host.homeOffsets.get g).get a
    let correction : Int := offset - x.count
    let put (y : AxisRec) : State := s.onGauge g (fun u => { u with axes := u.axes.set a y })
    let home := { x with closed := true, count := (offset : Int), state := .ready }
    let told (t : State) (e : GaugeEvent) : State := t.offer (.gaugeFault g e (some (a, .ready, offset)))
    (s.running = true → x.state = .unreferenced →
      exec (.homeEvent g a) s = .next (told (put home) .referenced)) ∧
    (s.running = true → x.state ≠ .unreferenced →
      let corrected := put { home with correction := some correction }
      exec (.homeEvent g a) s = .next
        (if correction < -4 ∨ 4 < correction then told corrected (.homeSlip correction) else corrected)) ∧
    exec (.homeSwitchOpened g a) s = .next (put { x with closed := false }) ∧
    exec (.buttonRelease g) s = .next (s.onGauge g (fun u => { u with button := .released })))


/-- Latches by the button and by G_LATCH (R29 to R31, R33): with a claimed record the button does nothing and the
request is refused with it; else three READY axes give a new record of counts and centimetres rounded up,
and a failed latch drops the record and names the first axis that is not READY. The button latches on every running
part, STARTING or READY, whatever its request slots hold. -/
def Obligations.LatchesByButtonAndRequest : Prop :=
  ∀ (s : State) (g : Pos), s.running = true →
    let u := s.gauges.get g
    let claimed : Prop := ∃ r, u.record = some r ∧ r.claimed = true
    let cm (a : Axis) : Nat := ((u.axes.get a).count.toNat + 19) / 20
    let record (src : LatchSource) : LatchRecord :=
      ⟨u.axes.map (·.count), ⟨cm .length, cm .width, cm .height⟩, src, false⟩
    let states : Three AxisState := u.axes.map (·.state)
    let put (v : Gauge) : State := s.onGauge g (fun _ => v)
    let failed (a : Axis) : Prop := (u.axes.get a).state ≠ .ready ∧
      (a ≠ .length → u.axes.l.state = .ready) ∧ (a = .height → u.axes.w.state = .ready)
    (u.button = .pressed → exec (.buttonPress g) s = .next s) ∧
    (u.button = .released → claimed → exec (.buttonPress g) s = .next (put { u with button := .pressed })) ∧
    (u.button = .released → ¬claimed →
      ((∀ a, (u.axes.get a).state = .ready) → exec (.buttonPress g) s =
        .next (put { u with button := .pressed, record := some (record .button) })) ∧
      (∀ a, failed a → exec (.buttonPress g) s =
        .next ((put { u with button := .pressed, record := none }).offer
          (.gaugeFault g .latchFailed (some (a, (u.axes.get a).state, (u.axes.get a).count)))))) ∧
    (∀ (i : SlotId) (tag : Byte) (n : Nat), s.takes i → Pos.ofNumber n = some g →
      (∀ r, u.record = some r → r.claimed = true →
        exec (.gLatch tag n) s = s.refuses i tag .gLatch .latchHeld (.latch r)) ∧
      (¬claimed →
        ((∀ a, (u.axes.get a).state = .ready) → exec (.gLatch tag n) s =
          (put { u with record := some (record .request) }).answers i tag .gLatch (.ok (.latch (record .request)))) ∧
        (∀ a, failed a → exec (.gLatch tag n) s =
          (put { u with record := none }).refuses i tag .gLatch .gaugeNotReady (.latchFailed a states))))

/-! ## Tariff image and banks (03_tariff_image_and_banks.md) -/

/-- The port (R57): an access begins at once when the port is free and waits in its class when not; when one
completes, a walk read goes first, then a verification read, then the oldest programming access. -/
def Obligations.PortServesByClass : Prop :=
  ∀ (p : Port) (a : Access),
    (p.current = none → p.ask a = { p with current := some a }) ∧
    (p.current ≠ none → p.ask a = match a with
      | .walk .. => { p with walk := some a }
      | .verification .. => { p with verification := some a }
      | .erase .. | .program .. | .recordErase .. | .recordProgram .. =>
        { p with programming := p.programming ++ [a] }) ∧
    (∀ w, p.walk = some w → p.complete = { p with current := some w, walk := none }) ∧
    (∀ v, p.walk = none → p.verification = some v →
      p.complete = { p with current := some v, verification := none }) ∧
    (∀ x rest, p.walk = none → p.verification = none → p.programming = x :: rest →
      p.complete = { p with current := some x, programming := rest }) ∧
    (p.walk = none → p.verification = none → p.programming = [] → p.complete = { p with current := none })

/-- PROGRAMMING_ACCESS_COMPLETE with success, of an access of a load session (R37, R46, R47): the sector reads
0xFF, or each byte programmed loses bits only; every other byte, the records and the banks stay; the last
erase answers T_OPEN and the last page of a T_DATA answers it, and a bank first in the verifier queue that waited for it
alone has its verification begun (R48). Nothing is done when no such access is in progress. -/
def Obligations.LoadAccessSucceeds : Prop :=
  ∀ (s : State), s.running = true → Memory.wf s.flash.cells = true →
    ((∀ a, s.port.current = some a → (∃ k o, a = .walk k o) ∨ (∃ k o n, a = .verification k o n)) →
      ∀ ok, exec (.programmingAccessComplete ok) s = .next s) ∧
    (∀ k sector id, s.port.current = some (.erase k sector id) →
      ∃ t, exec (.programmingAccessComplete true) s = .next t ∧ TariffFrame s t ∧
        t.port = s.port.complete ∧ t.flash.records = s.flash.records ∧
        (∀ x, Memory.read t.flash.cells x =
          if bankBase k + sector * 4096 ≤ x ∧ x < bankBase k + sector * 4096 + 4096 then 0xFF
          else Memory.read s.flash.cells x) ∧
        (∀ x, s.tariff.session = some x → x.id = id → 1 < x.erasesLeft → t.link = s.link ∧
          t.tariff = { s.tariff with session := some { x with erasesLeft := x.erasesLeft - 1 } }) ∧
        (∀ x, s.tariff.session = some x → x.id = id → x.erasesLeft ≤ 1 →
          t.link = s.link.answer x.slot (.ok .none) ∧
          t.tariff = { s.tariff with session := some { x with erasesLeft := 0, erasing := false } }) ∧
        ((∀ x, s.tariff.session = some x → x.id ≠ id) → t.link = s.link ∧ t.tariff = s.tariff)) ∧
    (∀ k offset bytes id slot, s.port.current = some (.program k offset bytes id slot) →
      ∃ t, exec (.programmingAccessComplete true) s = .next t ∧ TariffFrame s t ∧
        t.flash.records = s.flash.records ∧ t.tariff.banks = s.tariff.banks ∧
        t.tariff.session = s.tariff.session ∧ t.tariff.recordSeq = s.tariff.recordSeq ∧
        (∀ x, (x < bankBase k + offset ∨ bankBase k + offset + bytes.length ≤ x) →
          Memory.read t.flash.cells x = Memory.read s.flash.cells x) ∧
        (∀ n, n < bytes.length → bankBase k + offset + n < 8388608 →
          Memory.read t.flash.cells (bankBase k + offset + n) =
            Memory.read s.flash.cells (bankBase k + offset + n) &&& bytes.getD n 0) ∧
        (∀ w, s.tariff.writes.find? (fun w => w.session == id && w.slot == slot) = some w → w.left ≤ 1 →
          let others : List DataWait := s.tariff.writes.filter (fun o => !(o.session == id && o.slot == slot))
          let left : Tariff := { s.tariff with writes := others }
          t.link = s.link.answer slot (.ok (.received w.received)) ∧ t.tariff.writes = others ∧
          ((s.tariff.verify ≠ none ∨ (s.tariff.scanning = [] ∧ ∀ o ∈ s.tariff.queue.head?,
              ∃ y ∈ others, y.session = o.session) → t.tariff = left ∧ t.port = s.port.complete) ∧
            (∀ o more d, s.tariff.verify = none → s.tariff.scanning = [] → s.tariff.queue = o :: more →
              (∀ y ∈ others, y.session ≠ o.session) → (s.tariff.banks.get o.bank).description = some d →
              t.tariff = { left with
                verify := some { bank := o.bank, length := d.length, crc := d.crc, startUp := false } } ∧
              t.port = s.port.complete.ask (.verification o.bank 0 (min 256 d.length))))) ∧
        (s.tariff.writes.find? (fun w => w.session == id && w.slot == slot) = none →
          t.link = s.link ∧ t.port = s.port.complete ∧ t.tariff = s.tariff) ∧
        (∀ w, s.tariff.writes.find? (fun w => w.session == id && w.slot == slot) = some w → 1 < w.left →
          t.link = s.link ∧ t.port = s.port.complete ∧ t.tariff = { s.tariff with
            writes := s.tariff.writes.map
              (fun o => if o.session = id ∧ o.slot = slot then { o with left := o.left - 1 } else o) }))

/-- State records (R38, R50). A rewrite asks the erase of its sector and the program of a record with the next sequence
number; a sector reads as its record only when the marker and the CRC-16 are right (their bytes are free, log 6).
PROGRAMMING_ACCESS_COMPLETE of a rewrite: a success leaves the sector erased, or with the new record and the fault mark
clear; a failure sets the fault mark. Image bytes, the other bank, its record and both bank states stay as they were. -/
def Obligations.RecordRewriteCompletes : Prop :=
  (∀ (s : State) (k : Bank) (st : RecordedState) (d : Option Description),
    ∃ r, recordSays r (s.tariff.recordSeq + 1) st d ∧ s.rewriteRecord k st d = { s with
      tariff := { s.tariff with recordSeq := s.tariff.recordSeq + 1 }
      port := s.port.asks [.recordErase k, .recordProgram k r] }) ∧
  (∀ (sector : Option StateRecord) (r : StateRecord), readStateRecord sector = some r ↔
    sector = some r ∧ r.marker = .right ∧ r.check = crc16 (Config.recordBytes r.toRecordFields)) ∧
  ∀ (s : State) (k : Bank) (ok : Bool) (record : StateRecord), s.running = true →
    ∀ a, s.port.current = some a → (a = .recordErase k ∨ a = .recordProgram k record) →
      ∃ t, exec (.programmingAccessComplete ok) s = .next t ∧ TariffFrame s t ∧
        t.port = s.port.complete ∧ t.link = s.link ∧ t.flash.cells = s.flash.cells ∧
        t.flash.records.get k.other = s.flash.records.get k.other ∧
        t.tariff = { s.tariff with banks := s.tariff.banks.set k (t.tariff.banks.get k) } ∧
        (let b := s.tariff.banks.get k
        let c := t.tariff.banks.get k
        c.state = b.state ∧ c.description = b.description ∧ c.lastResult = b.lastResult ∧
        (ok = false → c.recordFault = true) ∧
        (ok = true → a = .recordErase k →
          t.flash.records.get k = none ∧ c.recordFault = b.recordFault ∧ c.eraseFailed = false) ∧
        (ok = true → a = .recordProgram k record → b.eraseFailed = false →
          t.flash.records.get k = some record ∧ c.recordFault = false))

/-- A failed erase or page program of a load session, and a failed page program of a bank that is VERIFYING already
(R50): bytes outside the sector or page stay; the accesses of the session that wait are withdrawn before the arbiter
chooses (the order is log 40's); the bank is EMPTY, its outstanding T_OPEN, T_DATA and T_CLOSE are refused with
WRITE_FAULT (in the order of log 57), and its record is to be rewritten to EMPTY. The next bank of the verifier queue
then has its turn, its first read asked after the rewrite (the model's choice, log 62; R50 gives no order). A failure
for a session that is gone changes no bank. -/
def Obligations.LoadAccessFails : Prop :=
  ∀ (s : State) (a : Access) (k : Bank) (first count id : Nat), s.running = true →
    s.port.current = some a →
    ((∃ sector, a = .erase k sector id ∧ first = bankBase k + sector * 4096 ∧ count = 4096) ∨
      (∃ o bs slot, a = .program k o bs id slot ∧ first = bankBase k + o ∧ count = bs.length)) →
    let port : Port := (s.port.withdraw id).complete
    let emptied (bank : Bank) : Two BankRec := s.tariff.banks.set bank
      { s.tariff.banks.get bank with state := .empty, description := none }
    let others : List DataWait := s.tariff.writes.filter (fun w => w.session != id)
    let slots : List SlotId := (s.tariff.writes.filter (fun w => w.session == id)).map (·.slot)
    let fault : Reply := .refused .writeFault .none
    let gone : Prop := ∀ x, s.tariff.session = some x → x.id ≠ id
    ∃ t, exec (.programmingAccessComplete false) s = .next t ∧ TariffFrame s t ∧
      t.flash.records = s.flash.records ∧
      (∀ x, (x < first ∨ first + count ≤ x) →
        Memory.read t.flash.cells x = Memory.read s.flash.cells x) ∧
      (∀ x, s.tariff.session = some x → x.id = id →
        t.tariff = { s.tariff with
          session := none, banks := emptied x.bank, writes := others, recordSeq := s.tariff.recordSeq + 1 } ∧
        t.link = (if x.erasing then s.link.answer x.slot fault else s.link).answers slots fault ∧
        ∃ r, recordSays r (s.tariff.recordSeq + 1) .empty none ∧
          t.port = port.asks [.recordErase x.bank, .recordProgram x.bank r]) ∧
      (∀ w, gone → s.tariff.queue.find? (fun w => w.session == id) = some w →
        let rest := s.tariff.queue.filter (fun o => o.session != id)
        let left : Tariff := { s.tariff with
          queue := rest, banks := emptied w.bank, writes := others, recordSeq := s.tariff.recordSeq + 1 }
        t.link = (s.link.answers slots fault).answer w.slot fault ∧
        ∃ r, recordSays r (s.tariff.recordSeq + 1) .empty none ∧
          let asked := port.asks [.recordErase w.bank, .recordProgram w.bank r]
          ((s.tariff.verify ≠ none ∨ (s.tariff.scanning = [] ∧ rest = [])) → t.tariff = left ∧ t.port = asked) ∧
          (∀ o more d, s.tariff.verify = none → s.tariff.scanning = [] → rest = o :: more → o.bank ≠ w.bank →
            (∀ y ∈ s.tariff.writes, y.session ≠ o.session) →
            (s.tariff.banks.get o.bank).description = some d →
            t.tariff = { left with
              verify := some { bank := o.bank, length := d.length, crc := d.crc, startUp := false } } ∧
            t.port = asked.ask (.verification o.bank 0 (min 256 d.length)))) ∧
      (gone → (∀ w ∈ s.tariff.queue, w.session ≠ id) →
        t.tariff = s.tariff ∧ t.link = s.link ∧ t.port = port)

/-- T_OPEN (R46): its refusals in order; accepted, the bank is LOADING with a session in ERASING, its record is
to be rewritten to LOADING, and one erase for each sector the length reaches follows. That a wrong bank is the field
named when the length is wrong too is the model's choice (log 29); R46 names no field. -/
def Obligations.LoadOpens : Prop :=
  ∀ (s : State) (i : SlotId) (tag : Byte) (length : Nat) (crc : BitVec 32), s.takes i →
    exec (.tOpen tag none length crc) s = s.refuses i tag .tOpen .badField (.field .bank) ∧
    (∀ k, (length < 1 ∨ 4190208 < length) →
      exec (.tOpen tag (some k) length crc) s = s.refuses i tag .tOpen .badField (.field .length)) ∧
    (∀ k, 1 ≤ length → length ≤ 4190208 →
      let b := s.tariff.banks.get k
      (b.state = .active → exec (.tOpen tag (some k) length crc) s = s.refuses i tag .tOpen .bankActive) ∧
      ((b.state = .loading ∨ b.state = .verifying) →
        exec (.tOpen tag (some k) length crc) s = s.refuses i tag .tOpen .bankBusy) ∧
      ((b.state = .empty ∨ b.state = .staged ∨ b.state = .damaged) →
        ((s.tariff.banks.get k.other).state = .loading →
          exec (.tOpen tag (some k) length crc) s = s.refuses i tag .tOpen .loadOpen) ∧
        ((s.tariff.banks.get k.other).state ≠ .loading →
          ∃ (id : Nat) (r : StateRecord),
            recordSays r (s.tariff.recordSeq + 1) .loading (some ⟨length, crc, none⟩) ∧
            exec (.tOpen tag (some k) length crc) s = .next
              { s with
                link := s.serving i tag .tOpen
                tariff := { s.tariff with
                  banks := s.tariff.banks.set k { b with
                    state := .loading, description := none
                    lastResult := if b.state = .empty then b.lastResult else none }
                  session := some ⟨k, id, length, crc, 0, true, (length + 4095) / 4096, i⟩
                  sessions := id
                  staged := if b.state = .staged then none else s.tariff.staged
                  recordSeq := s.tariff.recordSeq + 1 }
                port := s.port.asks ([.recordErase k, .recordProgram k r] ++
                  (List.range ((length + 4095) / 4096)).map (fun n => .erase k n id)) })))

/-- T_DATA (R47): its refusals in order, each with the received count of the session in progress (beside the field that
a BAD_FIELD names: the model's choice, log 42); accepted, the received count rises at once and one page program is
asked for each page the piece touches, in order. -/
def Obligations.LoadTakesData : Prop :=
  ∀ (s : State) (i : SlotId) (tag : Byte) (offset : Nat) (data : List Byte), s.takes i →
    (512 < data.length → exec (.tData tag offset data) s = s.answers i tag .tData .badLength) ∧
    (data = [] →
      (s.tariff.session = none →
        exec (.tData tag offset data) s = s.refuses i tag .tData .badField (.field .data)) ∧
      (∀ x, s.tariff.session = some x → exec (.tData tag offset data) s =
        s.refuses i tag .tData .badField (.fieldAndReceived .data x.received))) ∧
    (1 ≤ data.length → data.length ≤ 512 →
      (s.tariff.session = none → exec (.tData tag offset data) s = s.refuses i tag .tData .notLoading) ∧
      (∀ x, s.tariff.session = some x →
        (x.erasing = true →
          exec (.tData tag offset data) s = s.refuses i tag .tData .bankBusy (.received x.received)) ∧
        (x.erasing = false → offset ≠ x.received →
          exec (.tData tag offset data) s = s.refuses i tag .tData .outOfOrder (.received x.received)) ∧
        (x.erasing = false → offset = x.received → x.length < offset + data.length →
          exec (.tData tag offset data) s = s.refuses i tag .tData .overrun (.received x.received)) ∧
        (x.erasing = false → offset = x.received → offset + data.length ≤ x.length →
          ∃ pages : List (Nat × List Byte),
            (pages.map (·.2)).flatten = data ∧
            (∀ p ∈ pages, p.2 ≠ [] ∧ p.1 / 256 = (p.1 + p.2.length - 1) / 256) ∧
            (∀ n p, pages[n]? = some p → p.1 = offset + (((pages.take n).map (·.2)).flatten).length) ∧
            pages.length = (offset + data.length - 1) / 256 - offset / 256 + 1 ∧
            exec (.tData tag offset data) s = .next
              { s with
                link := s.serving i tag .tData
                tariff := { s.tariff with
                  session := some { x with received := x.received + data.length }
                  writes := s.tariff.writes ++
                    [⟨x.id, x.bank, i, x.received + data.length, pages.length⟩] }
                port := s.port.asks (pages.map (fun p => .program x.bank p.1 p.2 x.id i)) })))

/-- T_CLOSE (R48): refused without a session or short of the declared length; accepted, the bank is VERIFYING
and last in the verifier queue, and its verification begins when it is first with all its pages written. -/
def Obligations.LoadCloses : Prop :=
  ∀ (s : State) (i : SlotId) (tag : Byte), s.takes i →
    (s.tariff.session = none → exec (.tClose tag) s = s.refuses i tag .tClose .notLoading) ∧
    (∀ x, s.tariff.session = some x →
      (x.received < x.length →
        exec (.tClose tag) s = s.refuses i tag .tClose .short (.received x.received)) ∧
      (x.length ≤ x.received →
        let closed : Tariff := { s.tariff with
          banks := s.tariff.banks.set x.bank { s.tariff.banks.get x.bank with
            state := .verifying, description := some ⟨x.length, x.crc, none⟩ }
          session := none
          queue := s.tariff.queue ++ [⟨x.bank, x.id, i⟩] }
        let held : State := { s with link := s.serving i tag .tClose, tariff := closed }
        (s.tariff.verify = none → s.tariff.scanning = [] → s.tariff.queue = [] →
          (∀ w ∈ s.tariff.writes, w.session ≠ x.id) →
          exec (.tClose tag) s = .next { held with
            tariff := { closed with
              verify := some { bank := x.bank, length := x.length, crc := x.crc, startUp := false } }
            port := s.port.ask (.verification x.bank 0 (min 256 x.length)) }) ∧
        ((s.tariff.verify ≠ none ∨ (s.tariff.scanning = [] ∧ ∃ first ∈ closed.queue.head?,
          ∃ w ∈ s.tariff.writes, w.session = first.session)) → exec (.tClose tag) s = .next held)))

/-- T_DISCARD (R49), for every state its bank can have: refused, answered OK, or the bank is emptied with its
record to be rewritten to EMPTY; a load session ends with its outstanding requests refused DISCARDED. The order of
those answers and of T_DISCARD's own is the model's choice (log 57), and so is it that a bank not A or B is named as
the field bank (log 29): R49 names no field. -/
def Obligations.BankDiscarded : Prop :=
  ∀ (s : State) (i : SlotId) (tag : Byte), s.takes i →
    exec (.tDiscard tag none) s = s.refuses i tag .tDiscard .badField (.field .bank) ∧
    (∀ k, let b := s.tariff.banks.get k
      let emptied : Two BankRec := s.tariff.banks.set k { b with
        state := .empty, description := none, lastResult := none }
      (b.state = .active → exec (.tDiscard tag (some k)) s = s.refuses i tag .tDiscard .bankActive) ∧
      (b.state = .verifying → exec (.tDiscard tag (some k)) s = s.refuses i tag .tDiscard .bankBusy) ∧
      (b.state = .empty → exec (.tDiscard tag (some k)) s = s.answers i tag .tDiscard (.ok .none)) ∧
      ((b.state = .staged ∨ b.state = .damaged) → ∃ r, recordSays r (s.tariff.recordSeq + 1) .empty none ∧
        exec (.tDiscard tag (some k)) s = ({ s with
          tariff := { s.tariff with
            banks := emptied, recordSeq := s.tariff.recordSeq + 1
            staged := if b.state = .staged then none else s.tariff.staged }
          port := s.port.asks [.recordErase k, .recordProgram k r] } : State).answers i tag .tDiscard (.ok .none)) ∧
      (∀ x, b.state = .loading → s.tariff.session = some x → x.bank = k →
        ∃ r, recordSays r (s.tariff.recordSeq + 1) .empty none ∧
        exec (.tDiscard tag (some k)) s = .next { s with
          tariff := { s.tariff with
            banks := emptied, recordSeq := s.tariff.recordSeq + 1, session := none
            writes := s.tariff.writes.filter (fun w => w.session != x.id) }
          port := (s.port.withdraw x.id).asks [.recordErase k, .recordProgram k r]
          link := (((if x.erasing then
              (s.serving i tag .tDiscard).answer x.slot (.refused .discarded .none)
            else s.serving i tag .tDiscard).answers
            ((s.tariff.writes.filter (fun w => w.session == x.id)).map (·.slot))
            (.refused .discarded .none))).answer i (.ok .none) }))

/-- T_ACTIVATE (R54, R55, R82): refused with NONE_STAGED; else the STAGED bank is ACTIVE with its summary in force,
an ACTIVE or DAMAGED other bank is EMPTY, the generation moves on past 0, the cache is purged, RATED
slots are stale, and both records are to be rewritten, the new ACTIVE bank's first. A rating in progress starts again
under the new summary: its waiting lookup is dropped, or its walk's becomes the orphan, and its new lookup waits for
that walk. That the answers and the notice of the activation come before the reply is the model's choice (log 46). -/
def Obligations.StagedTariffActivated : Prop :=
  ∀ (s : State) (i : SlotId) (tag : Byte), s.takes i →
    (s.tariff.banks.a.state ≠ .staged → s.tariff.banks.b.state ≠ .staged →
      exec (.tActivate tag) s = s.refuses i tag .tActivate .noneStaged) ∧
    (∀ k x, (s.tariff.banks.get k).state = .staged → (s.tariff.banks.get k.other).state ≠ .staged →
      s.tariff.staged = some x →
      let other := s.tariff.banks.get k.other
      let emptied : Prop := other.state = .active ∨ other.state = .damaged
      let generation := if s.tariff.generation < 65535 then s.tariff.generation + 1 else 1
      let held := s.serving i tag .tActivate
      let stale : Six OpenSlot := s.items.slots.map (fun o => match o with
        | .rated it r _ => .rated it r true | .idle => .idle | .opened it => .opened it
        | .rating it ph j => .rating it ph j)
      let purged : Cache := { s.cache with
        points := s.cache.points.map (fun e => { e with valid := false })
        bands := s.cache.bands.map (fun e => { e with valid := false })
        lookasides := s.cache.lookasides.map (fun e => { e with valid := false })
        pointPtr := 0, bandPtr := 0 }
      ∃ t, exec (.tActivate tag) s = .next t ∧ TariffFrame s t ∧
        t.tariff.banks.get k = { s.tariff.banks.get k with state := .active } ∧
        t.tariff.banks.get k.other =
          (if emptied then { other with state := .empty, description := none } else other) ∧
        t.tariff.active = some x ∧ t.tariff.staged = none ∧ t.tariff.generation = generation ∧
        t.tariff.session = s.tariff.session ∧ t.flash = s.flash ∧
        (let leaves (rating : Rating) (cache : Cache) (slots : Six OpenSlot) (link : Link) : Prop :=
          t.rating = rating ∧ t.cache = cache ∧ t.items.slots = slots ∧
          t.link = (link.offer (.tariffActivated k x.header.tariffId x.header.version
            x.header.effective generation .request)).answer i
              (.ok (.activated k x.header.tariffId x.header.version generation)) ∧
          ∃ r q, recordSays r (s.tariff.recordSeq + 1) .active (s.tariff.banks.get k).description ∧
            recordSays q (s.tariff.recordSeq + 2) .empty none ∧
            t.port = s.port.asks ([.recordErase k, .recordProgram k r] ++
              if emptied then [.recordErase k.other, .recordProgram k.other q] else [])
        (s.rating.current = none → leaves s.rating purged stale held) ∧
        (∀ u, s.rating.current = some u → s.cache.walk.isSome = true →
          let cache := { purged with waiting := none }
          let rating := if s.cache.waiting = none then { s.rating with orphan := some u.lookup } else s.rating
          (∀ v, u.req.start (some x) generation = .goesOn v →
            leaves { rating with current := some v } { cache with waiting := some v.lookup } stale held) ∧
          (∀ r it ph j, u.req.start (some x) generation = .decided r → s.rating.pendingList = [] →
            s.openSlot u.req.position = .rating it ph j →
            leaves { rating with current := none } cache (stale.set u.req.position (.opened it))
              (held.answer j (.refused .notRateable (.result r)))))))

/-- What a verification read does as the verifier takes its bytes (R51, R52, R57, R59): more to read asks the next 256
bytes; a failing check empties the loaded bank and refuses its T_CLOSE naming check and record; a pass makes it
STAGED, empties any other STAGED bank and answers T_CLOSE, and the effective-minute check runs; the next bank queued
then has its turn. In the start-up scan a pass gives the bank its summary, a failure makes an ACTIVE bank DAMAGED,
with its notice, and a STAGED one EMPTY; with no bank left the generation is 1 or 0 and the part is READY, and an
emergency stop input asserted then takes the drive into ESTOPPED (R132, R152; read so, log 54), with what follows on
the line (log 11). The model's choices: the arbiter goes on before the read is judged (log 40), a short delivery is
completed from memory and a long one cut (log 41), the records' rewrites are asked before the next bank's first read
(log 62, and log 59 in the scan), and the check at the scan's end runs before the generation is set (log 38). -/
def Obligations.VerificationReadTaken : Prop :=
  (∀ (s : State) (v : Verify) (k : Bank) (offset count : Nat) (d : Option (List Byte)),
    s.running = true → s.port.current = some (.verification k offset count) → s.tariff.verify = some v →
    let held := Memory.readRun s.flash.cells (bankBase k + offset) count
    let bytes := match d with
      | none => held
      | some x => (x ++ held.drop x.length).take count
    let b := s.tariff.banks.get v.bank
    let other := s.tariff.banks.get v.bank.other
    let ends (banks : Two BankRec) (more : List Access) (link : Link) (f : Tariff → Tariff) : State := { s with
      tariff := f { s.tariff with verify := none, banks := banks }, port := s.port.complete.asks more, link := link }
    let rewrite (r : StateRecord) : List Access := [.recordErase v.bank, .recordProgram v.bank r]
    let due (x : Summary) : Prop :=
      ∃ now, s.time.calendar.map (·.minute) = some now ∧ x.header.effective.key ≤ now.key
    (∀ v', v.feed bytes = .more v' → exec (.verificationReadComplete d) s = .next { s with
      tariff := { s.tariff with verify := some v' }
      port := s.port.complete.ask (.verification v'.bank v'.got (min 256 (v'.length - v'.got))) }) ∧
    (∀ w rest, v.startUp = false → s.tariff.scanning = [] → s.tariff.queue = w :: rest → w.bank = v.bank →
      (∀ c n, v.feed bytes = .failed c n → ∃ r, recordSays r (s.tariff.recordSeq + 1) .empty none ∧
        exec (.verificationReadComplete d) s = .next (ends
          (s.tariff.banks.set v.bank { b with
            state := .empty, description := none, lastResult := some (.failed c n) }) (rewrite r)
          (s.link.answer w.slot (.refused .verifyFailed (.verifyFailed c n)))
          (fun t => { t with queue := rest, recordSeq := s.tariff.recordSeq + 1 })).turnVerifier) ∧
      (∀ x, v.feed bytes = .passed x →
        let staged : BankRec := { b with
          state := .staged, lastResult := some .passed
          description := b.description.map (fun y =>
            { y with tariff := some (x.header.tariffId, x.header.version, x.header.effective) }) }
        (¬due x → ∃ r q, recordSays r (s.tariff.recordSeq + 1) .staged staged.description ∧
          recordSays q (s.tariff.recordSeq + 2) .empty none ∧
          let both := other.state = .staged
          exec (.verificationReadComplete d) s = .next (ends
            ((if both then s.tariff.banks.set v.bank.other { other with state := .empty, description := none }
              else s.tariff.banks).set v.bank staged)
            (rewrite r ++ if both then [.recordErase v.bank.other, .recordProgram v.bank.other q] else [])
            (s.link.answer w.slot
              (.ok (.verified v.bank x.header.tariffId x.header.version x.header.effective)))
            (fun t => { t with
              queue := rest, staged := some x
              recordSeq := s.tariff.recordSeq + if both then 2 else 1 })).turnVerifier) ∧
        (due x → ∃ t, exec (.verificationReadComplete d) s = .next t ∧ TariffFrame s t ∧ t.flash = s.flash ∧
          t.tariff.queue = rest ∧ (rest = [] → t.tariff.verify = none) ∧ t.tariff.staged = none ∧
          t.tariff.active = some x ∧ t.tariff.banks.get v.bank = { staged with state := .active } ∧
          t.tariff.generation = (if s.tariff.generation < 65535 then s.tariff.generation + 1 else 1) ∧
          (t.tariff.banks.get v.bank.other).state = (match other.state with
            | .staged | .active | .damaged => .empty
            | .empty => .empty | .loading => .loading | .verifying => .verifying)))) ∧
    (∀ rest, v.startUp = true → s.tariff.scanning = v.bank :: rest →
      let stops : Prop := s.pins.estop = true ∧ s.belt.drive ≠ .estopped
      let next (y : State) : State :=
        let ready : State := { y with
          tariff := { y.tariff with
            generation := if y.tariffInForce = none then 0 else 1 }
          link := { y.link with part := .ready } }
        if rest ≠ [] then y.turnVerifier
        else if stops then State.settle ready (ready.estopPath .estop) else ready
      let leaves (c : BankRec) (more : List Access) (link : Link) (f : Tariff → Tariff) : State :=
        ends (s.tariff.banks.set v.bank c) more link (fun t => f { t with scanning := rest })
      (∀ c n, v.feed bytes = .failed c n → ∃ r : StateRecord,
        (b.state = .active → recordSays r (s.tariff.recordSeq + 1) .damaged b.description ∧
          ∀ y id version e, b.description = some y →
          y.tariff = some (id, version, e) → exec (.verificationReadComplete d) s = .next (next (leaves
            { b with state := .damaged, lastResult := some (.failed c n) } (rewrite r)
            (s.link.offer (.tariffDamaged v.bank id version s.tariff.generation n))
            (fun t => { t with recordSeq := s.tariff.recordSeq + 1 })))) ∧
        (b.state = .staged → recordSays r (s.tariff.recordSeq + 1) .empty none ∧
          exec (.verificationReadComplete d) s = .next (next (leaves
          { b with state := .empty, description := none, lastResult := some (.failed c n) } (rewrite r) s.link
          (fun t => { t with recordSeq := s.tariff.recordSeq + 1 }))))) ∧
      (∀ x, v.feed bytes = .passed x →
        let passed : BankRec := { b with lastResult := some .passed }
        (b.state = .active → exec (.verificationReadComplete d) s = .next (next (leaves passed [] s.link
          (fun t => { t with active := some x })))) ∧
        (b.state = .staged → other.state ≠ .staged → (¬due x ∨ rest ≠ []) →
          exec (.verificationReadComplete d) s = .next (next (leaves passed [] s.link
            (fun t => { t with staged := some x })))) ∧
        (b.state = .staged → other.state ≠ .staged → due x → rest = [] →
          ∃ t, exec (.verificationReadComplete d) s = .next t ∧ t.tariff.verify = none ∧ t.tariff.scanning = [] ∧
            t.tariff.banks.get v.bank = { passed with state := .active } ∧ t.tariff.active = some x ∧
            t.tariff.staged = none ∧ t.tariff.generation = 1 ∧ t.link.part = .ready ∧ t.flash = s.flash ∧
            t.belt.drive = (if stops then .estopped else s.belt.drive) ∧ (stops → t.belt.reason = .estop))))) ∧
  (∀ (s : State),
    let begins (k : Bank) (startUp : Bool) : State := match (s.tariff.banks.get k).description with
      | none => s
      | some d => { s with
        tariff := { s.tariff with verify := some { bank := k, length := d.length, crc := d.crc, startUp := startUp } }
        port := s.port.ask (.verification k 0 (min 256 d.length)) }
    (s.tariff.verify ≠ none → s.turnVerifier = s) ∧
    (s.tariff.scanning = [] → s.tariff.queue = [] → s.turnVerifier = s) ∧
    (∀ k rest, s.tariff.verify = none → s.tariff.scanning = k :: rest →
      (s.tariff.banks.get k).description ≠ none → s.turnVerifier = begins k true) ∧
    (∀ w rest, s.tariff.verify = none → s.tariff.scanning = [] → s.tariff.queue = w :: rest →
      ((∃ x ∈ s.tariff.writes, x.session = w.session) → s.turnVerifier = s) ∧
      ((∀ x ∈ s.tariff.writes, x.session ≠ w.session) → (s.tariff.banks.get w.bank).description ≠ none →
        s.turnVerifier = begins w.bank false)))

/-- Verification (R40 to R45, R51). The checks of R51 are made record by record in the order given: the form (judged
from three bytes on, log 34; a tail byte other than 0 counts as a tail for the length, log 24), the CRC-16, the
sequence, the limits of R41 to R45 with their characters (printable: log 25), the order of zone ranges and ladder
steps, duplicates, the ladder's zone and offset, and the surcharges of a service; a record that passes is taken with
the fields its bytes give. After the last record come the counts of every group, the ladders, and the CRC-32. The
first check that fails ends the verification with the number of its record, and no whole record is left untaken. An
image that passes is whole: at its last read the service and surcharge counts of its header are those of its records,
every offered zone of a service has a ladder, no service or surcharge code comes twice, no service has more than eight
surcharges, and the CRC-32 of the bytes is the declared one. Every read before it takes its bytes into the CRC-32, and
keeps the codes distinct and the surcharges of a service at most eight; and it begins with no record taken and the
CRC-32's start value, so the same holds of all the reads of one verification. -/
def Obligations.PassedImageIsWhole : Prop :=
  (∀ (k : Bank) (length : Nat) (crc : BitVec 32) (startUp : Bool),
    let v : Verify := { bank := k, length := length, crc := crc, startUp := startUp }
    v.sum = 0xFFFFFFFF ∧ v.got = 0 ∧ v.services = [] ∧ v.surcharges = []) ∧
  (∀ (v w : Verify) (bs : List Byte), v.feed bs = .more w →
    w.bank = v.bank ∧ w.length = v.length ∧ w.crc = v.crc ∧ w.startUp = v.startUp ∧
    w.got = v.got + bs.length ∧ w.sum = crc32More v.sum bs ∧
    w.at_ < w.length ∧ takeRecord w.buf (w.length - w.at_) = .more ∧
    ((v.services.map (·.code)).Nodup → (w.services.map (·.code)).Nodup) ∧
    ((v.surcharges.map (·.code)).Nodup → (w.surcharges.map (·.code)).Nodup) ∧
    (∀ n, 1 ≤ n → n ≤ 16 → (v.surcharges.filter (fun o => o.mask.getLsbD (n - 1))).length ≤ 8 →
      (w.surcharges.filter (fun o => o.mask.getLsbD (n - 1))).length ≤ 8)) ∧
  (∀ (crc : BitVec 32) (a b : List Byte), crc32More (crc32More crc a) b = crc32More crc (a ++ b)) ∧
  (∀ (buf : List Byte) (left : Nat),
    let byte (i : Nat) : Nat := (buf.getD i 0).toNat
    let kind := byte 0
    let length := byte 1 * 256 + byte 2
    let fits : Prop := (kind = 1 ∧ length = 33) ∨ (kind = 2 ∧ length = 74) ∨ (kind = 3 ∧ length = 12) ∨
      (kind = 4 ∧ 9 ≤ length) ∨ (kind = 5 ∧ length = 22)
    let bs := buf.take length
    let n := (bs.getD 5 0).toNat
    let tail := (bs.getD (6 + 6 * n) 0).toNat
    (buf.length < 3 → takeRecord buf left = if left < 3 ∧ left ≤ buf.length then .malformed else .more) ∧
    (3 ≤ buf.length →
      (¬fits ∨ left < length → takeRecord buf left = .malformed) ∧
      (fits → length ≤ left → buf.length < length → takeRecord buf left = .more) ∧
      (fits → length ≤ left → length ≤ buf.length → takeRecord buf left =
        if kind = 4 ∧ length ≠ (if tail = 0 then 9 + 6 * n else 15 + 6 * n) then .malformed else .record bs))) ∧
  (∀ (v : Verify) (bs : List Byte),
    let b (i : Nat) : Nat := (bs.getD i 0).toNat
    let w (i : Nat) : Nat := b i * 256 + b (i + 1)
    let d (i : Nat) : Nat := w i * 65536 + w (i + 2)
    let good : Prop := (crc16 (bs.take (bs.length - 2))).toNat = w (bs.length - 2)
    let ordered : Prop := (v.record = 1 ↔ b 0 = 1) ∧ v.group ≤ b 0
    let fails (c : VerifyCheck) : Prop := v.takeOne bs = .error c
    let takes (x : Verify) : Prop := v.takeOne bs = .ok { x with
      group := b 0, record := v.record + 1, at_ := v.at_ + bs.length, buf := v.buf.drop bs.length }
    (¬good → fails .recordCrc) ∧ (good → ¬ordered → fails .sequence) ∧
    (good → ordered → b 0 = 1 →
      let days := if b 8 = 2 then (if (2000 + b 7) % 4 = 0 then 29 else 28)
        else if b 8 = 4 ∨ b 8 = 6 ∨ b 8 = 9 ∨ b 8 = 11 then 30 else 31
      let limits : Prop := 1 ≤ w 3 ∧ b 7 ≤ 99 ∧ (1 ≤ b 8 ∧ b 8 ≤ 12) ∧ (1 ≤ b 9 ∧ b 9 ≤ days) ∧ b 10 ≤ 23 ∧ b 11 ≤ 59 ∧
        w 12 ≤ 2500 ∧ (b 14 = 1 ∨ b 14 = 5 ∨ b 14 = 10) ∧ (1000 ≤ w 15 ∧ w 15 ≤ 10000) ∧
        (w 17 ≤ 500 ∧ w 19 ≤ 500 ∧ w 21 ≤ 500 ∧ w 23 ≤ 500) ∧ (1 ≤ b 25 ∧ b 25 ≤ 16) ∧ (1 ≤ w 26 ∧ w 26 ≤ 1000) ∧
        (1 ≤ w 28 ∧ w 28 ≤ 192) ∧ b 30 ≤ 32
      (¬limits → fails .fieldRange) ∧
      (limits → takes { v with header := some {
        tariffId := w 3, version := w 5, effective := ⟨2000 + b 7, b 8, b 9, b 10, b 11⟩, tax := w 12
        granularity := b 14, divisor := w 15, discounts := [w 17, w 19, w 21, w 23], nServices := b 25
        nZones := w 26, nLadders := w 28, nSurcharges := b 30 } })) ∧
    (good → ordered → b 0 = 2 →
      let name := (bs.drop 4).take 8
      let mask : BitVec 16 := BitVec.ofNat 16 (w 22)
      let limits : Prop := (1 ≤ b 3 ∧ b 3 ≤ 16) ∧ (∀ c ∈ name, 0x20 ≤ c.toNat ∧ c.toNat ≤ 0x7E) ∧
        (∃ c ∈ name, c ≠ 0x20) ∧ (1 ≤ w 12 ∧ w 12 ≤ 30000) ∧ (1 ≤ b 14 ∧ b 14 ≤ 150) ∧ (1 ≤ w 15 ∧ w 15 ≤ 300) ∧
        b 17 < 4 ∧ d 18 ≤ 10000000 ∧ mask ≠ 0 ∧ mask.toNat < 4096 ∧
        (∀ z, 1 ≤ z → z ≤ 12 → mask.getLsbD (z - 1) = false → d (24 + 4 * (z - 1)) = 0)
      (¬limits → fails .fieldRange) ∧
      (limits → (∃ y ∈ v.services, y.code = b 3) → fails .duplicate) ∧
      (limits → (∀ y ∈ v.services, y.code ≠ b 3) → takes { v with services := v.services ++ [{
        code := b 3, name := shortName name, maxWeight := w 12, maxLength := b 14, maxGirth := w 15
        volumetric := b 17 % 2 == 1, express := b 17 / 2 % 2 == 1, cover := d 18, zoneMask := mask
        offsets := (List.range 12).map (fun i => d (24 + 4 * i)), record := v.record
        ladderRecords := List.replicate 12 0 }] })) ∧
    (good → ordered → b 0 = 3 →
      let sort (i : Nat) : Prop := (0x41 ≤ b i ∧ b i ≤ 0x5A) ∨ (0x30 ≤ b i ∧ b i ≤ 0x39)
      let limits : Prop := w 3 ≤ w 5 ∧ w 5 ≤ 999 ∧ (1 ≤ b 7 ∧ b 7 ≤ 12) ∧ sort 8 ∧ sort 9
      let above : Prop := ∀ h, v.lastHigh = some h → h < w 3
      (¬limits → fails .fieldRange) ∧ (limits → ¬above → fails .order) ∧
      (limits → above → takes { v with zones := v.zones + 1, lastHigh := some (w 5) })) ∧
    (good → ordered → b 0 = 4 →
      let n := b 5
      let bound (i : Nat) : Nat := w (6 + 6 * i)
      let price (i : Nat) : Nat := d (8 + 6 * i)
      let tail := b (6 + 6 * n)
      let limits : Prop := (∃ y ∈ v.services, y.code = b 3) ∧ (1 ≤ b 4 ∧ b 4 ≤ 12) ∧ (1 ≤ n ∧ n ≤ 64) ∧
        (∀ i, i < n → 1 ≤ bound i ∧ bound i ≤ 30000 ∧ price i ≤ 99999999) ∧ tail ≤ 1 ∧
        (tail = 1 → (10 ≤ w (7 + 6 * n) ∧ w (7 + 6 * n) ≤ 10000) ∧ (1 ≤ d (9 + 6 * n) ∧ d (9 + 6 * n) ≤ 100000))
      let rising : Prop := ∀ i, i + 1 < n → bound i < bound (i + 1) ∧ price i ≤ price (i + 1)
      (¬limits → fails .fieldRange) ∧ (limits → ¬rising → fails .order) ∧
      (∀ y, limits → rising → v.services.find? (fun y => y.code == b 3) = some y →
        let before := y.ladderRecords.getD (b 4 - 1) 0
        let offered := y.zoneMask.getLsbD (b 4 - 1)
        let offset := y.offsets.getD (b 4 - 1) 0
        (before ≠ 0 → fails .duplicate) ∧ (before = 0 → offered = false → fails .ladderUnoffered) ∧
        (before = 0 → offered = true → offset ≠ v.at_ → fails .ladderOffset) ∧
        (before = 0 → offered = true → offset = v.at_ → takes { v with
          ladders := v.ladders + 1
          services := v.services.map (fun o => if o.code = b 3 then { o with
            ladderRecords := o.ladderRecords.set (b 4 - 1) v.record } else o) }))) ∧
    (good → ordered → b 0 = 5 →
      let mask : BitVec 16 := BitVec.ofNat 16 (w 18)
      let kinds : List SurchargeKind :=
        [.lengthOver, .girthOver, .weightOver, .irregular, .fragile, .signature, .declaredValue]
      let limits : Prop := (1 ≤ b 3 ∧ b 3 ≤ 32) ∧ (1 ≤ b 4 ∧ b 4 ≤ 7) ∧
        d 5 ≤ (if b 4 = 1 then 150 else if b 4 = 2 then 300 else if b 4 = 3 then 30000 else if b 4 = 7 then 10000000
          else 0) ∧
        b 9 ≤ 1 ∧ d 10 ≤ (if b 9 = 0 then 99999999 else 1000) ∧
        (if b 4 = 7 then b 9 = 0 ∧ 1 ≤ d 14 ∧ d 14 ≤ 10000000 else d 14 = 0) ∧
        mask ≠ 0 ∧ (∀ n, 1 ≤ n → n ≤ 16 → mask.getLsbD (n - 1) = true → ∃ y ∈ v.services, y.code = n)
      let full (n : Nat) : Prop := 8 ≤ (v.surcharges.filter (fun o => o.mask.getLsbD (n - 1))).length
      let ninth : Prop := ∃ n, 1 ≤ n ∧ n ≤ 16 ∧ mask.getLsbD (n - 1) = true ∧ full n
      (¬limits → fails .fieldRange) ∧
      (limits → (∃ o ∈ v.surcharges, o.code = b 3) → fails .duplicate) ∧
      (limits → (∀ o ∈ v.surcharges, o.code ≠ b 3) → ninth → fails .surchargeLimit) ∧
      (∀ kind, limits → (∀ o ∈ v.surcharges, o.code ≠ b 3) → ¬ninth → kinds[b 4 - 1]? = some kind →
        takes { v with surcharges := v.surcharges ++ [{
          code := b 3, kind := kind, threshold := d 5, permille := b 9 == 1, amount := d 10, unit := d 14
          mask := mask }] }))) ∧
  (∀ l : List Byte, (∃ k, l = shortName l ++ List.replicate k 0x20) ∧ (shortName l).getLast? ≠ some 0x20) ∧
  (∀ (v : Verify),
    let lacks (y : Service) : Prop := ∃ z, 1 ≤ z ∧ z ≤ 12 ∧ y.zoneMask.getLsbD (z - 1) = true ∧
      y.ladderRecords.getD (z - 1) 0 = 0
    (v.header = none → v.close = .failed .sequence v.record) ∧
    (∀ h, v.header = some h →
      let agree : Prop := v.services.length = h.nServices ∧ v.zones = h.nZones ∧ v.ladders = h.nLadders ∧
        v.surcharges.length = h.nSurcharges
      (¬agree → v.close = .failed .countMismatch 0) ∧
      (∀ a y z, agree → v.services = a ++ y :: z → (∀ o ∈ a, ¬lacks o) → lacks y →
        v.close = .failed .ladderMissing y.record) ∧
      (agree → (∀ y ∈ v.services, ¬lacks y) → v.close =
        if ~~~ v.sum = v.crc then .passed ⟨h, v.services, v.surcharges⟩ else .failed .imageCrc 0))) ∧
  (∀ (v : Verify) (n : Nat),
    (v.length ≤ v.at_ → Verify.advance (n + 1) v = v.close) ∧
    (v.at_ < v.length →
      (takeRecord v.buf (v.length - v.at_) = .more → Verify.advance (n + 1) v = .more v) ∧
      (takeRecord v.buf (v.length - v.at_) = .malformed → Verify.advance (n + 1) v = .failed .recordForm v.record) ∧
      (∀ bs, takeRecord v.buf (v.length - v.at_) = .record bs →
        (∀ c, v.takeOne bs = .error c → Verify.advance (n + 1) v = .failed c v.record) ∧
        (∀ w, v.takeOne bs = .ok w → Verify.advance (n + 1) v = Verify.advance n w)))) ∧
  (∀ (v : Verify) (bs : List Byte), v.feed bs = Verify.advance ((v.buf ++ bs).length + 1) { v with
    got := v.got + bs.length, buf := v.buf ++ bs, sum := crc32More v.sum bs }) ∧
  ∀ (v : Verify) (bs : List Byte) (x : Summary), v.feed bs = .passed x →
    ~~~ (crc32More v.sum bs) = v.crc ∧
    x.services.length = x.header.nServices ∧ x.surcharges.length = x.header.nSurcharges ∧
    (∀ y ∈ x.services, ∀ z, 1 ≤ z → z ≤ 12 → y.zoneMask.getLsbD (z - 1) = true →
      y.ladderRecords.getD (z - 1) 0 ≠ 0) ∧
    ((v.services.map (·.code)).Nodup → (x.services.map (·.code)).Nodup) ∧
    ((v.surcharges.map (·.code)).Nodup → (x.surcharges.map (·.code)).Nodup) ∧
    (∀ n, 1 ≤ n → n ≤ 16 → (v.surcharges.filter (fun o => o.mask.getLsbD (n - 1))).length ≤ 8 →
      (x.surcharges.filter (fun o => o.mask.getLsbD (n - 1))).length ≤ 8)

/-! ## Rate cache and walks (04_rate_cache_and_tariff_walks.md) -/

/-- C_PURGE (R73): every entry becomes invalid, both pointers 0, and the reply is OK at once, whatever bank is
ACTIVE and whatever walk is in progress; statistics, walk, generation and bank states stay. -/
def Obligations.PurgeCache : Prop :=
  ∀ (s : State) (i : SlotId) (tag : Byte), s.takes i →
    exec (.cPurge tag) s = (s.onCache (fun c => { c with
      points := c.points.map (fun e => { e with valid := false })
      bands := c.bands.map (fun e => { e with valid := false })
      lookasides := c.lookasides.map (fun e => { e with valid := false })
      pointPtr := 0
      bandPtr := 0 })).answers i tag .cPurge (.ok .none)

/-- C_READ (R75): one entry with its valid mark and every field as it stands; a kind or index outside the ranges
is refused with BAD_FIELD, whose field the rule leaves open and this statement too; nothing else changes. -/
def Obligations.CacheRead : Prop :=
  ∀ (s : State) (i : SlotId) (tag : Byte) (n : Nat), s.takes i →
    (∀ h : n < 48, exec (.cRead tag .point n) s = s.answers i tag .cRead (.ok (.point s.cache.points[n]))) ∧
    (∀ h : n < 8, exec (.cRead tag .band n) s = s.answers i tag .cRead (.ok (.band s.cache.bands[n]))) ∧
    (∀ k, n = k.number →
      exec (.cRead tag .lookaside n) s = s.answers i tag .cRead (.ok (.lookaside (s.cache.lookasides.get k)))) ∧
    (∀ kind, (kind = .point → 47 < n) → (kind = .band → 7 < n) → (kind = .lookaside → n < 1 ∨ 6 < n) →
      ∃ f, exec (.cRead tag kind n) s = s.refuses i tag .cRead .badField f)

/-- A lookup the unit takes (R60 to R64, R67). A price lookup, case by case in the order of R63's table: no tariff,
no such service, a point entry that hits, a band entry that hits, and a miss, which begins a rate walk at the service
record (R68). A zone lookup: answered from the lookaside of its own position when that hits, and otherwise a zone walk
begins with the bounds 1 and c, at the middle record of the group (R67). Either walk records the ACTIVE bank and the
present generation (R65), has made no read, and has its retry mark clear. -/
def Obligations.LookupsAnswered : Prop :=
  (∀ (s : State) (service zone cw : Nat),
      let gen := s.tariff.generation
      let point (e : PointEntry) : Prop := e.valid = true ∧ e.generation = gen ∧ e.service = service ∧
        e.zone = zone ∧ e.low < cw ∧ cw ≤ e.high
      let band (e : BandEntry) : Prop := e.valid = true ∧ e.generation = gen ∧ e.service = service ∧
        e.zone = zone ∧ e.start < cw ∧ cw ≤ e.maxWeight
      let counted (f : CacheStats → CacheStats) : State := s.onCache (fun c => { c with stats := f c.stats })
      let more (n : Nat) : Nat := if n < 4294967295 then n + 1 else n
      (s.tariffInForce = none → s.takePrice service zone cw = (s, some .noTariff)) ∧
      (∀ k t, s.tariffInForce = some (k, t) →
        ((∀ v ∈ t.services, v.code ≠ service) → s.takePrice service zone cw = (s, some .notOffered)) ∧
        (∀ v, t.services.find? (fun v => v.code == service) = some v →
          (∀ e ∈ s.cache.points.toList, point e → (∀ o ∈ s.cache.points.toList, point o → o = e) →
            s.takePrice service zone cw =
              (counted (fun n => { n with pointHits := more n.pointHits }), some (.step e.price e.low e.high))) ∧
          ((∀ o ∈ s.cache.points.toList, ¬point o) →
            (∀ e ∈ s.cache.bands.toList, band e → (∀ o ∈ s.cache.bands.toList, band o → o = e) →
              s.takePrice service zone cw = (counted (fun n => { n with bandHits := more n.bandHits }),
                some (.tail e.start e.price e.step e.increment))) ∧
            ((∀ o ∈ s.cache.bands.toList, ¬band o) →
              let place := 33 + 74 * (v.record - 2)
              let w : Walk :=
                { lookup := .price service zone cw, stage := .service, bank := k, generation := gen
                  place := place, record := v.record, reads := 0, retry := false
                  services := t.header.nServices, ladderRecords := v.ladderRecords }
              s.takePrice service zone cw =
                (((counted (fun n => { n with priceMisses := more n.priceMisses })).onCache
                  (fun c => { c with walk := some w })).onPort (fun p => p.ask (.walk k place)), none)))))) ∧
  (∀ (s : State) (k : Pos) (x : Nat),
      let e := s.cache.lookasides.get k
      let hit : Prop := e.valid = true ∧ e.generation = s.tariff.generation ∧ e.low ≤ x ∧ x ≤ e.high
      let counted (f : CacheStats → CacheStats) : State := s.onCache (fun c => { c with stats := f c.stats })
      let more (n : Nat) : Nat := if n < 4294967295 then n + 1 else n
      (s.tariffInForce = none → s.takeZone k x = (s, some .noTariff)) ∧
      (∀ bank t, s.tariffInForce = some (bank, t) →
        (hit → s.takeZone k x =
          (counted (fun n => { n with zoneHits := more n.zoneHits }), some (.zoneFound e.zone e.sort))) ∧
        (¬hit →
          let m := (1 + t.header.nZones) / 2
          let place := 33 + 74 * t.header.nServices + 12 * (m - 1)
          let w : Walk :=
            { lookup := .zone k x, stage := .zone 1 t.header.nZones, bank := bank, generation := s.tariff.generation
              place := place, record := 1 + t.header.nServices + m, reads := 0, retry := false
              services := t.header.nServices, ladderRecords := [] }
          s.takeZone k x =
            (((counted (fun n => { n with zoneMisses := more n.zoneMisses })).onCache
              (fun c => { c with walk := some w })).onPort (fun p => p.ask (.walk bank place)), none))))

/-- Where an installed entry goes (R69, R70): nowhere when a valid entry has its generation, service, zone and
low (for a band, no low); else to the first invalid entry; else to the entry at the pointer, which then
advances, 47 or 7 being followed by 0. Every other entry stays. -/
def Obligations.EntryInstalled : Prop :=
  ∀ (c : Cache) (p : PointEntry) (q : BandEntry),
    let pointTwin (o : PointEntry) : Prop := o.valid = true ∧ o.generation = p.generation ∧
      o.service = p.service ∧ o.zone = p.zone ∧ o.low = p.low
    let bandTwin (o : BandEntry) : Prop := o.valid = true ∧ o.generation = q.generation ∧
      o.service = q.service ∧ o.zone = q.zone
    ((∃ o ∈ c.points.toList, pointTwin o) → c.installPoint p = c) ∧
    ((∀ o ∈ c.points.toList, ¬pointTwin o) →
      (∀ j : Fin 48, c.points[j].valid = false → (∀ m : Fin 48, m < j → c.points[m].valid = true) →
        c.installPoint p = { c with points := c.points.set j p }) ∧
      ((∀ j : Fin 48, c.points[j].valid = true) →
        c.installPoint p = { c with points := c.points.set c.pointPtr p, pointPtr := c.pointPtr + 1 })) ∧
    ((∃ o ∈ c.bands.toList, bandTwin o) → c.installBand q = c) ∧
    ((∀ o ∈ c.bands.toList, ¬bandTwin o) →
      (∀ j : Fin 8, c.bands[j].valid = false → (∀ m : Fin 8, m < j → c.bands[m].valid = true) →
        c.installBand q = { c with bands := c.bands.set j q }) ∧
      ((∀ j : Fin 8, c.bands[j].valid = true) →
        c.installBand q = { c with bands := c.bands.set c.bandPtr q, bandPtr := c.bandPtr + 1 }))

/-- WALK_READ_COMPLETE (R65, R66). A read is good exactly when its CRC-16 is right, its kind byte is the one expected,
its record length is right for its kind, a ladder's by its step count and tail byte (any byte other than 0 is a tail: the
model's choice, log 24), and its service code, a ladder's zone too, are those looked up; a zone range's low prefix must
not exceed its high prefix. The read counts; a changed generation ends the walk RESTART with the read not
judged; a first bad read is read again, a second one is reported as damage; a good read takes the walk on or ends it,
with its entry installed when R69 allows. The model's choices: the port goes on first (log 40), bytes delivered with
the completion stand for the memory's (log 41), and bytes beyond the bank's image area are free values, drawn at the
read that meets them (log 35). -/
def Obligations.WalkReadTaken : Prop :=
  (∀ (w : Walk) (bs : List Byte),
    let b (n : Nat) : Nat := (bs.getD n 0).toNat
    let two (n : Nat) : Nat := 256 * b n + b (n + 1)
    let n := bs.length
    let form (kind length : Nat) : Prop := n = length ∧ b 0 = kind ∧ two 1 = n ∧
      (crc16 (bs.take (n - 2))).toNat = two (n - 2)
    (∀ lo hi, w.stage = .zone lo hi → (w.good bs = true ↔ form 3 12 ∧ two 3 ≤ two 5)) ∧
    (∀ service zone cw, w.lookup = .price service zone cw →
      (w.stage = .service → (w.good bs = true ↔ form 2 74 ∧ b 3 = service)) ∧
      (∀ most, w.stage = .ladder most → (w.good bs = true ↔
        form 4 (if b (6 + 6 * b 5) = 0 then 9 + 6 * b 5 else 15 + 6 * b 5) ∧ b 3 = service ∧ b 4 = zone)))) ∧
  (∀ (s : State) (d : Option (List Byte)), s.running = true →
    ((∀ k o, s.port.current ≠ some (.walk k o)) → exec (.walkReadComplete d) s = .next s) ∧
    (∀ k o, s.port.current = some (.walk k o) →
      let held := s.recordAt k o
      let n := recordLength (Memory.readRun s.flash.cells (bankBase k + o) 3)
      let taken : State := { s with
        port := s.port.complete
        fresh := if d = none ∧ 4190208 < o + max 3 held.length then s.fresh + 1 else s.fresh }
      (o + max 3 n ≤ 4190208 → held = Memory.readRun s.flash.cells (bankBase k + o) n) ∧
      (s.cache.walk = none → exec (.walkReadComplete d) s = .next taken) ∧
      (∀ w, s.cache.walk = some w →
        let bytes := d.getD held
        let more (n : Nat) : Nat := if n < 4294967295 then n + 1 else n
        let read (x : Walk) (bad : Bool) : State := taken.onCache (fun c => { c with
          walk := some x
          stats := { c.stats with
            walkReads := more c.stats.walkReads
            recordErrors := if bad then more c.stats.recordErrors else c.stats.recordErrors } })
        let w' : Walk := { w with reads := w.reads + 1 }
        let present : Prop := s.tariff.generation = w.generation
        let kept (f : Cache → Cache) : State :=
          if s.tariffInForce.isSome then (read w' false).onCache f else read w' false
        (¬present → exec (.walkReadComplete d) s = .next ((read w' false).endWalk .restart)) ∧
        (present → w.good bytes = false → w.retry = false → exec (.walkReadComplete d) s =
          .next ((read { w' with retry := true } true).onPort (fun p => p.ask (.walk w.bank w.place)))) ∧
        (present → w.good bytes = false → w.retry = true → exec (.walkReadComplete d) s =
          .next (((read w' true).damage w.generation w.record).endWalk .tariffFault)) ∧
        (present → w.good bytes = true →
          (∀ x, w'.next bytes = .reads x → exec (.walkReadComplete d) s =
            .next ((read x false).onPort (fun p => p.ask (.walk x.bank x.place)))) ∧
          (∀ a, w'.next bytes = .ends a →
            exec (.walkReadComplete d) s = .next ((read w' false).endWalk a)) ∧
          (s.activeBank = s.tariffInForce.map (·.1) →
            (∀ a e, w'.next bytes = .point a e → exec (.walkReadComplete d) s =
              .next ((kept (fun c => c.installPoint e)).endWalk a)) ∧
            (∀ a e, w'.next bytes = .band a e → exec (.walkReadComplete d) s =
              .next ((kept (fun c => c.installBand e)).endWalk a)) ∧
            (∀ a j e, w'.next bytes = .lookaside a j e → exec (.walkReadComplete d) s =
              .next ((kept (fun c => { c with lookasides := c.lookasides.set j e })).endWalk a)))))))

/-- A rating completes, a rating begins, and a walk ends (R20, R65, R78, R79, R81, R82, R84, R107). A decided rating is
handed over: RATED with OK and, where its capture is held, SERVICE_LIMIT loaded, or OPEN and refused NOT_RATEABLE. One
that goes on gives its lookup to the cache, which answers at once or walks. A walk's answer goes to the rating in
progress, an orphan's is dropped, and then the waiting lookup of the rating in progress is taken. A request placed
while unit and cache are free is rated at once. The end of a rating frees the unit, and the arbiter then chooses among
the requests that wait, at the same event (R78); one chosen while the cache is free is rated from its start as any
other, and the arbiter goes on from there. Damage (R56): with its generation in force the ACTIVE bank is DAMAGED, no
summary is in force, the cache is purged, the record is to be rewritten and TARIFF_DAMAGED is offered; otherwise
nothing changes. -/
def Obligations.WalkEnds : Prop :=
  let hands (x : State) (k : Pos) (most : Nat) (r : RateResult) (z : State) : Prop :=
    ∃ it ph i, x.openSlot k = .rating it ph i ∧
      let freed : State := { x with rating := { x.rating with current := none } }
      (r.failure.isSome = true → z = { freed with
        items := { x.items with slots := x.items.slots.set k (.opened it) }
        link := x.link.answer i (.refused .notRateable (.result r)) }) ∧
      (r.failure = none →
        let c := x.channel k
        let limited := if c.capture = none then c else { c with limit := some most }
        z = { freed with
          items := { x.items with slots := x.items.slots.set k (.rated it r false) }
          link := x.link.answer i (.ok (.result r))
          weighing := { x.weighing with channels := x.weighing.channels.set k limited } })
  let asks (x : State) (v : RatingRun) : State × Option Answer :=
    ({ x with rating := { x.rating with current := some v } } : State).takeLookup v.lookup
  let ends (x : State) (k : Pos) (most : Nat) (st : Stage) (z : State) : Prop :=
    ∃ r, st = .decided r ∧ hands x k most r z
  let prices (x : State) (k : Pos) (most : Nat) (st : Stage) (z : State) : Prop :=
    ends x k most st z ∨ (∃ v, st = .goesOn v ∧ asks x v = (z, none)) ∨
    (∃ v y b, st = .goesOn v ∧ asks x v = (y, some b) ∧ ends y k v.service.maxWeight (v.answered b) z)
  let rates (x : State) (k : Pos) (most : Nat) (st : Stage) (z : State) : Prop :=
    prices x k most st z ∨
    (∃ v y b, st = .goesOn v ∧ asks x v = (y, some b) ∧ prices y k v.service.maxWeight (v.answered b) z)
  (∀ (s : State) (a : Answer),
      let freed : State := { s with cache := { s.cache with walk := none } }
      let next (l : Lookup) : State × Option Answer := ({ freed with
        cache := { freed.cache with waiting := none }
        rating := { s.rating with orphan := none } } : State).takeLookup l
      (s.rating.orphan.isSome = true → s.cache.waiting = none →
        s.endWalk a = { freed with rating := { s.rating with orphan := none } }) ∧
      (s.rating.orphan = none → s.rating.current = none → s.cache.waiting = none → s.endWalk a = freed) ∧
      (∀ u, s.rating.current = some u →
        (∀ z, s.rating.orphan = none → s.cache.waiting = none → a ≠ .restart →
          prices freed u.req.position u.service.maxWeight (u.answered a) z →
          s.endWalk a = z.arbitrate ∧ (s.rating.pendingList = [] → s.endWalk a = z)) ∧
        (∀ l, s.rating.orphan.isSome = true → s.cache.waiting = some l →
          (∀ x, next l = (x, none) → s.endWalk a = x) ∧
          (∀ x b z, next l = (x, some b) → b ≠ .restart →
            prices x u.req.position u.service.maxWeight (u.answered b) z →
            s.endWalk a = z.arbitrate ∧ (s.rating.pendingList = [] → s.endWalk a = z))))) ∧
  (∀ (s : State) (q : RateRequest) (it : OpenItem) (ph : RatePhase) (i : SlotId) (z : State),
      s.rating.current = none → s.nextRequest = some q → s.cache.walk = none →
      s.openSlot q.position = .rating it ph i →
      let begun : State := { s with
        rating := { s.rating with
          pendingList := s.rating.pendingList.filter (fun o => o.position != q.position)
          lastServed := q.position }
        items := { s.items with slots := s.items.slots.set q.position (.rating it .inProgress i) } }
      rates begun q.position (s.serviceMost q.service)
        (q.start (s.tariffInForce.map (·.2)) s.tariff.generation) z → s.arbitrate = z.arbitrate) ∧
  (∀ (s : State) (q : RateRequest) (it : OpenItem) (ph : RatePhase) (i : SlotId) (z : State),
      s.rating.current = none → s.rating.pendingList = [] → s.cache.walk = none →
      s.openSlot q.position = .rating it ph i →
      let begun : State := { s with
        rating := { s.rating with lastServed := q.position }
        items := { s.items with slots := s.items.slots.set q.position (.rating it .inProgress i) } }
      rates begun q.position (s.serviceMost q.service)
        (q.start (s.tariffInForce.map (·.2)) s.tariff.generation) z → s.placeRating q = z) ∧
  (∀ (s : State) (generation record : Nat),
      (generation ≠ s.tariff.generation → s.damage generation record = s) ∧
      (s.tariffInForce = none → s.damage generation record = s) ∧
      (∀ k t, s.tariffInForce = some (k, t) → generation = s.tariff.generation →
        ∃ r, recordSays r (s.tariff.recordSeq + 1) .damaged (s.tariff.banks.get k).description ∧
          s.damage generation record = { s with
            tariff := { s.tariff with
              banks := s.tariff.banks.set k { s.tariff.banks.get k with state := .damaged }
              active := none, recordSeq := s.tariff.recordSeq + 1 }
            cache := s.cache.purge
            port := s.port.asks [.recordErase k, .recordProgram k r]
            link := s.link.offer (.tariffDamaged k t.header.tariffId t.header.version generation record) }))

/-- How a good read takes a walk on (R67, R68). A zone search: a record that covers the prefix ends it and fills
the lookaside of its own position; any other halves the records in question, or ends the search NO_ZONE
when none is left. A rate walk: an unoffered zone, the ladder read next, the first step that reaches the
weight, the tail, and the two ways to OVERWEIGHT, with what each may install. -/
def Obligations.WalkSearches : Prop :=
  (∀ (w : Walk) (bs : List Byte) (lo hi x : Nat) (k : Pos), w.stage = .zone lo hi → w.lookup = .zone k x →
      1 ≤ lo → lo ≤ hi →
      let m := (lo + hi) / 2
      let z := zoneOf bs
      (z.low ≤ x → x ≤ z.high → w.next bs = .lookaside (.zoneFound z.zone z.sort) k
        ⟨true, w.generation, z.low, z.high, z.zone, z.sort⟩) ∧
      ((x < z.low ∨ z.high < x) →
        let lo' := if x < z.low then lo else m + 1
        let hi' := if x < z.low then m - 1 else hi
        (hi' < lo' → w.next bs = .ends .noZone) ∧
        (lo' ≤ hi' → 2 * (hi' + 1 - lo') ≤ hi + 1 - lo ∧ ∃ w', w.next bs = .reads w' ∧
          w'.stage = .zone lo' hi' ∧ w'.lookup = w.lookup ∧ w'.generation = w.generation ∧ w'.bank = w.bank ∧
          w'.retry = false ∧ w'.place = 33 + 74 * w.services + 12 * ((lo' + hi') / 2 - 1) ∧
          w'.record = 1 + w.services + (lo' + hi') / 2))) ∧
  (∀ (w : Walk) (bs : List Byte) (s z cw : Nat), w.lookup = .price s z cw →
      (w.stage = .service →
        let v := serviceOf bs w.record
        (v.zoneMask.getLsbD (z - 1) = false → w.next bs = .ends .notOffered) ∧
        (1 ≤ z → v.zoneMask.getLsbD (z - 1) = true → ∃ w', w.next bs = .reads w' ∧ w'.stage = .ladder v.maxWeight ∧
          w'.place = v.offsets.getD (z - 1) 0 ∧ w'.record = w.ladderRecords.getD (z - 1) 0 ∧
          w'.lookup = w.lookup ∧ w'.generation = w.generation ∧ w'.bank = w.bank ∧ w'.retry = false)) ∧
      (∀ most, w.stage = .ladder most →
        let l := ladderOf bs
        let last := (l.steps.getLast?).getD (0, 0)
        (∀ n ub price, l.steps[n]? = some (ub, price) → cw ≤ ub → (∀ y ∈ l.steps.take n, y.1 < cw) →
          let low := if n = 0 then 0 else (l.steps.getD (n - 1) (0, 0)).1
          w.next bs = .point (.step price low ub) ⟨true, w.generation, s, z, low, ub, price⟩) ∧
        ((∀ y ∈ l.steps, y.1 < cw) →
          (∀ step inc, l.tail = some (step, inc) → cw ≤ most →
            w.next bs = .band (.tail last.1 last.2 step inc)
              ⟨true, w.generation, s, z, last.1, last.2, step, inc, most⟩) ∧
          ((l.tail = none ∨ most < cw) → w.next bs = .ends (.overweight last.1)))))

/-! ## Rating (05_rating.md) -/

/-- The stages that decide or go on before a price (R86 to R92, R98): the tariff and the service, the dimensions
raised and ordered, the girth, the limits in their order, the volumetric and the chargeable weight; and
what each answer of the two lookups decides. The division of the volumetric weight rounds up. -/
def Obligations.RatingChecks : Prop :=
  (∀ (q : RateRequest) (g : Nat),
    (∃ r, q.start none g = .decided r ∧ r.failure = some ⟨.noTariff, none, none, none⟩ ∧ r.generation = 0) ∧
    ∀ t : Summary,
      ((∀ v ∈ t.services, v.code ≠ q.service) → ∃ r, q.start (some t) g = .decided r ∧
        r.failure = some ⟨.notOffered, none, some q.service, none⟩ ∧ r.generation = g) ∧
      (∀ v most mid least vw, t.services.find? (fun v => v.code == q.service) = some v →
        [most, mid, least].Perm (q.dims.toList.map (fun d => if d = 0 then 1 else d)) →
        mid ≤ most → least ≤ mid →
        (v.volumetric = false → vw = 0) →
        (v.volumetric = true → most * mid * least * 1000 ≤ vw * t.header.divisor ∧
          vw * t.header.divisor < most * mid * least * 1000 + t.header.divisor) →
        let girth := most + 2 * (mid + least)
        let cw := if q.wt < vw then vw else q.wt
        let shown : RateResult :=
          { generation := g, wt := q.wt, keyed := q.keyed, service := some (v.code, v.name)
            dims := some (most, mid, least), girth := some girth
            dimsClamped := decide (0 ∈ q.dims.toList), expressClass := v.express }
        let weighed := { shown with vw := some vw, cw := some cw, volumetricUsed := decide (q.wt < vw) }
        q.start (some t) g =
          if v.maxLength < most then
            .decided { shown with failure := some ⟨.oversize, some .length, some most, some v.maxLength⟩ }
          else if v.maxGirth < girth then
            .decided { shown with failure := some ⟨.oversize, some .girth, some girth, some v.maxGirth⟩ }
          else if v.cover < q.value then
            .decided { shown with failure := some ⟨.valueOverCover, none, some q.value, some v.cover⟩ }
          else if v.maxWeight < cw then
            .decided { weighed with failure := some ⟨.overweight, none, some cw, some v.maxWeight⟩ }
          else .goesOn ⟨q, t, v, weighed⟩)) ∧
  (∀ (u : RatingRun),
    let fails (reason : RateReason) (value most : Option Nat) : Stage :=
      .decided { u.result with failure := some ⟨reason, none, value, most⟩ }
    (u.result.zone = none →
      u.lookup = .zone u.req.position (u.req.postcode / 100) ∧
      (∀ z sort, u.answered (.zoneFound z sort) =
        .goesOn { u with result := { u.result with zone := some (z, sort) } }) ∧
      u.answered .noZone = fails .noZone (some (u.req.postcode / 100)) none ∧
      u.answered .noTariff = fails .noTariff none none ∧
      u.answered .tariffFault = fails .tariffFault none none) ∧
    (∀ z sort cw, u.result.zone = some (z, sort) → u.result.cw = some cw →
      u.lookup = .price u.service.code z cw ∧
      u.answered .notOffered = fails .notOffered (some z) none ∧
      (∀ last, u.answered (.overweight last) = fails .overweight (some cw) (some last)) ∧
      u.answered .noTariff = fails .noTariff none none ∧
      u.answered .tariffFault = fails .tariffFault none none))

/-- The money stages (R92 to R97) on a price answer: base price with its basis, the surcharges that apply, the
discount rounded down, the net amount, the tax rounded half up and the total rounded to the granularity,
halves up; a base price, surcharge sum, net amount or total above 99,999,999 fails PRICE_LIMIT. -/
def Obligations.MoneyStages : Prop :=
  ∀ (u : RatingRun) (a : Answer) (basis : Basis) (cw p0 most mid least girth : Nat),
    u.result.failure = none → u.result.zone.isSome = true →
    u.result.dims = some (most, mid, least) → u.result.girth = some girth → u.result.cw = some cw →
    ((∃ lo hi, a = .step p0 lo hi ∧ basis = .step) ∨
      (∃ start price step inc k, a = .tail start price step inc ∧ basis = .tail (k + 1) ∧
        k * step < cw - start ∧ cw - start ≤ (k + 1) * step ∧ p0 = price + (k + 1) * inc)) →
    let h := u.tariff.header
    let applies (c : Surcharge) : Bool := c.mask.getLsbD (u.service.code - 1) && (match c.kind with
      | .lengthOver => decide (c.threshold < most)
      | .girthOver => decide (c.threshold < girth)
      | .weightOver => decide (c.threshold < cw)
      | .irregular => u.req.irregular
      | .fragile => u.req.fragile
      | .signature => u.req.signature
      | .declaredValue => decide (c.threshold < u.req.value))
    let amount (c : Surcharge) : Nat :=
      if c.kind = .declaredValue then c.amount * ((u.req.value - c.threshold + c.unit - 1) / c.unit)
      else if c.permille = true then (2 * (p0 * c.amount) + 1000) / 2000 else c.amount
    let list := (u.tariff.surcharges.filter applies).map (fun c => (c.code, amount c))
    let sum := (list.map (·.2)).sum
    let fails (stage : RateStage) (value : Nat) : RateFailure := ⟨.priceLimit, some stage, some value, none⟩
    ∃ r, u.answered a = .decided r ∧ r.basis = some basis ∧ r.p0 = some p0 ∧ r.dims = u.result.dims ∧
      r.zone = u.result.zone ∧ r.cw = some cw ∧
      (99999999 < p0 → r.failure = some (fails .base p0)) ∧
      (p0 ≤ 99999999 → r.surcharges = some list ∧
        (99999999 < sum → r.failure = some (fails .surcharge sum)) ∧
        (sum ≤ 99999999 → ∀ dsc net, dsc * 1000 ≤ p0 * h.discounts.getD u.req.tier 0 →
          p0 * h.discounts.getD u.req.tier 0 < dsc * 1000 + 1000 → net = p0 + sum - dsc →
          r.dsc = some dsc ∧ r.net = some net ∧
          (99999999 < net → r.failure = some (fails .net net)) ∧
          (net ≤ 99999999 → ∀ tax total, 2 * net * h.tax < 20000 * tax + 10000 →
            20000 * tax ≤ 2 * net * h.tax + 10000 →
            h.granularity ∣ total → 2 * (net + tax) < 2 * total + h.granularity →
            2 * total ≤ 2 * (net + tax) + h.granularity →
            r.tax = some tax ∧ r.totalRaw = some (net + tax) ∧ r.total = some total ∧
            r.rounding = some ((total : Int) - ((net + tax : Nat) : Int)) ∧
            (99999999 < total → r.failure = some (fails .total total)) ∧
            (total ≤ 99999999 → r.failure = none))))

/-- The arbiter (R77 to R79): the position that comes next after last served and has a request is chosen, one
rating at a time; the chosen request leaves the list and its lookup is given to the cache, where it waits
while a walk is in progress. -/
def Obligations.ArbiterOrder : Prop :=
  ∀ (s : State),
    (s.rating.current ≠ none → s.arbitrate = s) ∧ (s.rating.pendingList = [] → s.arbitrate = s) ∧
    (∀ n q, n < 6 → s.rating.current = none →
      s.rating.pendingList.find? (fun q => q.position == times Pos.next (n + 1) s.rating.lastServed) = some q →
      (∀ m < n, ∀ o ∈ s.rating.pendingList, o.position ≠ times Pos.next (m + 1) s.rating.lastServed) →
      s.nextRequest = some q ∧
      (∀ u it ph i w, s.cache.walk = some w → s.openSlot q.position = .rating it ph i →
        q.start (s.tariffInForce.map (·.2)) s.tariff.generation = .goesOn u →
        s.arbitrate = { s with
          rating := { s.rating with
            pendingList := s.rating.pendingList.filter (fun o => o.position != q.position)
            lastServed := q.position, current := some u }
          items := { s.items with
            slots := s.items.slots.set q.position (.rating it .inProgress i) }
          cache := { s.cache with waiting := some u.lookup } })) ∧
    (∀ q, s.rating.current ≠ none → s.placeRating q =
      s.onRating (fun r => { r with pendingList := r.pendingList ++ [q] }))

/-! ## Items and numbers (06_items_and_numbers.md) -/

/-- I_OPEN and I_AMEND (R102 to R104): the limits of the fields, the refusals in their order, and what each does when
carried out. An amendment discards a rating, and gives up keyed or latched dimensions and the capture as it names; it
takes each field it names, and a field it does not name stays; other slots, channels and gauges stay. That a field out
of its limits is named in the request's order, and the keyed dimensions where REMOVE_KEYED stands beside them, is the
model's choice (log 29). That a printable character is a byte from 0x20 to 0x7E is presumed (log 25). -/
def Obligations.ItemOpenedAndAmended : Prop :=
  (∀ f : OpenFields, f.fault = none ↔
    1 ≤ f.position ∧ f.position ≤ 6 ∧ 1 ≤ f.service ∧ f.service ≤ 16 ∧
    f.postcode.length = 5 ∧ (∀ d ∈ f.postcode, d ≤ 9) ∧ f.value ≤ 10000000 ∧ f.flags.other = false ∧
    f.tier ≤ 3 ∧ f.lines.length ≤ 4 ∧
    (∀ l ∈ f.lines, 1 ≤ l.length ∧ l.length ≤ 32 ∧ ∀ c ∈ l, 0x20 ≤ c.toNat ∧ c.toNat ≤ 0x7E) ∧
    ((f.keyed.l = none ∧ f.keyed.w = none ∧ f.keyed.h = none) ∨
      ∃ l w h, f.keyed.l = some l ∧ f.keyed.w = some w ∧ f.keyed.h = some h ∧
        (1 ≤ l ∧ l ≤ 150) ∧ (1 ≤ w ∧ w ≤ 150) ∧ (1 ≤ h ∧ h ≤ 150))) ∧
  (∀ (s : State) (i : SlotId) (tag : Byte) (f : OpenFields), s.takes i →
    (∀ name, f.fault = some name → exec (.iOpen tag f) s = s.refuses i tag .iOpen .badField (.field name)) ∧
    (∀ k, f.fault = none → Pos.ofNumber f.position = some k →
      ((s.release.places.get k).staffed = false →
        exec (.iOpen tag f) s = s.refuses i tag .iOpen .positionClosed) ∧
      ((s.release.places.get k).staffed = true → s.openSlot k ≠ .idle →
        exec (.iOpen tag f) s = s.refuses i tag .iOpen .slotBusy) ∧
      ((s.release.places.get k).staffed = true → s.openSlot k = .idle →
        let keyed := match f.keyed.l, f.keyed.w, f.keyed.h with
          | some l, some w, some h => some (Three.mk l w h)
          | _, _, _ => none
        exec (.iOpen tag f) s = (s.setOpenSlot k (.opened
          { fields := { service := f.service, postcode := ofDigits f.postcode, value := f.value
                        fragile := f.flags.fragile, signature := f.flags.signature
                        irregular := f.flags.irregular, tier := f.tier, lines := f.lines }
            keyed := keyed })).answers i tag .iOpen (.ok .none)))) ∧
  (∀ f : AmendFields, (f.fault = none ↔
    1 ≤ f.position ∧ f.position ≤ 6 ∧ (∀ v, f.service = some v → 1 ≤ v ∧ v ≤ 16) ∧
    (∀ v, f.postcode = some v → v.length = 5 ∧ ∀ d ∈ v, d ≤ 9) ∧ (∀ v, f.value = some v → v ≤ 10000000) ∧
    (∀ v, f.flags = some v → v.other = false) ∧ (∀ v, f.tier = some v → v ≤ 3) ∧
    (∀ v, f.lines = some v → v.length ≤ 4 ∧
      ∀ l ∈ v, 1 ≤ l.length ∧ l.length ≤ 32 ∧ ∀ c ∈ l, 0x20 ≤ c.toNat ∧ c.toNat ≤ 0x7E) ∧
    ((f.keyed.l = none ∧ f.keyed.w = none ∧ f.keyed.h = none) ∨
      ∃ l w h, f.keyed.l = some l ∧ f.keyed.w = some w ∧ f.keyed.h = some h ∧
        (1 ≤ l ∧ l ≤ 150) ∧ (1 ≤ w ∧ w ≤ 150) ∧ (1 ≤ h ∧ h ≤ 150))) ∧
    (∀ l w h, f.fault = none → (keyedOf f.keyed = some (some ⟨l, w, h⟩) ↔
      f.keyed.l = some l ∧ f.keyed.w = some w ∧ f.keyed.h = some h))) ∧
  (∀ (s : State) (i : SlotId) (tag : Byte) (f : AmendFields), s.takes i →
    (∀ name, f.fault = some name →
      exec (.iAmend tag f) s = s.refuses i tag .iAmend .badField (.field name)) ∧
    (∀ k, f.fault = none → Pos.ofNumber f.position = some k →
      let given : Prop := ∃ d, keyedOf f.keyed = some (some d)
      (s.openSlot k = .idle → exec (.iAmend tag f) s = s.refuses i tag .iAmend .noItem) ∧
      (∀ it ph j, s.openSlot k = .rating it ph j →
        exec (.iAmend tag f) s = s.refuses i tag .iAmend .busyRating) ∧
      (∀ it, (s.openSlot k = .opened it ∨ ∃ r stale, s.openSlot k = .rated it r stale) →
        (given → f.removeKeyed = true →
          exec (.iAmend tag f) s = s.refuses i tag .iAmend .badField (.field .keyed)) ∧
        (¬(given ∧ f.removeKeyed = true) →
          ∃ t c, exec (.iAmend tag f) s = .next t ∧ CounterFrame s t ∧
            t.link = s.replied i tag .iAmend (.ok .none) ∧ t.cache = s.cache ∧ t.rating = s.rating ∧
            (∃ it', t.openSlot k = .opened it' ∧
              it'.fields = { service := f.service.getD it.fields.service
                             postcode := (f.postcode.map ofDigits).getD it.fields.postcode
                             value := f.value.getD it.fields.value
                             fragile := (f.flags.map (·.fragile)).getD it.fields.fragile
                             signature := (f.flags.map (·.signature)).getD it.fields.signature
                             irregular := (f.flags.map (·.irregular)).getD it.fields.irregular
                             tier := f.tier.getD it.fields.tier
                             lines := f.lines.getD it.fields.lines } ∧
              (∀ d, keyedOf f.keyed = some (some d) → it'.keyed = some d) ∧
              (¬given → it'.keyed = if f.removeKeyed = true then none else it.keyed) ∧
              (given → it'.latched = none) ∧
              (¬given → it'.latched = if f.remeasure = true then none else it.latched) ∧
              it'.capture = if f.reweigh = true then none else it.capture) ∧
            (∀ j, j ≠ k → t.openSlot j = s.openSlot j ∧ t.channel j = s.channel j ∧
              t.gauges.get j = s.gauges.get j) ∧
            ((s.openSlot k = .opened it → c = s.channel k) ∧
              (s.openSlot k ≠ .opened it → c = { s.channel k with limit := none })) ∧
            t.channel k = (if f.reweigh = true ∧ c.capture ≠ none then
              { c with capture := none, disturb := none, limit := none } else c) ∧
            (it.latched.isSome = true → given ∨ f.remeasure = true →
              t.gauges.get k = { s.gauges.get k with record := none }) ∧
            ((it.latched = none ∨ (¬given ∧ f.remeasure = false)) →
              t.gauges.get k = s.gauges.get k)))))

/-- I_RATE (R15, R16, R32, R105, R106): its refusals; a refused capture or a failed latch returns the item to OPEN; a
channel in MOTION keeps the request waiting in GATHERING; with capture and dimensions in hand the rating request is
placed, with the dimensions keyed, those of the latch record held, or those of a latch made at the rating when all
three axes are READY (WalkEnds says how it is rated when unit and cache are free), and the phase stays QUEUED while
another rating is in progress. -/
def Obligations.ItemRated : Prop :=
  ∀ (s : State) (i : SlotId) (tag : Byte) (n : Nat) (k : Pos), s.takes i → Pos.ofNumber n = some k →
    (s.openSlot k = .idle → exec (.iRate tag n) s = s.refuses i tag .iRate .noItem) ∧
    (∀ it ph j, s.openSlot k = .rating it ph j → exec (.iRate tag n) s = s.refuses i tag .iRate .busyRating) ∧
    (∀ it c, (s.openSlot k = .opened it ∧ c = s.channel k) ∨
        (∃ r stale, s.openSlot k = .rated it r stale ∧ c = { s.channel k with limit := none }) →
      let held := (s.held i tag .iRate).onChannel k (fun _ => c)
      let free : Prop := c.capture = none ∧ c.calibration = .calibrated ∧ c.interlock = false
      (∀ reason,
        ((c.capture = none ∧ c.calibration ≠ .calibrated ∧ reason = .uncalibrated) ∨
          (c.capture = none ∧ c.calibration = .calibrated ∧ c.interlock = true ∧ reason = .removeFirst) ∨
          (free ∧ ((c.state = .offline ∧ reason = .channelOffline) ∨
            (c.state = .zeroing ∧ reason = .channelZeroing) ∨ (c.state = .over ∧ reason = .channelOver) ∨
            (c.state = .under ∧ reason = .channelUnder) ∨
            (c.state = .stable ∧ ∃ r, c.report = some r ∧
              ((r.net < 20 ∧ reason = .tooLight) ∨ (30000 < r.net ∧ reason = .tooHeavy)))))) →
        exec (.iRate tag n) s = .next ((held.setOpenSlot k (.opened it)).refuse i reason)) ∧
      (free → c.state = .motion → exec (.iRate tag n) s = .next
        ((held.onChannel k (fun _ => { c with waiting := some s.weighing.timeout })).setOpenSlot k
          (.rating it .gathering i))) ∧
      (∀ x c', ((c.capture = some x ∧ c' = c) ∨
          (free ∧ c.state = .stable ∧ ∃ r, c.report = some r ∧ 20 ≤ r.net ∧ r.net ≤ 30000 ∧
            x = ⟨r.net, r.e, s.time.calendar.map (·.minute)⟩ ∧
            c' = { c with capture := some x, disturb := some x.net, waiting := none })) →
        let got : OpenItem := { it with capture := some x }
        let weighed := held.onChannel k (fun _ => c')
        let g := s.gauges.get k
        let queued (y : OpenItem) (d : Three Nat) (r : Option LatchRecord) : State :=
          ((weighed.onGauge k (fun _ => { g with record := r })).setOpenSlot k (.rating y .queued i)).onRating
            (fun u => { u with pendingList := u.pendingList ++ [y.request k x.net.toNat d] })
        (∀ a, it.keyed = none → g.record = none → (g.axes.get a).state ≠ .ready →
          (a = .width → (g.axes.get .length).state = .ready) →
          (a = .height → (g.axes.get .length).state = .ready ∧ (g.axes.get .width).state = .ready) →
          exec (.iRate tag n) s = .next ((weighed.setOpenSlot k (.opened got)).refuse i .gaugeNotReady
            (.latchFailed a (g.axes.map (·.state))))) ∧
        (let placed (y : OpenItem) (d : Three Nat) (r : Option LatchRecord) : State :=
            ((weighed.onGauge k (fun _ => { g with record := r })).setOpenSlot k (.rating y .queued i)).placeRating
              (y.request k x.net.toNat d)
         (∀ d, it.keyed = some d → exec (.iRate tag n) s = .next (placed got d g.record)) ∧
         (∀ r, it.keyed = none → g.record = some r → exec (.iRate tag n) s = .next
            (placed { got with latched := some { r with claimed := true } } r.cm
              (some { r with claimed := true }))) ∧
         (it.keyed = none → g.record = none → (∀ a, (g.axes.get a).state = .ready) →
            let cm (a : AxisRec) : Nat := (a.count.toNat + 19) / 20
            let r : LatchRecord := ⟨g.axes.map (·.count), g.axes.map cm, .rating, true⟩
            exec (.iRate tag n) s = .next (placed { got with latched := some r } r.cm (some r)))) ∧
        (s.rating.current ≠ none →
          (∀ d, it.keyed = some d → exec (.iRate tag n) s = .next (queued got d g.record)) ∧
          (∀ r, it.keyed = none → g.record = some r → exec (.iRate tag n) s = .next
            (queued { got with latched := some { r with claimed := true } } r.cm
              (some { r with claimed := true }))) ∧
          (it.keyed = none → g.record = none → (∀ a, (g.axes.get a).state = .ready) →
            let cm (a : AxisRec) : Nat := (a.count.toNat + 19) / 20
            let r : LatchRecord := ⟨g.axes.map (·.count), g.axes.map cm, .rating, true⟩
            exec (.iRate tag n) s = .next (queued { got with latched := some r } r.cm (some r))))))

/-- I_CONFIRM (R109): its refusals in order; carried out, the item takes the next serial, its entry joins the
register AWAIT_RELEASE, the count of confirmed items rises, the interlock of its channel is set, capture and
claimed record are released and the slot is IDLE. The model's choices: what follows on the line is `State.settle`
(log 11), and the reply comes after it (log 46). -/
def Obligations.ItemConfirmed : Prop :=
  ∀ (s : State) (i : SlotId) (tag : Byte) (n : Nat) (k : Pos), s.takes i → Pos.ofNumber n = some k →
    ((∀ it r stale, s.openSlot k ≠ .rated it r stale) →
      exec (.iConfirm tag n) s = s.refuses i tag .iConfirm .notRated) ∧
    (∀ it r, s.openSlot k = .rated it r true →
      exec (.iConfirm tag n) s = s.refuses i tag .iConfirm .ratingStale) ∧
    (∀ it r, s.openSlot k = .rated it r false →
      (s.time.calendar = none → exec (.iConfirm tag n) s = s.refuses i tag .iConfirm .clockUnset) ∧
      (∀ now, s.time.calendar = some now →
        (32 ≤ s.items.register.length → exec (.iConfirm tag n) s = s.refuses i tag .iConfirm .registerFull) ∧
        (s.items.register.length < 32 → s.items.pool = [] →
          exec (.iConfirm tag n) s = s.refuses i tag .iConfirm .noNumbers) ∧
        (∀ block rest, s.items.register.length < 32 → s.items.pool = block :: rest →
          let number := itemNumber s.settings.host.office block.next
          let entry : RegEntry :=
            { number := number, position := k, accepted := now.minute, postcode := it.fields.postcode
              fragile := it.fields.fragile, signature := it.fields.signature
              irregular := it.fields.irregular, result := r, lines := it.fields.lines
              cls := if r.expressClass = true then .express else .standard
              state := .awaitRelease, attempts := 0, track := none, label := none, reject := none }
          let c := { s.channel k with interlock := true }
          let pool := if block.next < block.last then { block with next := block.next + 1 } :: rest else rest
          let left := (pool.map (fun o => o.last + 1 - o.next)).sum
          let low : Prop := left < s.settings.host.lowWater ∧ s.items.lowMark = false
          let served := s.held i tag .iConfirm
          let done : State :=
            { served with
              items := { s.items with
                slots := s.items.slots.set k .idle, register := s.items.register ++ [entry], pool := pool
                issued := addIssued block.next s.items.issued
                lowMark := if low then true else s.items.lowMark
                confirmed := s.items.confirmed + 1 }
              weighing := { s.weighing with
                channels := s.weighing.channels.set k (if c.capture = none then c else
                  { c with capture := none, disturb := none, limit := none }) }
              gauges := if it.latched = none then s.gauges else
                s.gauges.set k { s.gauges.get k with record := none }
              link := if low then served.link.offer (.numbersLow left pool.length (pool.head?.map (·.next)))
                else served.link }
          exec (.iConfirm tag n) s = .next ((State.settle served done).answer i
            (.ok (.confirmed number (r.total.getD 0) (s.items.register.length + 1)))) ∧
          (s.atRest → State.settle served done = done))))

/-- I_CANCEL and I_VOID (R110, R120): the refusals; a cancelled item gives back its capture, its claimed record
and its rating, and takes no number, its lookup being dropped where it waits and the orphan where it is walked; a
voided item is closed while it awaits release or its lamp is lit, and on the belt it is flagged to be rejected. The
model's choices: what follows on the line is `State.settle` (log 11), the reply comes after it (log 46), another rating
chosen and completed at a cancellation answers first (log 63), and a number that is no item number is named as the field
number (log 29; R120 names no field). -/
def Obligations.ItemCancelledOrVoided : Prop :=
  (∀ (s : State) (i : SlotId) (tag : Byte) (n : Nat) (k : Pos), s.takes i → Pos.ofNumber n = some k →
    let c := { s.channel k with waiting := none }
    let given (it : OpenItem) : State :=
      { s.held i tag .iCancel with
        items := { s.items with slots := s.items.slots.set k .idle }
        weighing := { s.weighing with
          channels := s.weighing.channels.set k (if it.capture = none ∨ c.capture = none then c else
            { c with capture := none, disturb := none, limit := none }) }
        gauges := if it.latched = none then s.gauges else
          s.gauges.set k { s.gauges.get k with record := none } }
    (s.openSlot k = .idle → exec (.iCancel tag n) s = s.refuses i tag .iCancel .noItem) ∧
    (∀ it, (s.openSlot k = .opened it ∨ ∃ r stale, s.openSlot k = .rated it r stale) →
      exec (.iCancel tag n) s = .next ((given it).answer i (.ok .none))) ∧
    (∀ it ph j, s.openSlot k = .rating it ph j →
      (∀ u, s.rating.current = some u → u.req.position ≠ k) → exec (.iCancel tag n) s = .next
        ((((given it).onRating (fun u => { u with
          pendingList := u.pendingList.filter (fun q => q.position != k) })).answer j
            (.refused .cancelled .none)).answer i (.ok .none))) ∧
    (∀ it ph j u, s.openSlot k = .rating it ph j → s.rating.current = some u → u.req.position = k →
      let ends (x : State) : Host.Outcome State Fault Refusal := .next
        (((x.onRating (fun x => { x with current := none })).arbitrate.answer j (.refused .cancelled .none)).answer i
          (.ok .none))
      (s.cache.waiting = none → exec (.iCancel tag n) s = ends ((given it).onRating (fun x => { x with
        orphan := some u.lookup }))) ∧
      (s.cache.waiting ≠ none → exec (.iCancel tag n) s = ends ((given it).onCache (fun x => { x with
        waiting := none }))))) ∧
  (∀ (s : State) (i : SlotId) (tag : Byte) (ds : List Nat), s.takes i →
    let held := s.held i tag .iVoid
    (numberField ds = none → exec (.iVoid tag ds) s = s.refuses i tag .iVoid .badField (.field .number)) ∧
    (∀ n, numberField ds = some n →
      (s.findItem n = none → exec (.iVoid tag ds) s = s.refuses i tag .iVoid .noSuchItem) ∧
      (∀ e, s.findItem n = some e →
        let closed (x : State) : State := (x.onItems (fun m => { m with
          register := m.register.eraseP (fun q => q.number == n), voided := m.voided + 1 })).offer
            (.itemClosed n e.position .voided e.label (e.result.total.getD 0))
        (e.state = .awaitRelease → exec (.iVoid tag ds) s =
          .next ((State.settle held (closed held)).answer i (.ok .voided)) ∧
          (s.atRest → State.settle held (closed held) = closed held)) ∧
        (∀ l, e.state = .released → s.release.lit = some l → l.item = n →
          let dark := (held.onBelt (fun x => { x with queue := x.queue.filter (fun o => match o.body with
            | .reservation _ _ m => m != n
            | .item .. | .stray .. => true) })).onRelease (fun r =>
              if r.pendingMark = true then Release.beginNegotiation { r with lit := none }
              else { r with lit := none })
          exec (.iVoid tag ds) s = .next ((State.settle held (closed dark)).answer i (.ok .voided))) ∧
        (e.state = .onBelt → e.reject.isSome = true →
          exec (.iVoid tag ds) s = s.answers i tag .iVoid (.ok .voidPending)) ∧
        (∀ id, e.state = .onBelt → e.reject = none → e.track = some id → exec (.iVoid tag ds) s =
          .next ((State.settle held (held.flagEntry .voided id)).answer i (.ok .voidPending))))))

/-- The number pool (R113 to R117). N_LOAD: its refusals in order, and the block it appends; that OVERLAP gives the
oldest block, or the lowest range, that conflicts is the model's choice (log 61), and so is it which field a BAD_FIELD
names (log 29). What an issue marks: the ranges issued gain the serial and no other. An item number is accepted as
twelve digits, and no change of one of its digits gives a number that is. -/
def Obligations.NumbersLoadedAndIssued : Prop :=
  (∀ (s : State) (i : SlotId) (tag : Byte) (first count : Nat), s.takes i →
    let last := first + count - 1
    let m := s.items
    ((count < 1 ∨ 1000000 < count) →
      ∃ name, exec (.nLoad tag first count) s = s.refuses i tag .nLoad .badField (.field name)) ∧
    (1 ≤ count → count ≤ 1000000 →
      (9999999 < last → ∃ name,
        exec (.nLoad tag first count) s = s.refuses i tag .nLoad .badField (.field name)) ∧
      (last ≤ 9999999 →
        (4 ≤ m.pool.length → exec (.nLoad tag first count) s = s.refuses i tag .nLoad .poolFull) ∧
        (m.pool.length < 4 →
          (∀ o, m.pool.find? (fun o => decide (first ≤ o.last) && decide (o.first ≤ last)) = some o →
            exec (.nLoad tag first count) s = s.refuses i tag .nLoad .overlap (.serialBlock o)) ∧
          ((∀ o ∈ m.pool, o.last < first ∨ last < o.first) →
            (∀ x, m.issued.find? (fun x => decide (first ≤ x.2) && decide (x.1 ≤ last)) = some x →
              exec (.nLoad tag first count) s = s.refuses i tag .nLoad .overlap (.serialRange x.1 x.2)) ∧
            ((∀ x ∈ m.issued, x.2 < first ∨ last < x.1) →
              (64 < m.issued.length + m.pool.length + 1 →
                exec (.nLoad tag first count) s = s.refuses i tag .nLoad .historyFull) ∧
              (m.issued.length + m.pool.length + 1 ≤ 64 →
                let pool := m.pool ++ [⟨first, last, first⟩]
                let left := (pool.map (fun o => o.last + 1 - o.next)).sum
                exec (.nLoad tag first count) s = (s.onItems (fun m => { m with
                  pool := pool
                  lowMark := m.lowMark && decide (left < s.settings.host.lowWater) })).answers i tag .nLoad
                    (.ok (.remaining left))))))))) ∧
  (∀ (n : Nat) (l : List (Nat × Nat)), (∀ r ∈ l, r.1 ≤ r.2) →
    (∀ x, (∃ r ∈ addIssued n l, r.1 ≤ x ∧ x ≤ r.2) ↔ x = n ∨ ∃ r ∈ l, r.1 ≤ x ∧ x ≤ r.2) ∧
    (∀ r ∈ addIssued n l, r.1 ≤ r.2)) ∧
  (∀ (office serial : Nat), office ≤ 9999 → serial ≤ 9999999 →
    let number := itemNumber office serial
    let ds := digitsOf 12 number
    number / 100000000 = office ∧ number / 10 % 10000000 = serial ∧ numberField ds = some number ∧
    ∀ p d, p < 12 → d ≤ 9 → d ≠ ds.getD p 0 → numberField (ds.set p d) = none)

/-! ## Belt drive and tracking (07_belt_drive_and_tracking.md) -/

/-- BELT_ENCODER_COUNT (R124, R125, R146, R148, R167): the sub-count and the window count move by one, and P moves
with the wrap of the sub-count. At a belt step H follows P forward; P more than 50 mm short of H is a reversal, which
sends TRACKING_LOST and moves H to P; objects that stay at an eye beyond 1,500 mm grow their entries, flag OVERLENGTH
(an ITEM) and flag OVERLAP what they come to overlap; a lit release that has travelled Lres ends with RELEASE_UNUSED;
what follows is `State.settle` (log 11). A reversal leaves no RESERVATION, flags every other entry REVERSED that holds
no flag yet, returns the item of a lit release to AWAIT_RELEASE with one more attempt, and no eye holds an entry. That
a matched entry at the applicator eye does not grow is the model's choice (log 60), and so is that the old stretch of
a growing entry flags nothing anew (log 32). -/
def Obligations.BeltEncoderCounts : Prop :=
  (∀ (s : State) (forward : Bool), s.running = true →
    let sub := if forward then s.belt.sub + 1 else s.belt.sub - 1
    let count := if forward then s.belt.windowCount + 1 else s.belt.windowCount - 1
    let wraps : Prop := if forward then s.belt.sub = 3#2 else s.belt.sub = 0#2
    let p := if forward then s.belt.p + 1 else s.belt.p - 1
    (¬wraps → exec (.beltEncoderCount forward) s = .next (s.onBelt (fun x => { x with
      sub := sub, windowCount := count }))) ∧
    (wraps →
      let counted := s.onBelt (fun x => { x with sub := sub, windowCount := count, p := p })
      let reversed : Prop := ¬(0 < ahead p s.belt.high) ∧ 50 < ahead s.belt.high p
      let high := if 0 < ahead p s.belt.high ∨ reversed then p else s.belt.high
      ∃ t, exec (.beltEncoderCount forward) s = .next t ∧ OffLine s t ∧
        t = State.settle s (Pos.all.foldl State.growInduct counted.markHigh).growApplicator.endUnused ∧
        t.belt.p = p ∧ t.belt.sub = sub ∧ t.belt.windowCount = count ∧ t.belt.high = high ∧
        t.belt.measured = s.belt.measured ∧ t.belt.jamCount = s.belt.jamCount ∧
        t.belt.runTarget = s.belt.runTarget ∧ t.belt.setpoint = s.belt.setpoint ∧
        (s.atRest → s.release.lit = none →
          (¬reversed → t = counted.onBelt (fun x => { x with high := high })) ∧
          (reversed → t = (counted.onBelt (fun x => { x with
            high := p
            eyes := x.eyes.map (fun r => { r with entry := none })
            applicator := { x.applicator with entry := none } })).offer (.trackingLost p s.belt.high))))) ∧
  (∀ (s : State), (s.belt.queue.map (·.id)).Nodup →
    (∀ e ∈ s.reverse.belt.queue, e.isReservation = false ∧ e.flag.isSome = true) ∧
    (∀ e ∈ s.belt.queue, e.isReservation = false → ∃ q ∈ s.reverse.belt.queue, q.id = e.id ∧ q.front = e.front ∧
      q.tail = e.tail ∧ q.flag = if e.flag = none then some .reversed else e.flag) ∧
    (let lit (n : Nat) : Bool := s.release.lit.any (fun l => l.item == n)
     s.reverse.items.register.map (fun q => (q.number, q.state, q.attempts)) = s.items.register.map (fun q =>
      if lit q.number = true then (q.number, .awaitRelease, if q.attempts < 255 then q.attempts + 1 else q.attempts)
      else (q.number, q.state, q.attempts))) ∧
    s.reverse.link = s.link.offer (.trackingLost s.belt.p s.belt.high) ∧
    s.reverse.belt.queue.map (·.id) = (s.belt.queue.filter (fun e => !e.isReservation)).map (·.id) ∧
    s.reverse.release.lit = none ∧ s.reverse.belt.high = s.belt.p ∧
    (∀ k, (s.reverse.belt.eyes.get k).entry = none) ∧ s.reverse.belt.applicator.entry = none) ∧
  (∀ (s : State), s.markHigh =
    if 0 < ahead s.belt.p s.belt.high then s.onBelt (fun x => { x with high := x.p })
    else if 50 < ahead s.belt.high s.belt.p then s.reverse else s) ∧
  (∀ (s : State),
    let grows (r : EyeRecord) : Prop :=
      r.blocked = true ∧ r.passing = false ∧ (r.grown = true ∨ 1500 < ahead s.belt.p r.front)
    let has (r : EyeRecord) (e : Entry) : Prop := r.entry = some e.id ∧ s.findEntry e.id = some e
    let a := s.belt.applicator
    (∀ k, let r := s.belt.eyes.get k
      ((¬grows r ∨ ∀ e, ¬has r e) → s.growInduct k = s) ∧
      (∀ e, grows r → has r e → s.growInduct k = (s.growEntry r e).onBelt (fun x => { x with
        eyes := x.eyes.set k { r with grown := true } }))) ∧
    ((¬grows a ∨ ∀ e, has a e → e.itemNumber?.isSome = true ∨ e.origin.isSome = true) → s.growApplicator = s) ∧
    (∀ e, grows a → has a e → e.itemNumber? = none → e.origin = none →
      s.growApplicator = (s.growEntry a e).onBelt (fun x => { x with applicator := { a with grown := true } })) ∧
    (∀ r e, s.findEntry e.id = some e → (s.belt.queue.map (·.id)).Nodup →
      let t := s.growEntry r e
      let tail := e.front + (s.belt.p - r.front)
      t.belt.queue.map (·.id) = s.belt.queue.map (·.id) ∧ t.belt.eyes = s.belt.eyes ∧
      t.belt.applicator = s.belt.applicator ∧
      ∀ o ∈ s.belt.queue, ∃ q ∈ t.belt.queue, q.id = o.id ∧ q.front = o.front ∧
        (o.id = e.id → q.tail = tail ∧
          (e.itemNumber?.isSome = true → q.flag = (if o.flag = none then some .overlength else o.flag))) ∧
        (o.id ≠ e.id → q.tail = o.tail ∧ q.flag =
          if o.flag = none ∧ stretchesOverlap o.front o.tail e.front tail = true ∧
            stretchesOverlap o.front o.tail e.front e.tail = false then some .overlap else o.flag))) ∧
  (∀ (s : State),
    (s.release.lit = none → s.endUnused = s) ∧
    (∀ l, s.release.lit = some l →
      let ends := l.p0 + BitVec.ofNat 32 s.settings.host.geo.lres
      let off : Release := { s.release with lit := none }
      let r := if s.release.pendingMark = true then off.beginNegotiation else off
      let ended : State := ((s.onBelt (fun q => { q with queue := q.queue.filter (fun e => match e.body with
          | .reservation _ _ m => m != l.item
          | .item .. | .stray .. => true) })).onItems (fun m => { m with
            register := m.register.map (fun e => if e.number = l.item then { e with
              state := .awaitRelease, attempts := if e.attempts < 255 then e.attempts + 1 else e.attempts }
              else e) })).onRelease (fun _ => { r with
                stats := { r.stats with unused :=
                  if r.stats.unused < 4294967295 then r.stats.unused + 1 else r.stats.unused } })
      (ahead s.belt.p ends < 0 → s.endUnused = s) ∧
      (0 ≤ ahead s.belt.p ends → s.endUnused = ended.offer
        (.releaseUnused l.position l.item l.p0 s.belt.p (((ended.findItem l.item).map (·.attempts)).getD 0)))))

/-- RAMP_STEP and SPEED_WINDOW_END (R126 to R128, R133): the timers restart; the ramp moves the setpoint towards
the target by a hundredth of its rate and no further, and ends STARTING and STOPPING; the window gives the
measured speed, and a tenth jam condition in a row sends JAM and takes the emergency-stop path. The model's choices:
the setpoint is kept in hundredths of mm/s (log 10), and what follows on the line is `State.settle` (log 11). -/
def Obligations.RampAndSpeedWindow : Prop :=
  ∀ (s : State), s.running = true →
    let h := s.belt
    let timed := s.onTime (fun x => { x with rampIn := 10 })
    let target := h.target * 100
    let next := if h.setpoint < target then min (h.setpoint + s.settings.host.geo.accel) target
      else max (h.setpoint - s.settings.host.geo.decel) target
    let drive := if h.drive = .starting ∧ next = target then .running
      else if h.drive = .stopping ∧ next = 0 then .stopped else h.drive
    let moved := timed.onBelt (fun x => { x with setpoint := next, drive := drive })
    let told := if drive = h.drive then moved else
      moved.offer (.beltState drive h.reason h.runTarget next h.p)
    ((h.drive = .stopped ∨ h.drive = .estopped) → exec .rampStep s = .next timed) ∧
    (h.drive ≠ .stopped → h.drive ≠ .estopped →
      exec .rampStep s = .next (State.settle timed told) ∧ (s.atRest → State.settle timed told = told)) ∧
    (let measured := (h.windowCount * 5).tdiv 2
    let lags : Prop := 10000 ≤ h.setpoint ∧ measured * 200 < h.setpoint
    let count := if lags then h.jamCount + 1 else 0
    let begun := (s.onTime (fun x => { x with speedIn := 100 })).onBelt (fun x => { x with
      measured := measured, windowCount := 0, jamCount := count })
    (count < 10 → exec .speedWindowEnd s = .next begun) ∧
    (10 ≤ count → ∃ t, exec .speedWindowEnd s = .next t ∧
      t = State.settle (s.onTime (fun x => { x with speedIn := 100 }))
        (((begun.onBelt (fun x => { x with jamCount := 0 })).offer (.jam h.setpoint measured)).estopPath .jam) ∧
      t.belt.drive = .estopped ∧ t.belt.reason = .jam ∧ t.belt.setpoint = 0 ∧ t.belt.target = 0 ∧
      t.belt.jamCount = 0 ∧ t.belt.measured = measured ∧ t.belt.windowCount = 0))

/-- B_RUN (R129, R130): refused with STOPPING or ESTOPPED; else the speed is limited to 100 to Vmax, CLAMPED when
that changed it, and takes effect by the drive state. The model's choices: what follows on the line is `State.settle`
(log 11), the reply comes after it (log 46), and an OK carries the speed as CLAMPED does (log 42). -/
def Obligations.BeltRuns : Prop :=
  ∀ (s : State) (i : SlotId) (tag : Byte) (speed : Nat), s.takes i →
    let h := s.belt
    let host := s.settings.host
    let root (v : Nat) : Prop := v * v ≤ 2 * host.geo.decel * (host.geo.slow - host.geo.tol) ∧
      2 * host.geo.decel * (host.geo.slow - host.geo.tol) < (v + 1) * (v + 1)
    let printMs := (host.labelLength * 1000 + host.printSpeed - 1) / host.printSpeed
    (∀ v, root v → v < 65536 →
      host.vmax = min 1000 (min (host.geo.pitch * 1000 / (printMs + host.applyMs)) v)) ∧
    (h.drive = .stopping → exec (.bRun tag speed) s = s.refuses i tag .bRun .stopping) ∧
    (h.drive = .estopped → exec (.bRun tag speed) s = s.refuses i tag .bRun .estopped) ∧
    (h.drive ≠ .stopping → h.drive ≠ .estopped → 100 ≤ host.vmax →
      let used := if speed < 100 then 100 else if host.vmax < speed then host.vmax else speed
      let served := s.held i tag .bRun
      let run := match h.drive, h.reason with
        | .stopped, .labelWait | .creeping, _ => served.onBelt (fun x => { x with runTarget := used })
        | .stopped, _ => (served.onBelt (fun x => { x with
            drive := .starting, reason := .none, runTarget := used, target := used })).offer
              (.beltState .starting .none used h.setpoint h.p)
        | _, _ => served.onBelt (fun x => { x with runTarget := used, target := used })
      exec (.bRun tag speed) s = .next ((State.settle served run).answer i
        (if used = speed then .ok (.speed used) else .clamped (.speed used))) ∧
      (s.atRest → State.settle served run = run))

/-- B_STOP (R131): a controlled stop in every drive state but ESTOPPED, where it is refused. -/
def Obligations.BeltStops : Prop :=
  ∀ (s : State) (i : SlotId) (tag : Byte), s.takes i →
    (s.belt.drive = .estopped → exec (.bStop tag) s = s.refuses i tag .bStop .estopped) ∧
    (s.belt.drive ≠ .estopped → ∃ t, exec (.bStop tag) s = .next t ∧ OffLine s t ∧
      ((s.belt.drive = .starting ∨ s.belt.drive = .running ∨ s.belt.drive = .creeping) →
        t.belt.drive = .stopping ∧ t.belt.target = 0) ∧
      ((s.belt.drive = .stopping ∨ s.belt.drive = .stopped) →
        t.belt.drive = s.belt.drive ∧ t.belt.target = s.belt.target) ∧
      t.belt.reason = .host ∧ t.belt.waitEntry = none ∧ t.belt.runTarget = s.belt.runTarget ∧
      t.belt.setpoint = s.belt.setpoint ∧ t.belt.p = s.belt.p ∧
      t.link.slots = (s.replied i tag .bStop (.ok .none)).slots ∧
      t.link.ready = (s.replied i tag .bStop (.ok .none)).ready)

/-- The emergency stop input and B_RESET (R127, R132, R134, R186). An assertion outside ESTOPPED stops the drive at
once, removes every RESERVATION, ends the lit release, whose item returns to AWAIT_RELEASE with one more attempt,
flags the ITEMs not APPLIED with ESTOP (a flag held stays) and sends a tamp in EXTEND or DWELL into RETRACT; what
follows is `State.settle` (log 11). In ESTOPPED it only reports the input, as a release does (log 12); on a part that
is not running the input is only followed (log 21). B_RESET leaves ESTOPPED for STOPPED, and its BELT_STATE is offered
before its reply (the model's choice, log 46). -/
def Obligations.EmergencyStop : Prop :=
  ∀ (s : State),
    let told (x : State) : State := x.offer
      (.beltState x.belt.drive x.belt.reason x.belt.runTarget x.belt.setpoint x.belt.p)
    let seen (v : Bool) : State := s.onPins (fun x => { x with estop := v })
    (s.pins.estop = true → exec .emergencyStopAsserted s = .next s) ∧
    (s.pins.estop = false → s.running = true → s.belt.drive = .estopped →
      exec .emergencyStopAsserted s = .next (told (seen true))) ∧
    (s.pins.estop = false → s.running = true → s.belt.drive ≠ .estopped →
      ∃ t u, exec .emergencyStopAsserted s = .next t ∧ t = State.settle s (told u) ∧
        ((s.belt.queue.map (·.id)).Nodup →
          u.belt.queue.map (·.id) = (s.belt.queue.filter (fun e => !e.isReservation)).map (·.id) ∧
          ∀ e ∈ s.belt.queue, e.isReservation = false → ∃ q ∈ u.belt.queue, q.id = e.id ∧ q.front = e.front ∧
            q.tail = e.tail ∧ q.flag = (if e.flag = none ∧ e.itemNumber?.isSome = true ∧ e.label? ≠ some .applied
              then some .estop else e.flag)) ∧
        (let lit (n : Nat) : Bool := s.release.lit.any (fun l => l.item == n)
         u.items.register.map (fun q => (q.number, q.state, q.attempts)) = s.items.register.map (fun q =>
          if lit q.number = true then (q.number, .awaitRelease, if q.attempts < 255 then q.attempts + 1 else q.attempts)
          else (q.number, q.state, q.attempts))) ∧
        (∀ e n, (s.label.tamp = .extend e n ∨ s.label.tamp = .dwell e n) →
          u.label.tamp = .retract e (s.settings.host.applyMs * 2 / 5)) ∧
        (∀ e n, s.label.tamp = .retract e n → u.label.tamp = .retract e n) ∧
        t.pins = { s.pins with estop := true } ∧
        OffLine (seen true) t ∧ t.belt.drive = .estopped ∧ t.belt.reason = .estop ∧ t.belt.setpoint = 0 ∧
        t.belt.target = 0 ∧ t.belt.waitEntry = none ∧ t.belt.p = s.belt.p ∧
        t.belt.runTarget = s.belt.runTarget ∧ t.release.lit = none ∧
        (∀ e ∈ t.belt.queue, e.isReservation = false) ∧
        (s.belt.queue = [] → s.release.lit = none → s.label.tamp = .retracted → s.label.diverter = .pass →
          (s.release.state = .idle ∨ s.release.state = .negotiating) →
          let stopped := (seen true).onBelt (fun x => { x with
            drive := .estopped, reason := .estop, setpoint := 0, target := 0, waitEntry := none })
          t = told (told stopped))) ∧
    (s.pins.estop = false → exec .emergencyStopReleased s = .next s) ∧
    (s.pins.estop = true → s.running = true →
      exec .emergencyStopReleased s = .next (told (seen false))) ∧
    (s.running = false → s.pins.estop = false → exec .emergencyStopAsserted s = .next (seen true)) ∧
    (s.running = false → s.pins.estop = true → exec .emergencyStopReleased s = .next (seen false)) ∧
    (∀ i tag, s.takes i →
      (s.belt.drive ≠ .estopped → exec (.bReset tag) s = s.refuses i tag .bReset .notEstopped) ∧
      (s.belt.drive = .estopped → s.pins.estop = true →
        exec (.bReset tag) s = s.refuses i tag .bReset .estopActive) ∧
      (s.belt.drive = .estopped → s.pins.estop = false → exec (.bReset tag) s = .next
        ((told ((s.held i tag .bReset).onBelt (fun x => { x with drive := .stopped }))).answer i (.ok .none))))

/-- The edges at the eyes (R121, R143 to R148). A front edge makes the eye BLOCKED at P and finds its object: passing
(the first such entry, log 27), a released parcel inducted, or a stray, which flags OVERLAP what it overlaps and is
inserted while the queue has room; at the applicator the heads that should have arrived are removed, each ITEM of them
closed MISSING with its label lost and an interrupted job for it given up (R176), and then the head is matched, or the
object is unknown. A trailing edge clears the eye and measures its object. P, the drive's speed and the other eyes
stay. An inducted ITEM takes the RESERVATION's item and flag and stands where its front places it; a label on the pad
may then be displaced. The model's choices: ids and the matched mark of an unknown object (log 18), the label of an
ITEM inducted with a flag, SKIPPED at once (log 33), the label state in the report of a MISSING item, that from before
its label is lost (log 19), the front P that a cleared eye keeps (log 48), the signed length (log 44), the matched
entry that nothing changes (log 60), and what follows, `State.settle` (log 11). -/
def Obligations.EyeEdges : Prop :=
  (∀ (s : State) (k : Pos), s.running = true →
    let due := s.belt.p + BitVec.ofNat 32 (s.settings.host.geo.d.get k)
    let tail := due + 1500
    let blocked (id : Option Nat) (passing : Bool) : EyeRecord := ⟨true, s.belt.p, id, passing, false⟩
    let held (x : State) (r : EyeRecord) : State := x.onBelt (fun q => { q with eyes := q.eyes.set k r })
    ((s.belt.eyes.get k).blocked = true → exec (.inductEyeFrontEdge k) s = .next s) ∧
    ((s.belt.eyes.get k).blocked = false →
      (∀ e, s.belt.queue.find? (fun e => e.origin.any (fun o => decide (o.number < k.number)) &&
          decide ((ahead e.front due).natAbs ≤ s.settings.host.geo.tol)) = some e →
        exec (.inductEyeFrontEdge k) s = .next (held s (blocked (some e.id) true))) ∧
      (∀ a z id f t flag p0 n, s.belt.queue = a ++ ⟨id, f, t, flag, .reservation k p0 n⟩ :: z →
        (∀ e ∈ a, ∀ p0 n, e.body ≠ .reservation k p0 n) → (s.belt.queue.map (·.id)).Nodup →
        s.belt.queue.find? (fun e => e.origin.any (fun o => decide (o.number < k.number)) &&
          decide ((ahead e.front due).natAbs ≤ s.settings.host.geo.tol)) = none →
        let item : Entry := ⟨id, due, tail, flag, .item n k none .notStarted false false⟩
        let mirrored := (held (s.onBelt (fun q => { q with queue := insertEntry q.p item (a ++ z) }))
          (blocked (some id) false)).onItems (fun m => { m with register := m.register.map (fun q =>
            if q.number = n then { q with state := .onBelt, track := some id, label := some .notStarted } else q) })
        let inducted := mirrored.onRelease (fun r =>
          if r.lit.any (fun l => l.item == n) = true then r.endLit else r)
        let flagged (r : RejectReason) : State := (inducted.onItems (fun m => { m with
          register := m.register.map (fun q => if q.number = n then { q with reject := some r } else q)
          })).setLabel id .skipped
        let follows (u : State) : Prop :=
          exec (.inductEyeFrontEdge k) s = .next (State.settle s u.displace) ∧
          ((∀ x, s.label.pad ≠ .holding x) → exec (.inductEyeFrontEdge k) s = .next (State.settle s u))
        (flag = none → follows inducted) ∧ (∀ r, flag = some r → follows (flagged r))) ∧
      (s.belt.queue = [] →
        let stray : Entry := ⟨s.belt.nextId, due, tail, some .unknown, .stray (some k) false⟩
        exec (.inductEyeFrontEdge k) s = .next (State.settle s ((held (s.onBelt (fun q => { q with
          queue := [stray], nextId := q.nextId + 1 })) (blocked (some s.belt.nextId) false)).offer
            (.stray (some k) s.belt.p due tail true 0)))) ∧
      (s.belt.queue.find? (fun e => e.origin.any (fun o => decide (o.number < k.number)) &&
          decide ((ahead e.front due).natAbs ≤ s.settings.host.geo.tol)) = none →
        (∀ e ∈ s.belt.queue, ∀ p0 n, e.body ≠ .reservation k p0 n) → (s.belt.queue.map (·.id)).Nodup →
        let hit (e : Entry) : Bool := e.flag.isNone && stretchesOverlap e.front e.tail due tail
        let fits := decide (s.belt.queue.length < 24)
        ∃ u, exec (.inductEyeFrontEdge k) s = .next (State.settle s u) ∧
          u.belt.eyes = s.belt.eyes.set k (blocked (if fits then some s.belt.nextId else none) false) ∧
          (∀ e ∈ s.belt.queue, ∃ q ∈ u.belt.queue, q.id = e.id ∧ q.front = e.front ∧ q.tail = e.tail ∧
            q.flag = if hit e = true then some .overlap else e.flag) ∧
          (fits = true → u.belt.queue.length = s.belt.queue.length + 1 ∧ u.belt.nextId = s.belt.nextId + 1 ∧
            ⟨s.belt.nextId, due, tail, some .unknown, .stray (some k) false⟩ ∈ u.belt.queue) ∧
          (fits = false → u.belt.queue.length = s.belt.queue.length ∧ u.belt.nextId = s.belt.nextId) ∧
          u.link = (if fits then s.link else s.link.offer .queueFull).offer
            (.stray (some k) s.belt.p due tail fits (s.belt.queue.filter hit).length)) ∧
      (∃ t, exec (.inductEyeFrontEdge k) s = .next t ∧ OffLine s t ∧ (t.belt.eyes.get k).blocked = true ∧
        (t.belt.eyes.get k).front = s.belt.p ∧ (∀ j, j ≠ k → t.belt.eyes.get j = s.belt.eyes.get j) ∧
        t.belt.p = s.belt.p ∧ t.belt.setpoint = s.belt.setpoint)) ∧
    ((s.belt.eyes.get k).blocked = false → exec (.inductEyeTrailingEdge k) s = .next s) ∧
    ((s.belt.eyes.get k).blocked = true →
      let r := s.belt.eyes.get k
      let cleared := held s ⟨false, r.front, none, false, false⟩
      ((r.entry = none ∨ r.passing = true) → exec (.inductEyeTrailingEdge k) s = .next cleared) ∧
      (∀ id, r.entry = some id → r.passing = false → exec (.inductEyeTrailingEdge k) s = .next
        (State.settle s (cleared.onBelt (fun q => { q with queue := q.queue.map (fun e => if e.id = id then
          { e.withLength (ahead s.belt.p r.front) with tail := e.front + (s.belt.p - r.front) }
          else e) })))))) ∧
  (∀ (s : State), s.running = true →
    let blocked (id : Option Nat) : EyeRecord := ⟨true, s.belt.p, id, false, false⟩
    (s.belt.applicator.blocked = true → exec .applicatorEyeFrontEdge s = .next s) ∧
    (s.belt.applicator.blocked = false →
      (s.belt.queue = [] →
        let stray : Entry := ⟨s.belt.nextId, s.belt.p, s.belt.p + 1500, some .unknown, .stray none true⟩
        exec .applicatorEyeFrontEdge s = .next (State.settle s ((s.onBelt (fun q => { q with
          queue := [stray], nextId := q.nextId + 1, applicator := blocked (some s.belt.nextId) })).offer
            (.stray none s.belt.p s.belt.p (s.belt.p + 1500) true 0)))) ∧
      (∀ e n o l, s.belt.queue = [e] → e.body = .item n o l .presented false false → e.flag = none →
        s.label.pad = .holding e.id → ¬(ahead (e.front + BitVec.ofNat 32 s.settings.host.geo.tol) s.belt.p < 0) →
        ahead e.front s.belt.p ≤ s.settings.host.geo.tol →
        exec .applicatorEyeFrontEdge s = .next (State.settle s ((s.onBelt (fun q => { q with
          queue := [{ e with body := .item n o l .presented true false }]
          applicator := blocked (some e.id) })).onLabel (fun u => { u with
            tamp := .armed e.id (s.belt.p + BitVec.ofNat 32 s.settings.host.geo.aOff) })))) ∧
      (∀ u, State.removeMissing s.belt.queue.length s = u →
        ((∀ e, u.head = some e → (s.settings.host.geo.tol : Int) < ahead e.front u.belt.p) →
          exec .applicatorEyeFrontEdge s = .next (State.settle s u.unknownObject)) ∧
        (∀ e, u.head = some e → ahead e.front u.belt.p ≤ s.settings.host.geo.tol →
          let marked := u.onBelt (fun q => { q with
            queue := q.queue.map (fun x => if x.id = e.id then x.asMatched else x)
            applicator := blocked (some e.id) })
          (e.itemNumber? = none → exec .applicatorEyeFrontEdge s = .next (State.settle s marked)) ∧
          (e.itemNumber?.isSome = true →
            exec .applicatorEyeFrontEdge s = .next (State.settle s (marked.matchLabel e))))) ∧
      (∃ t, exec .applicatorEyeFrontEdge s = .next t ∧ OffLine s t ∧ t.belt.applicator.blocked = true ∧
        t.belt.applicator.front = s.belt.p ∧ t.belt.eyes = s.belt.eyes ∧ t.belt.p = s.belt.p ∧
        t.belt.setpoint = s.belt.setpoint)) ∧
    (s.belt.applicator.blocked = false → exec .applicatorEyeTrailingEdge s = .next s) ∧
    (s.belt.applicator.blocked = true →
      let r := s.belt.applicator
      let cleared := s.onBelt (fun q => { q with applicator := ⟨false, r.front, none, false, false⟩ })
      ((∀ id e, r.entry = some id → s.findEntry id = some e →
          e.itemNumber?.isSome = true ∨ e.origin.isSome = true) →
        exec .applicatorEyeTrailingEdge s = .next cleared) ∧
      (∀ id e, r.entry = some id → s.findEntry id = some e → e.body = .stray none e.matched →
        exec .applicatorEyeTrailingEdge s = .next (State.settle s (cleared.onBelt (fun q => { q with
          queue := q.queue.map (fun x => if x.id = id then
            { x.withLength (ahead s.belt.p r.front) with tail := x.front + (s.belt.p - r.front) }
            else x) })))))) ∧
  (∀ (p : Coord) (e : Entry) (l : List Entry), ∃ a z, l = a ++ z ∧ insertEntry p e l = a ++ e :: z ∧
    (∀ x ∈ a, ahead x.front p ≤ ahead e.front p) ∧ (∀ x y, z = x :: y → ahead e.front p < ahead x.front p)) ∧
  (∀ (s : State),
    let p := s.belt.p
    let stray : Entry := ⟨s.belt.nextId, p, p + 1500, some .unknown, .stray none true⟩
    let blocked (id : Option Nat) (x : State) : State := x.onBelt (fun q => { q with
      applicator := ⟨true, p, id, false, false⟩ })
    s.head = s.belt.queue.find? (fun e => !e.isReservation && !e.matched) ∧
    (s.belt.queue.length < 24 → s.unknownObject = (blocked (some s.belt.nextId) (s.onBelt (fun q => { q with
      queue := insertEntry p stray q.queue, nextId := q.nextId + 1 }))).offer (.stray none p p (p + 1500) true 0)) ∧
    (24 ≤ s.belt.queue.length → s.unknownObject =
      ((blocked none s).offer .queueFull).offer (.stray none p p (p + 1500) false 0)) ∧
    (∀ n, let late (e : Entry) : Prop := ahead (e.front + BitVec.ofNat 32 s.settings.host.geo.tol) p < 0
      ((∀ e, s.head = some e → ¬late e) → State.removeMissing (n + 1) s = s) ∧
      (∀ e, s.head = some e → late e → State.removeMissing (n + 1) s = State.removeMissing n (s.dropMissing e))) ∧
    (∀ e, let removed (x : State) : State := (x.onBelt (fun q => { q with
        queue := q.queue.filter (fun o => o.id != e.id) })).onLabel (fun u => { u with
          job := u.job.filter (fun j => !(j.entry == e.id && j.interrupted)) })
      (e.itemNumber? = none → s.dropMissing e = removed s) ∧
      (∀ n r, e.itemNumber? = some n → s.findItem n = some r → s.findEntry e.id = some e →
        let up (n : Nat) : Nat := if n < 4294967295 then n + 1 else n
        let closed := (s.onItems (fun m => { m with
          register := m.register.eraseP (fun q => q.number == n), missing := m.missing + 1 })).offer
            (.itemClosed n r.position .missing r.label (r.result.total.getD 0))
        (e.label? = some .notStarted → s.dropMissing e = removed (closed.setLabel e.id .skipped)) ∧
        (∀ j, e.label? = some .printing → s.label.job = some j → j.entry = e.id →
          s.dropMissing e = removed ((closed.setLabel e.id .wasted).onLabel (fun u => { u with
            job := if j.interrupted then none else some { j with waste := true }
            stats := { u.stats with wasted := up u.stats.wasted } }))) ∧
        (e.label? = some .presented → s.label.pad = .holding e.id →
          s.dropMissing e = removed ((closed.eject (some e.id) .wasted).onLabel (fun u => { u with
            tamp := match u.tamp with
              | .armed a p => if a = e.id then .retracted else .armed a p
              | t => t }))) ∧
        ((e.label? = some .applied ∨ e.label? = some .skipped ∨ e.label? = some .wasted) →
          s.dropMissing e = removed closed))))

/-- What follows from an event on the line (R121, R135, R136, R140, R147, R149, R163, R170, R174, R176, R180, R187;
the order is the model's, log 11): what it never touches, that nothing follows at rest, the JOB of the first unprinted
item of the queue with its record, and when no job is sent, the creep and the label-wait stop of an item that comes
near with its label late, the end of CREEPING when no such item is left, into STARTING and, at the run target, RUNNING
at once (R135; that each has its notice is log 13's choice), the restart when the label-wait entry's label is
PRESENTED or the entry is flagged or gone, the suspension of the Release Controller with the drive, the candidate it
keeps meanwhile, when a waiting candidate asks again, and each entry's retirement: not before its point is passed,
after the verdict of its tamp cycle, a STRAY without a report, a matched ITEM closed LABELLED, REJECTED with its
reason or REJECTED NO_LABEL, an unmatched one MISSING; an interrupted job of the entry is given up. -/
def Obligations.LineFollows : Prop :=
  (∀ (before s : State), LineFrame s (State.settle before s)) ∧
  (∀ (before s : State), s.atRest → State.settle before s = s) ∧
  (∀ e : Entry, e.unprinted = true ↔ (∃ n k len m, e.body = .item n k len .notStarted false m) ∧ e.flag = none) ∧
  (∀ (s : State) (a z : List Entry) (e : Entry) (r : RegEntry) (n : Nat), s.label.printer = .ready →
    s.label.pad = .empty → s.label.job = none → s.belt.queue = a ++ e :: z → (s.belt.queue.map (·.id)).Nodup →
    (∀ x ∈ a, x.unprinted = false) → e.unprinted = true → e.itemNumber? = some n → s.findItem n = some r →
    let time := (s.settings.host.labelLength * 1000 + s.settings.host.printSpeed - 1) /
      s.settings.host.printSpeed + 500
    s.printOrder = ((s.onBelt (fun q => { q with queue := a ++ e.withLabel .printing :: z })).onItems (fun m => { m with
      register := m.register.map (fun q => if q.number = n then { q with label := some .printing } else q)
      })).onLabel (fun u => { u with
        printer := .printing, job := some ⟨e.id, jobRecord r, time, false, false⟩
        sent := some (.job (jobRecord r))
        stats := { u.stats with jobs := if u.stats.jobs < 4294967295 then u.stats.jobs + 1 else u.stats.jobs } })) ∧
  (∀ (s : State), (s.label.printer ≠ .ready ∨ s.label.pad ≠ .empty ∨ s.label.job ≠ none ∨
    ∀ e ∈ s.belt.queue, e.unprinted = false) → s.printOrder = s) ∧
  (∀ (r : RegEntry) (service : Nat × List Byte) (zone : Nat × (Byte × Byte)) (cw total : Nat),
    r.result.service = some service → r.result.zone = some zone → r.result.cw = some cw →
    r.result.total = some total →
    jobRecord r = { number := r.number, name := service.2, sort := zone.2, zone := zone.1, postcode := r.postcode
                    cw := cw, total := total, paid := decide (0 < total), accepted := r.accepted
                    office := r.number / 100000000, position := r.position, fragile := r.fragile
                    signature := r.signature, keyed := r.result.keyed, lines := r.lines }) ∧
  (∀ (s : State),
    let moving : Prop := s.belt.drive = .starting ∨ s.belt.drive = .running ∨ s.belt.drive = .creeping
    let near (e : Entry) : Prop :=
      s.belt.queue.find? (fun e => e.itemNumber?.isSome && e.flag.isNone && !e.matched) = some e ∧
      e.label? ≠ some .presented ∧ ahead e.front s.belt.p ≤ s.settings.host.geo.slow
    let told (x : State) : State := x.offer
      (.beltState x.belt.drive x.belt.reason x.belt.runTarget x.belt.setpoint x.belt.p)
    (¬moving → s.judgeCreep = s) ∧
    (∀ e, moving → near e → (∀ f, s.label.printer ≠ .fault f) →
      s.judgeCreep = if s.belt.drive = .creeping then s else
        told (s.onBelt (fun q => { q with drive := .creeping, target := 100 }))) ∧
    (∀ e f, moving → near e → s.label.printer = .fault f → s.judgeCreep = told (s.onBelt (fun q => { q with
      drive := .stopping, target := 0, reason := .labelWait, waitEntry := some e.id }))) ∧
    ((∀ e, ¬near e) → s.belt.drive ≠ .creeping → s.judgeCreep = s) ∧
    ((∀ e, ¬near e) → s.belt.drive = .creeping →
      let starting := told (s.onBelt (fun q => { q with drive := .starting, target := q.runTarget }))
      s.judgeCreep = if s.belt.setpoint = s.belt.runTarget * 100 then
        told (starting.onBelt (fun q => { q with drive := .running })) else starting)) ∧
  (∀ (s : State),
    let ended : Prop := ∃ id, s.belt.waitEntry = some id ∧
      (s.findEntry id = none ∨ ∃ e, s.findEntry id = some e ∧ (e.flag.isSome = true ∨ e.label? = some .presented))
    let restarted := s.onBelt (fun q => { q with
      drive := .starting, target := q.runTarget, reason := .none, waitEntry := none })
    ((s.belt.reason ≠ .labelWait ∨ ¬ended) → s.labelWaitRestart = s) ∧
    (s.belt.reason = .labelWait → ended → (s.belt.drive = .stopping ∨ s.belt.drive = .stopped) →
      s.labelWaitRestart = restarted.offer
        (.beltState .starting .none s.belt.runTarget s.belt.setpoint s.belt.p))) ∧
  (∀ (d : Drive) (r : Release),
    (d.moving = true ↔ d = .starting ∨ d = .running ∨ d = .creeping) ∧
    ((d = .stopping ∨ d = .stopped ∨ d = .estopped) → r.state = .rotating →
      r.follow d.moving = { r with state := .suspended }) ∧
    ((d = .starting ∨ d = .running ∨ d = .creeping) → r.state = .suspended →
      r.follow d.moving = { r with state := .rotating }) ∧
    ((d = .starting ∨ d = .running ∨ d = .creeping) → r.state = .rotating → r.follow d.moving = r) ∧
    ((d = .stopping ∨ d = .stopped ∨ d = .estopped) → r.state = .suspended → r.follow d.moving = r) ∧
    ((r.state = .idle ∨ r.state = .negotiating) → r.follow d.moving = r)) ∧
  (∀ (s : State) (again : Bool),
    ((s.release.state = .idle ∨ s.release.state = .negotiating) → s.settleRelease again = s) ∧
    (s.release.state = .suspended →
      (s.release.candidate = none → s.settleRelease again = s) ∧
      (∀ c, s.release.candidate = some c →
        ((∃ e ∈ s.items.register, e.number = c.item ∧ e.state = .awaitRelease) → s.settleRelease again = s) ∧
        ((∀ e ∈ s.items.register, e.number = c.item → e.state ≠ .awaitRelease) →
          s.settleRelease again = s.onRelease (fun r => { r with candidate := none }))))) ∧
  (∀ (before now : State), State.asksAgain before now = true ↔
    before.belt.p ≠ now.belt.p ∨ (∃ e ∈ before.belt.queue, ∀ f ∈ now.belt.queue, f.id ≠ e.id) ∨
    (before.release.state = .suspended ∧ now.release.state = .rotating)) ∧
  (∀ (before s : State),
    let judged := s.fireTamp.retireAll.printOrder.labelWaitRestart.judgeCreep
    let followed := judged.onRelease (fun r => r.follow judged.belt.drive.moving)
    State.settle before s = (followed.settleRelease (State.asksAgain before followed)).divert) ∧
  (∀ (s : State), s.retireAll = (s.belt.queue.map (·.id)).foldl State.retireStep s) ∧
  (∀ (s : State) (e : Entry), s.findEntry e.id = some e →
    let due : Prop := e.retireMarked = true ∨
      0 < ahead s.belt.p (e.tail + BitVec.ofNat 32 (s.settings.host.geo.dDiv + 100))
    let cycle : Prop := ∃ n p, s.label.tamp = .armed e.id p ∨ s.label.tamp = .extend e.id n ∨
      s.label.tamp = .dwell e.id n ∨ s.label.tamp = .retract e.id n
    let removed (x : State) : State := (x.onBelt (fun q => { q with
      queue := q.queue.filter (fun o => o.id != e.id) })).onLabel (fun u => { u with
        job := u.job.filter (fun j => !(j.entry == e.id && j.interrupted)) })
    ((e.isReservation = true ∨ ¬due) → s.retireStep e.id = s) ∧
    (e.isReservation = false → due → cycle → s.retireStep e.id = s.onBelt (fun q => { q with
      queue := q.queue.map (fun o => if o.id = e.id then o.asRetireDue else o) })) ∧
    (e.isReservation = false → due → ¬cycle →
      (e.itemNumber? = none → s.retireStep e.id = removed s) ∧
      (∀ n, e.itemNumber? = some n → e.matched = false → s.retireStep e.id = s.dropMissing e) ∧
      (∀ n r, e.itemNumber? = some n → e.matched = true → s.findItem n = some r →
        let closes (o : ItemOutcome) (f : Items → Items) : Prop := s.retireStep e.id =
          removed ((s.onItems (fun m => f { m with register := m.register.eraseP (fun q => q.number == n) })).offer
            (.itemClosed n r.position o r.label (r.result.total.getD 0)))
        let rejected (m : Items) : Items := { m with rejected := m.rejected + 1 }
        (∀ why, e.flag = some why → closes (.rejected why) rejected) ∧
        (e.flag = none → e.label? = some .applied →
          closes .labelled (fun m => { m with labelled := m.labelled + 1 })) ∧
        (e.flag = none → e.label? ≠ some .applied → closes (.rejected .noLabel) rejected)))) ∧
  (∀ (s : State) (e : Entry), s.belt.queue = [e] → e.isReservation = false →
    0 < ahead s.belt.p (e.tail + BitVec.ofNat 32 (s.settings.host.geo.dDiv + 100)) → s.label.tamp = .retracted →
    s.retireAll.belt.queue = [])

/-! ## Induction release (08_induction_release.md) -/

/-- P_OPEN and P_CLOSE (R154 to R157, R165, R168): a position is staffed with its request, limited to the range,
or unstaffed, which ends its lit release first; a negotiation is then called for, or IDLE entered. The model's choices:
what follows on the line is `State.settle` (log 11) and the reply comes last (log 46), an OK carries the time in force
(log 42), an X above 3 is named as the field x (log 29; R154 names no field), TTRT and the late flags stand in
NEGOTIATING (log 47), and IDLE clears the negotiation timer and the visit record (log 69). -/
def Obligations.PositionRequests : Prop :=
  ∀ (s : State) (i : SlotId) (tag : Byte) (n : Nat) (k : Pos), s.takes i → Pos.ofNumber n = some k →
    let parked (r : Release) : Release := { r with
      state := .negotiating, negotiation := 100, pendingMark := false, token := none, tht := 0, express := 0
      visited := [], waitMark := false, candidate := none
      places := r.places.map (fun p => { p with mode := .stopped }) }
    let idled (r : Release) : Release := { r with
      state := .idle, negotiation := 0, pendingMark := false, ttrt := none, token := none, tht := 0, express := 0
      visited := [], waitMark := false, candidate := none
      places := r.places.map (fun p => { p with mode := .stopped, late := false }) }
    let called (r : Release) : Release :=
      if r.pendingMark = true then r
      else if r.state = .negotiating then { r with negotiation := 100 }
      else if r.lit.isSome then { r with pendingMark := true }
      else parked r
    let p := s.release.places.get k
    (∀ treq x,
      let x' := x.getD (s.settings.host.defaults.get k).2
      let asked := treq.getD (s.settings.host.defaults.get k).1
      let used := if asked < 2000 then 2000 else if 60000 < asked then 60000 else asked
      let opened : Place := if p.staffed then { p with treq := used, x := x' }
        else { p with staffed := true, treq := used, x := x', mode := .stopped, late := false }
      let served := s.held i tag .pOpen
      let done := served.onRelease (fun r => called { r with places := r.places.set k opened })
      (3 < x' → exec (.pOpen tag n treq x) s = s.refuses i tag .pOpen .badField (.field .x)) ∧
      (x' ≤ 3 →
        exec (.pOpen tag n treq x) s = .next ((State.settle served done).answer i
          (if used = asked then .ok (.milliseconds used) else .clamped (.milliseconds used))) ∧
        (s.atRest → State.settle served done = done))) ∧
    (let served := s.held i tag .pClose
      let shut (r : Release) : Release :=
        let c := { r with places := r.places.set k { r.places.get k with
          staffed := false, mode := .stopped, late := false } }
        if Pos.all.all (fun j => !(c.places.get j).staffed) = true then idled c else called c
      let close (x : State) : Host.Outcome State Fault Refusal :=
        .next ((State.settle served (x.onRelease shut)).answer i (.ok .none))
      (p.staffed = false → exec (.pClose tag n) s = s.refuses i tag .pClose .notStaffed) ∧
      (p.staffed = true → s.release.lit.all (fun l => l.position != k) = true →
        exec (.pClose tag n) s = close served ∧
        (s.atRest → State.settle served (served.onRelease shut) = served.onRelease shut)) ∧
      (∀ l, p.staffed = true → s.release.lit = some l → l.position = k →
        let removed := served.onBelt (fun q => { q with queue := q.queue.filter (fun e => match e.body with
          | .reservation _ _ m => m != l.item
          | .item .. | .stray .. => true) })
        let back := removed.onItems (fun m => { m with register := m.register.map (fun e =>
          if e.number = l.item then { e with
            state := .awaitRelease, attempts := if e.attempts < 255 then e.attempts + 1 else e.attempts } else e) })
        exec (.pClose tag n) s = close (back.onRelease (fun r =>
          if r.pendingMark = true then parked { r with lit := none } else { r with lit := none }))))

/-- The timers of the Release Controller and the pass of the token (R157 to R161, R163). The model's choices: an
expiry takes effect only while its timer runs (log 20), what follows on the line is `State.settle` (log 11), and IDLE
clears the negotiation timer and the visit record (log 69). The token passes to the staffed position that comes next
in ascending order, where it arrives early with what its timer holds, or late with nothing. -/
def Obligations.ReleaseTimers : Prop :=
  ∀ (s : State), s.running = true →
    let r := s.release
    let runs : Prop := s.belt.drive = .starting ∨ s.belt.drive = .running ∨ s.belt.drive = .creeping
    let after (f : Release → Release) : Host.Outcome State Fault Refusal := .next (State.settle s (s.onRelease f))
    let up (n : Nat) : Nat := if n < 4294967295 then n + 1 else n
    let staffed (k : Pos) : Prop := (r.places.get k).staffed = true
    let lowest (k : Pos) : Bool := (r.places.get k).staffed &&
      Pos.all.all (fun j => !(r.places.get j).staffed || decide (k.number ≤ j.number))
    (r.state ≠ .negotiating → exec .negotiationTimerExpiry s = .next s) ∧
    (r.state = .negotiating → (∀ k, ¬staffed k) → exec .negotiationTimerExpiry s = after (fun r => { r with
      state := .idle, negotiation := 0, pendingMark := false, ttrt := none, token := none, tht := 0, express := 0
      visited := [], waitMark := false, candidate := none
      places := r.places.map (fun p => { p with mode := .stopped, late := false }) })) ∧
    (∀ k t, r.state = .negotiating → lowest k = true → (∃ j, staffed j ∧ (r.places.get j).treq = t) →
      (∀ j, staffed j → t ≤ (r.places.get j).treq) → exec .negotiationTimerExpiry s = after (fun r => { r with
        state := if runs then .rotating else .suspended
        negotiation := 0, ttrt := some t, token := some k, tht := t, express := 0, visited := []
        waitMark := false, candidate := none
        places := (r.places.map (fun p => if p.staffed then { p with trt := t, mode := .running, late := false }
          else p)).set k { r.places.get k with trt := t, mode := .held, late := false } })) ∧
    (∀ k, let p := r.places.get k
      let counts : Prop := p.staffed = true ∧ p.mode = .running ∧ r.state = .rotating
      (¬counts → exec (.rotationTimerExpiry k) s = .next s) ∧
      (counts → p.late = false → exec (.rotationTimerExpiry k) s = .next (s.onRelease (fun r => { r with
        places := r.places.set k { p with late := true, trt := r.ttrt.getD 0 } }))) ∧
      (counts → p.late = true →
        let stopped := s.onRelease (fun r => { r with
          places := r.places.set k { p with mode := .stopped, trt := 0 }
          stats := { r.stats with overruns := up r.stats.overruns } })
        exec (.rotationTimerExpiry k) s = .next (State.settle s ((stopped.offer
          (.rotationOverrun k r.ttrt r.token r.lit.isSome)).onRelease Release.callNegotiation)))) ∧
    (∀ k, r.token = some k →
      let eligible : Prop := ∃ e ∈ s.items.register, e.position = k ∧ e.state = .awaitRelease ∧
        e.number ∉ r.visited ∧ (0 < r.tht ∨ (e.cls = .express ∧ r.express < (r.places.get k).x))
      let passes : Prop := r.state = .rotating ∧ r.lit = none ∧ r.pendingMark = false ∧
        (r.waitMark = true ∨ ¬eligible)
      let away (j : Pos) : Nat := (j.number + 5 - k.number) % 6
      (¬passes → exec .tokenPass s = .next s) ∧
      (∀ j, passes → staffed j → (∀ m, staffed m → away j ≤ away m) → exec .tokenPass s = after (fun r =>
        let places := r.places.set k { r.places.get k with mode := .running }
        let p := places.get j
        { r with
          token := some j, tht := if p.late then 0 else p.trt, express := 0, visited := [], waitMark := false
          candidate := none
          places := places.set j { p with late := false, trt := r.ttrt.getD 0, mode := .held }
          stats := { r.stats with
            late := if p.late then up r.stats.late else r.stats.late
            rotations := if lowest j then up r.stats.rotations else r.stats.rotations } }))) ∧
    (r.token = none → exec .tokenPass s = .next s) ∧
    (let counts : Prop := r.state = .rotating ∧ r.token ≠ none ∧ r.lit = none
     (¬counts → exec .thtExpiry s = .next s) ∧
     (counts → exec .thtExpiry s = after (fun r => { r with tht := 0 }))) ∧
    (let counts : Prop := r.state = .rotating ∧ ∃ c, r.candidate = some c ∧ c.wait ≠ none
     (¬counts → exec .expressWaitExpiry s = .next s) ∧
     (counts → exec .expressWaitExpiry s = after (fun r => { r with candidate := none, waitMark := true })))

/-- The free window (R141) and the candidate (R162 to R164): the window's two tests; a candidate is chosen only in
ROTATING with no lamp lit, no negotiation pending and no express-wait mark; GRANTED lights the lamp and NOT_FREE
makes a candidate on EXPRESS terms wait. -/
def Obligations.CandidateAndGrant : Prop :=
  (∀ (s : State) (k : Pos), s.windowFree k = true ↔
    let g := s.settings.host.geo
    let due := s.belt.p + BitVec.ofNat 32 (g.d.get k)
    let start := due - BitVec.ofNat 32 g.gap
    let upTo := due + BitVec.ofNat 32 (g.lres + 1500 + g.gap)
    s.belt.queue.length < 24 ∧
    ∀ e ∈ s.belt.queue, ¬stretchesOverlap e.front e.tail start upTo = true ∧
      (e.isReservation = true ∨ g.pitch ≤ (ahead e.front due).natAbs)) ∧
  (∀ (s : State) (k : Pos), s.release.token = some k →
    let r := s.release
    let waits (e : RegEntry) : Prop := e ∈ s.items.register ∧ e.position = k ∧ e.state = .awaitRelease ∧
      e.number ∉ r.visited
    let first (l : List RegEntry) (e : RegEntry) (c : ReleaseClass) : Prop := ∃ a z, l = a ++ e :: z ∧ e.cls = c ∧
      e.position = k ∧ e.state = .awaitRelease ∧ e.number ∉ r.visited ∧
      ∀ m ∈ a, ¬(m.cls = c ∧ m.position = k ∧ m.state = .awaitRelease ∧ m.number ∉ r.visited)
    ((r.state ≠ .rotating ∨ r.lit.isSome = true ∨ r.pendingMark = true ∨ r.waitMark = true) →
      r.choice s.items.register = none) ∧
    (r.state = .rotating → r.lit = none → r.pendingMark = false → r.waitMark = false →
      (∀ e, first s.items.register e .express →
        r.choice s.items.register = if r.express < (r.places.get k).x then some (e, true)
          else if 0 < r.tht then some (e, false) else none) ∧
      ((∀ m, waits m → m.cls = .standard) → ∀ e, first s.items.register e .standard →
        r.choice s.items.register = if 0 < r.tht then some (e, false) else none) ∧
      ((∀ m, ¬waits m) → r.choice s.items.register = none))) ∧
  (∀ (s : State) (k : Pos) (e : RegEntry) (terms : Bool), s.release.state = .rotating → s.release.token = some k →
    s.release.choice s.items.register = some (e, terms) →
    let g := s.settings.host.geo
    let due := s.belt.p + BitVec.ofNat 32 (g.d.get k)
    let entry : Entry := ⟨s.belt.nextId, due - BitVec.ofNat 32 g.gap,
      due + BitVec.ofNat 32 (g.lres + 1500 + g.gap), none, .reservation k s.belt.p e.number⟩
    let granted := ((s.onBelt (fun q => { q with
      queue := insertEntry q.p entry q.queue, nextId := q.nextId + 1 })).onItems (fun m => { m with
        register := m.register.map (fun q => if q.number = e.number then { q with state := .released } else q)
        })).onRelease (fun r => { r with
          lit := some ⟨k, e.number, e.cls, s.belt.p⟩
          candidate := none
          visited := r.visited ++ [e.number]
          express := if terms then r.express + 1 else r.express
          stats := { r.stats with grants := if r.stats.grants < 4294967295 then r.stats.grants + 1
            else r.stats.grants } })
    (∀ again, s.release.candidate.all (fun c => c.item != e.number || c.expressTerms != terms) = true →
      s.settleRelease again = if s.windowFree k then granted
        else s.onRelease (fun r => { r with candidate := some ⟨e.number, terms, if terms then some 1000 else none⟩ })) ∧
    (∀ w, s.release.candidate = some ⟨e.number, terms, w⟩ →
      s.settleRelease false = s ∧
      (s.windowFree k = true → s.settleRelease true = granted) ∧
      (s.windowFree k = false → s.settleRelease true = s.onRelease (fun r => { r with
        candidate := some ⟨e.number, terms, if terms ∧ w = none then some 1000 else w⟩ })))) ∧
  (∀ (s : State) (again : Bool), s.release.state = .rotating → s.release.choice s.items.register = none →
    s.settleRelease again = s.onRelease (fun r => { r with candidate := none }))

/-! ## Labels, applicator and diverter (09_labels_applicator_and_diverter.md) -/

/-- The printer's three reports (R173, R175 to R177, R181), an ejection (R179) and the displacement test (R182). A
READY report sends the job in hand again; a PRESENTED report brings its label to the pad, or is unexpected; a FAULT
report interrupts it. The model's choices: what follows is `State.settle` (log 11), each ejection counts one label
wasted (log 16), a resend clears the interrupted and waste marks (log 17), the end of a fault is noticed as READY before
the interrupted job is sent again (log 67), and the notices take the item number from the job's own record while the
stopped query timer keeps its value (log 65). -/
def Obligations.PrinterReports : Prop :=
  (∀ (s : State), s.running = true →
    let up (n : Nat) : Nat := if n < 4294967295 then n + 1 else n
    let time := (s.settings.host.labelLength * 1000 + s.settings.host.printSpeed - 1) /
      s.settings.host.printSpeed + 500
    let told (ev : PrinterEvent) (x : State) : State := x.offer
      (.printerState ev x.label.printer (x.label.job.map (·.record.number)) x.label.pad)
    let resent (j : Job) (x : State) : State := x.onLabel (fun u => { u with
      printer := .printing, job := some { j with timer := time }, sent := some (.job j.record)
      stats := { u.stats with resends := up u.stats.resends } })
    let p := s.label.printer
    ((p = .ready ∨ p = .presented) → exec .printerReadyReport s = .next s) ∧
    (∀ j, p = .printing → s.label.job = some j →
      exec .printerReadyReport s = .next (State.settle s (resent j s))) ∧
    (∀ k, p = .fault k →
      let ended := told .state (s.onLabel (fun u => { u with printer := .ready }))
      ((s.label.job.all (fun j => !j.interrupted) = true →
        exec .printerReadyReport s = .next (State.settle s ended)) ∧
      (∀ j, s.label.job = some j → j.interrupted = true → exec .printerReadyReport s = .next
        (State.settle s (resent { j with interrupted := false, waste := false } ended))))) ∧
    (∀ j, p = .printing → s.label.job = some j →
      let done := s.onLabel (fun u => { u with job := none, printer := .presented })
      ((j.waste = true ∨ s.labelOf j.entry ≠ some .printing) →
        exec .printerPresentedReport s = .next (State.settle s (done.eject (some j.entry) .wasted))) ∧
      (j.waste = false → s.labelOf j.entry = some .printing → exec .printerPresentedReport s = .next (State.settle s
        ((done.setLabel j.entry .presented).onLabel (fun u => { u with pad := .holding j.entry })).displace))) ∧
    (p ≠ .printing →
      let ejected := if s.label.pad = .empty then s.eject none .wasted else s
      exec .printerPresentedReport s = .next (State.settle s (told .unexpectedLabel (ejected.onLabel (fun u =>
        { u with stats := { u.stats with unexpected := up u.stats.unexpected } }))))) ∧
    (∀ r : ReportedFault,
      (p = .fault r.kind → exec (.printerFaultReport r) s = .next s) ∧
      (∀ k, p = .fault k → k ≠ r.kind → exec (.printerFaultReport r) s = .next
        (told .state (s.onLabel (fun u => { u with printer := .fault r.kind })))) ∧
      ((∀ k, p ≠ .fault k) → exec (.printerFaultReport r) s = .next (State.settle s (told .state (s.onLabel
        (fun u => { u with
          printer := .fault r.kind, query := 1000
          job := u.job.map (fun j => if p = .printing then { j with interrupted := true } else j) }))))))) ∧
  (∀ (s : State) (l : LabelState),
    let up (n : Nat) : Nat := if n < 4294967295 then n + 1 else n
    let gone (x : State) : State := x.onLabel (fun u => { u with
      pad := .empty, printer := if u.printer = .presented then .ready else u.printer
      stats := { u.stats with wasted := up u.stats.wasted } })
    s.eject none l = gone s ∧
    (∀ id, (s.labelOf id = none ∨ s.labelOf id = some .applied ∨ s.labelOf id = some .skipped ∨
      s.labelOf id = some .wasted) → s.eject (some id) l = gone s) ∧
    (∀ id, (s.labelOf id = some .notStarted ∨ s.labelOf id = some .printing ∨ s.labelOf id = some .presented) →
      s.eject (some id) l = gone (s.setLabel id l))) ∧
  (∀ (s : State) (id : Nat), s.label.pad = .holding id → (∀ p, s.label.tamp ≠ .armed id p) →
    ((∃ a x z y, s.belt.queue = a ++ x :: z ∧ x.id = id ∧ (∀ e ∈ a, e.id ≠ id) ∧ y ∈ a ∧ y.unprinted = true) →
      s.displace = (s.eject (some id) .notStarted).onLabel (fun u => { u with stats := { u.stats with
        displaced := if u.stats.displaced < 4294967295 then u.stats.displaced + 1 else u.stats.displaced } })) ∧
    (∀ a x z, s.belt.queue = a ++ x :: z → x.id = id → (∀ e ∈ a, e.id ≠ id ∧ e.unprinted = false) →
      s.displace = s))

/-- The job and query timers (R175, R176), and the tamp's phases and verdict (R185). The model's choices: an expiry
takes effect only while its timer runs (log 20), the job timer stands at 0 after its expiry and the notice takes the
item number from the job's own record (log 65), and what follows on the line is `State.settle` (log 11). At the end of
RETRACT a CLEAR pad makes the label APPLIED, and a label still on the pad flags its item APPLY_FAILED and is
ejected. -/
def Obligations.LabelTimers : Prop :=
  ∀ (s : State), s.running = true →
    let up (n : Nat) : Nat := if n < 4294967295 then n + 1 else n
    let u := s.label
    let stroke := s.settings.host.applyMs * 2 / 5
    let tamped (t : Tamp) : State := s.onLabel (fun u => { u with tamp := t })
    ((u.printer ≠ .printing ∨ u.job = none) → exec .jobTimerExpiry s = .next s) ∧
    (∀ j, u.printer = .printing → u.job = some j → exec .jobTimerExpiry s = .next (State.settle s ((s.onLabel
      (fun u => { u with
        printer := .fault .timeout, query := 1000, job := some { j with timer := 0, interrupted := true }
        stats := { u.stats with timeouts := up u.stats.timeouts } })).offer
      (.printerState .state (.fault .timeout) (some j.record.number) u.pad)))) ∧
    ((∀ k, u.printer ≠ .fault k) → exec .queryTimerExpiry s = .next s) ∧
    (∀ k, u.printer = .fault k → exec .queryTimerExpiry s = .next (s.onLabel (fun u => { u with
      query := 1000, sent := some .query }))) ∧
    ((∀ e n, u.tamp ≠ .extend e n) → exec .tampExtendEnd s = .next s) ∧
    (∀ e n, u.tamp = .extend e n → exec .tampExtendEnd s = .next
      (tamped (.dwell e (s.settings.host.applyMs - 2 * stroke)))) ∧
    ((∀ e n, u.tamp ≠ .dwell e n) → exec .tampDwellEnd s = .next s) ∧
    (∀ e n, u.tamp = .dwell e n → exec .tampDwellEnd s = .next (tamped (.retract e stroke))) ∧
    (∀ sensor, (∀ e n, u.tamp ≠ .retract e n) → exec (.tampRetractEnd sensor) s = .next s) ∧
    (∀ e n, u.tamp = .retract e n →
      exec (.tampRetractEnd .clear) s = .next (State.settle s (((tamped .retracted).setLabel e .applied).onLabel
        (fun u => { u with pad := .empty, printer := if u.printer = .presented then .ready else u.printer }))) ∧
      exec (.tampRetractEnd .label) s = .next (State.settle s
        (((s.flagEntry .applyFailed e).eject (some e) .wasted).onLabel (fun u => { u with
          tamp := .retracted
          stats := { u.stats with applyFailures := up u.stats.applyFailures } }))))

/-- A label state changes in the entry and in its register mirror, and each change but one to WASTED is counted here
(R119, R178): WASTED is counted where it comes about, at an ejection or at a job's waste mark (log 16). A flag keeps the
first reason and acts on the label (R140, R183); a match arms the tamp or flags NO_LABEL (R184); the tamp fires at
its point (R185); the diverter stands at REJECT while a flagged object's open span holds P (R187). -/
def Obligations.LabelsFlagsAndDiverter : Prop :=
  (∀ (s : State) (id n : Nat) (e : Entry) (l : LabelState), s.findEntry id = some e → e.itemNumber? = some n →
    let up (n : Nat) : Nat := if n < 4294967295 then n + 1 else n
    s.setLabel id l = ((s.onBelt (fun q => { q with
        queue := q.queue.map (fun x => if x.id = id then x.withLabel l else x) })).onItems (fun m => { m with
          register := m.register.map (fun q => if q.number = n then { q with label := some l } else q)
          })).onLabel (fun u => { u with stats := { u.stats with
            presented := if l = .presented then up u.stats.presented else u.stats.presented
            applied := if l = .applied then up u.stats.applied else u.stats.applied
            skipped := if l = .skipped then up u.stats.skipped else u.stats.skipped } })) ∧
  (∀ (s : State) (id n : Nat) (e : Entry) (r : RejectReason), s.findEntry id = some e → e.itemNumber? = some n →
    let up (n : Nat) : Nat := if n < 4294967295 then n + 1 else n
    let marked := (s.onBelt (fun q => { q with
      queue := q.queue.map (fun x => if x.id = id then { x with flag := some r } else x) })).onItems (fun m => { m with
        register := m.register.map (fun q => if q.number = n then { q with reject := some r } else q) })
    (e.flag.isSome = true → s.flagEntry r id = s) ∧
    (e.flag = none →
      (e.label? = some .notStarted → s.flagEntry r id = marked.setLabel id .skipped) ∧
      (∀ j, e.label? = some .printing → s.label.job = some j → j.entry = id →
        s.flagEntry r id = (marked.setLabel id .wasted).onLabel (fun u => { u with
          job := if j.interrupted then none else some { j with waste := true }
          stats := { u.stats with wasted := up u.stats.wasted } })) ∧
      (e.label? = some .presented → s.label.pad = .holding id →
        s.flagEntry r id = (marked.eject (some id) .wasted).onLabel (fun u => { u with
          tamp := match u.tamp with
            | .armed a p => if a = id then .retracted else .armed a p
            | t => t })) ∧
      (e.label? = some .presented → s.label.pad ≠ .holding id → s.flagEntry r id = marked) ∧
      ((e.label? = some .applied ∨ e.label? = some .skipped ∨ e.label? = some .wasted) →
        s.flagEntry r id = marked))) ∧
  (∀ (s : State) (e : Entry), s.findEntry e.id = some e →
    (e.flag.isSome = true → s.matchLabel e = s) ∧
    (e.flag = none →
      (e.label? = some .presented → s.label.pad = .holding e.id → s.matchLabel e = s.onLabel (fun u => { u with
        tamp := .armed e.id (s.belt.p + BitVec.ofNat 32 s.settings.host.geo.aOff) })) ∧
      ((e.label? = some .notStarted ∨ e.label? = some .printing) → s.matchLabel e = s.flagEntry .noLabel e.id))) ∧
  (∀ (s : State),
    (∀ e p, s.label.tamp = .armed e p → s.fireTamp = if 0 ≤ ahead s.belt.p p then s.onLabel (fun u => { u with
      pad := .applying e, tamp := .extend e (s.settings.host.applyMs * 2 / 5) }) else s) ∧
    (let d := s.settings.host.geo.dDiv
     let held : Prop := ∃ e ∈ s.belt.queue, e.isReservation = false ∧ e.flag.isSome = true ∧
       ahead (e.front + BitVec.ofNat 32 d - 100) s.belt.p ≤ 0 ∧
       ahead s.belt.p (e.tail + BitVec.ofNat 32 (d + 100)) ≤ 0
     (held → s.divert.label = { s.label with
       diverter := .reject
       stats := { s.label.stats with diversions :=
         if s.label.diverter = .pass ∧ s.label.stats.diversions < 4294967295 then s.label.stats.diversions + 1
         else s.label.stats.diversions } }) ∧
     (¬held → s.divert.label = { s.label with diverter := .pass }) ∧
     s.divert = s.onLabel (fun _ => s.divert.label)))

/-! ## Host link, calendar and settings (10_host_link_calendar_and_settings.md) -/

/-- The receiver (R191 to R194): a frame is gathered until its check has come; one that fails a test or breaks off is
discarded and counted; a good one is dispatched by its message code, of which every request has one of its own, and
without a free slot it is BUSY or lost. A request without fields is its message code alone, and with any byte more has
the wrong length. Which byte is which code, and how the bytes after it spell the fields of the others, are free values
(log 7). The transmitter (R191, R194 to R196): what became ready first leaves first, a notice only when nothing else
waits; a notice takes the drop count and the next sequence number, and one offered to a full queue is dropped and
counted; the line carries the frame's bytes with their check, 9 of them for BUSY, of payloads whose free parts are cut
to 1,024 bytes (the model's choice, log 37). That an idle transmitter takes what begins to wait at the same event is
read from R195 (log 28, DEDUCED). That BYTE_GAP_TIMEOUT does nothing in HUNTING and takes effect IN_FRAME whatever is
left of the gap timer is the model's choice (log 20), and so is the timer's value 0 in HUNTING (log 68). -/
def Obligations.FramesReceivedAndSent : Prop :=
  (∀ (s : State) (b : Byte), s.running = true →
    let heard (r : Receiver) (gap : Nat) : State := s.onLink (fun l => { l with receiver := r, gap := gap })
    let discarded := (heard .hunting 0).onLink (fun l => { l with
      frameErrors := if l.frameErrors < 65535 then l.frameErrors + 1 else l.frameErrors })
    exec (.frameReceived b) s = exec (.byteReceived b) s ∧
    (s.link.receiver = .hunting →
      exec (.byteReceived b) s = (if b = 0xA5 then .next (heard (.inFrame []) 10) else .next s) ∧
      exec .byteFramingError s = .next s ∧ exec .byteGapTimeout s = .next s) ∧
    (∀ held, s.link.receiver = .inFrame held →
      exec .byteFramingError s = .next discarded ∧ exec .byteGapTimeout s = .next discarded ∧
      (let bs := held ++ [b]
       let n := (bs.getD 0 0).toNat * 256 + (bs.getD 1 0).toNat
       let passes : Prop := n ≠ 0 ∧ bs.getD 2 0 = 1 ∧ (crc16 (bs.take (n + 4))).toNat =
         (bs.getD (n + 4) 0).toNat * 256 + (bs.getD (n + 5) 0).toNat
       let tag := bs.getD 3 0
       let code := bs.getD 4 0
       let read := readPayload code ((bs.drop 5).take (n - 1))
       (bs.length = 2 → 1024 < n → exec (.byteReceived b) s = .next discarded) ∧
       (¬(bs.length = 2 ∧ 1024 < n) → ¬(2 ≤ bs.length ∧ bs.length = n + 6) →
         exec (.byteReceived b) s = .next (heard (.inFrame bs) 10)) ∧
       (2 < bs.length → bs.length = n + 6 →
         (¬passes → exec (.byteReceived b) s = .next discarded) ∧
         (passes →
           (∀ i, s.link.freeSlot = some i → read = .unknown → exec (.byteReceived b) s =
             .next ((heard .hunting 0).onLink (fun l => Link.answer i .unknown (l.hold i tag (.other code))))) ∧
           (∀ i r, s.link.freeSlot = some i → read = .badLength r → exec (.byteReceived b) s =
             .next ((heard .hunting 0).onLink (fun l => Link.answer i .badLength (l.hold i tag (.req r))))) ∧
           (∀ name, s.link.freeSlot = none →
             ((read = .unknown ∧ name = .other code) ∨ ∃ r, read = .badLength r ∧ name = .req r) →
             exec (.byteReceived b) s = .next ((heard .hunting 0).onLink (fun l =>
               if l.busyList.length < 8 then Link.sendNext { l with ready := l.ready ++ [.busy tag name] }
               else { l with lostRequests :=
                 if l.lostRequests < 65535 then l.lostRequests + 1 else l.lostRequests }))) ∧
           (∀ r c, read = .request r → c.request = some (tag, r) →
             exec (.byteReceived b) s = exec c (heard .hunting 0))))))) ∧
  (∀ a b : ReqName, Config.messageCode a = Config.messageCode b → a = b) ∧
  (∀ (code : Byte) (fields : List Byte),
    (readPayload code fields = .unknown ↔ ∀ n, Config.messageCode n ≠ code) ∧
    (∀ n, readPayload code fields = .badLength n → Config.messageCode n = code) ∧
    (∀ r, readPayload code fields = .request r → Config.messageCode r.name = code) ∧
    (∀ r ∈ [Request.tClose, .tActivate, .tStatus, .cPurge, .iList, .iCounts, .nStatus, .bStop, .bReset, .bStatus,
        .bQueue, .pStatus, .lStatus, .sGet, .sRestart],
      readPayload (Config.messageCode r.name) fields = if fields = [] then .request r else .badLength r.name)) ∧
  (∀ (l : Link),
    let word (n : Nat) : List Byte := [BitVec.ofNat 8 (n / 256), BitVec.ofNat 8 n]
    let sends (kind tag : Byte) (payload : List Byte) : Prop :=
      let head := word payload.length ++ [kind, tag] ++ payload
      payload.length ≤ 1024 ∧ l.onLine = some (0xA5 :: (head ++ word (crc16 head).toNat))
    (l.transmitter = .idle → l.onLine = none) ∧
    (∀ i tag code r, l.transmitter = .sending (.reply i) → l.slots[i] = some ⟨tag, code, .replyReady r⟩ →
      sends 2 tag ((code.byte :: Config.statusByte r.status :: r.rest).take 1024)) ∧
    (∀ tag code, l.transmitter = .sending (.busy tag code) →
      sends 2 tag [code.byte, Config.statusByte .busy] ∧ ∃ bs, l.onLine = some bs ∧ bs.length = 9) ∧
    (∀ q d n, l.transmitter = .sending (.notice q d n) →
      sends 3 q ((BitVec.ofNat 8 n.code :: (word d ++ Config.noticeFieldBytes n)).take 1024))) ∧
  ((∀ (s : State), s.running = true →
    (s.link.transmitter = .idle → exec .transmitFrameEnd s = .next s) ∧
    (∀ i, s.link.transmitter = .sending (.reply i) → s.link.restartSlot ≠ some i →
      exec .transmitFrameEnd s = .next (s.onLink (fun l => Link.sendNext { l with
        transmitter := .idle, slots := l.slots.set i none, ready := l.ready.tail }))) ∧
    (∀ tag code, s.link.transmitter = .sending (.busy tag code) →
      exec .transmitFrameEnd s = .next (s.onLink (fun l => Link.sendNext { l with
        transmitter := .idle, ready := l.ready.tail }))) ∧
    (∀ q d n, s.link.transmitter = .sending (.notice q d n) →
      exec .transmitFrameEnd s = .next (s.onLink (fun l => Link.sendNext { l with transmitter := .idle })))) ∧
  (∀ (l : Link),
    (l.transmitter ≠ .idle → l.sendNext = l) ∧
    (l.transmitter = .idle →
      (∀ i rest, l.ready = .slot i :: rest → l.sendNext = { l with transmitter := .sending (.reply i) }) ∧
      (∀ t c rest, l.ready = .busy t c :: rest → l.sendNext = { l with transmitter := .sending (.busy t c) }) ∧
      (∀ n rest, l.ready = [] → l.notices = n :: rest → l.sendNext = { l with
        notices := rest, drops := 0, noticeSeq := l.noticeSeq + 1
        transmitter := .sending (.notice l.noticeSeq l.drops n) }) ∧
      (l.ready = [] → l.notices = [] → l.sendNext = l)) ∧
    (∀ n, l.offer n = if l.notices.length < 64 then Link.sendNext { l with notices := l.notices ++ [n] }
      else { l with drops := if l.drops < 65535 then l.drops + 1 else l.drops }) ∧
    (∀ (i : SlotId) r q, l.slots[i] = some q → Link.answer i r l = Link.sendNext { l with
      slots := l.slots.set i (some { q with phase := .replyReady r }), ready := l.ready ++ [.slot i] })))


/-- The calendar (R197 to R199): S_CLOCK_SET checks its fields, naming the first that fails in the request's order (the
model's choice, log 29: R198 names none), and sets it, and, after the effective-minute check with what it sends (the
model's choice, log 46), answers with the value before; a second advances it and, at a full minute in READY, runs the
effective-minute check; beyond the end of 2099 it becomes UNSET. That check (R53) does nothing while the calendar is
UNSET, with no STAGED bank, or with its effective minute ahead; with the effective minute at or before the calendar's
it activates the STAGED bank with cause TIME, with what an activation does (R55) to banks, generation, cache, items and
the rating in progress, and asks the rewrites of the records (R38). -/
def Obligations.CalendarKept : Prop :=
  (∀ (s : State) (i : SlotId) (tag : Byte) (c : Clock), s.takes i →
    let m := c.minute
    let days := if m.month = 2 then (if m.year % 4 = 0 then 29 else 28)
      else if m.month = 4 ∨ m.month = 6 ∨ m.month = 9 ∨ m.month = 11 then 30 else 31
    let bad (f : FieldName) : Prop := exec (.sClockSet tag c) s = s.refuses i tag .sClockSet .badField (.field f)
    let year := 2000 ≤ m.year ∧ m.year ≤ 2099
    let month := 1 ≤ m.month ∧ m.month ≤ 12
    let day := 1 ≤ m.day ∧ m.day ≤ days
    (¬year → bad .year) ∧ (year → ¬month → bad .month) ∧ (year → month → ¬day → bad .day) ∧
    (year → month → day → 23 < m.hour → bad .hour) ∧
    (year → month → day → m.hour ≤ 23 → 59 < m.minute → bad .minute) ∧
    (year → month → day → m.hour ≤ 23 → m.minute ≤ 59 → 59 < c.second → bad .second) ∧
    (year → month → day → m.hour ≤ 23 → m.minute ≤ 59 → c.second ≤ 59 →
      exec (.sClockSet tag c) s = .next ((((s.held i tag .sClockSet).onTime (fun t => { t with
        calendar := some c, msPhase := 0 })).effectiveCheck).answer i (.ok (.clock s.time.calendar))))) ∧
  (∀ (s : State), s.running = true →
    (s.time.calendar = none → exec .calendarSecond s = .next (s.onTime (fun t => { t with msPhase := 0 }))) ∧
    (∀ c, s.time.calendar = some c →
      let ticked := s.onTime (fun t => { t with msPhase := 0, calendar := c.next })
      (∀ d, c.next = some d → d.second = 0 → s.link.part = .ready →
        exec .calendarSecond s = .next ticked.effectiveCheck) ∧
      ((∀ d, c.next = some d → d.second ≠ 0 ∨ s.link.part = .starting) →
        exec .calendarSecond s = .next ticked))) ∧
  (∀ (y mo d h mi se : Nat),
    let last := if mo = 2 then (if y % 4 = 0 then 29 else 28)
      else if mo = 4 ∨ mo = 6 ∨ mo = 9 ∨ mo = 11 then 30 else 31
    1 ≤ mo → mo ≤ 12 → d ≤ last → h ≤ 23 → mi ≤ 59 → se ≤ 59 → y ≤ 2099 →
    let c : Clock := ⟨⟨y, mo, d, h, mi⟩, se⟩
    (se < 59 → c.next = some ⟨⟨y, mo, d, h, mi⟩, se + 1⟩) ∧
    (se = 59 → mi < 59 → c.next = some ⟨⟨y, mo, d, h, mi + 1⟩, 0⟩) ∧
    (se = 59 → mi = 59 → h < 23 → c.next = some ⟨⟨y, mo, d, h + 1, 0⟩, 0⟩) ∧
    (se = 59 → mi = 59 → h = 23 →
      (d < last → c.next = some ⟨⟨y, mo, d + 1, 0, 0⟩, 0⟩) ∧
      (d = last → mo < 12 → c.next = some ⟨⟨y, mo + 1, 1, 0, 0⟩, 0⟩) ∧
      (d = last → mo = 12 → y < 2099 → c.next = some ⟨⟨y + 1, 1, 1, 0, 0⟩, 0⟩) ∧
      (d = last → mo = 12 → y = 2099 → c.next = none))) ∧
  (∀ (a b : Minute), a.month ≤ 12 → a.day ≤ 31 → a.hour ≤ 23 → a.minute ≤ 59 →
    b.month ≤ 12 → b.day ≤ 31 → b.hour ≤ 23 → b.minute ≤ 59 →
    (a.key ≤ b.key ↔ a.year < b.year ∨ (a.year = b.year ∧ (a.month < b.month ∨ (a.month = b.month ∧ (a.day < b.day ∨
      (a.day = b.day ∧ (a.hour < b.hour ∨ (a.hour = b.hour ∧ a.minute ≤ b.minute))))))))) ∧
  (∀ (s : State),
    (s.time.calendar = none → s.effectiveCheck = s) ∧ (s.tariff.staged = none → s.effectiveCheck = s) ∧
    (s.tariff.banks.a.state ≠ .staged → s.tariff.banks.b.state ≠ .staged → s.effectiveCheck = s) ∧
    (∀ c x, s.time.calendar = some c → s.tariff.staged = some x →
      (c.minute.key < x.header.effective.key → s.effectiveCheck = s) ∧
      (∀ k, x.header.effective.key ≤ c.minute.key → (s.tariff.banks.get k).state = .staged →
        (s.tariff.banks.get k.other).state ≠ .staged →
        let t := s.effectiveCheck
        let other := s.tariff.banks.get k.other
        let emptied : Prop := other.state = .active ∨ other.state = .damaged
        let generation := if s.tariff.generation < 65535 then s.tariff.generation + 1 else 1
        let stale : Six OpenSlot := s.items.slots.map (fun o => match o with
          | .rated it r _ => .rated it r true | .idle => .idle | .opened it => .opened it
          | .rating it ph j => .rating it ph j)
        let purged : Cache := { s.cache with
          points := s.cache.points.map (fun e => { e with valid := false })
          bands := s.cache.bands.map (fun e => { e with valid := false })
          lookasides := s.cache.lookasides.map (fun e => { e with valid := false })
          pointPtr := 0, bandPtr := 0 }
        TariffFrame s t ∧ t.tariff.banks.get k = { s.tariff.banks.get k with state := .active } ∧
        t.tariff.banks.get k.other =
          (if emptied then { other with state := .empty, description := none } else other) ∧
        t.tariff.active = some x ∧ t.tariff.staged = none ∧ t.tariff.generation = generation ∧
        t.tariff.session = s.tariff.session ∧ t.flash = s.flash ∧
        (let leaves (rating : Rating) (cache : Cache) (slots : Six OpenSlot) (link : Link) : Prop :=
          t.rating = rating ∧ t.cache = cache ∧ t.items.slots = slots ∧
          t.link = link.offer (.tariffActivated k x.header.tariffId x.header.version x.header.effective
            generation .time) ∧
          ∃ r q, recordSays r (s.tariff.recordSeq + 1) .active (s.tariff.banks.get k).description ∧
            recordSays q (s.tariff.recordSeq + 2) .empty none ∧
            t.port = s.port.asks ([.recordErase k, .recordProgram k r] ++
              if emptied then [.recordErase k.other, .recordProgram k.other q] else [])
        (s.rating.current = none → leaves s.rating purged stale s.link) ∧
        (∀ u, s.rating.current = some u → s.cache.walk.isSome = true →
          let cache := { purged with waiting := none }
          let rating := if s.cache.waiting = none then { s.rating with orphan := some u.lookup } else s.rating
          (∀ v, u.req.start (some x) generation = .goesOn v →
            leaves { rating with current := some v } { cache with waiting := some v.lookup } stale s.link) ∧
          (∀ r it ph j, u.req.start (some x) generation = .decided r → s.rating.pendingList = [] →
            s.openSlot u.req.position = .rating it ph j →
            leaves { rating with current := none } cache (stale.set u.req.position (.opened it))
              (s.link.answer j (.refused .notRateable (.result r)))))))))


/-- S_STORE and the end of its write (R138, R200 to R203): the refusals in their order, when every host field is in
range, what takes effect at once, what a successful or failed write leaves, and when a copy is valid: the format's
marker, the CRC-16 over marker, sequence number and fields, and every field in its range. The model's choices: copy 1
is the one written while defaults are in force (log 43), the low mark is formed anew at every store (log 45), what a
failed write leaves is a free value among the invalid copies (log 23), and so are the bytes of a copy (log 55). -/
def Obligations.SettingsStored : Prop :=
  (∀ (s : State) (i : SlotId) (tag : Byte) (h : HostFields), s.takes i →
    let t := s.settings
    let line (x : HostFields) : Geometry × Nat × Nat × Nat := (x.geo, x.labelLength, x.printSpeed, x.applyMs)
    let busy : Prop := line h ≠ line t.host ∧ (s.belt.drive ≠ .stopped ∨ s.belt.queue ≠ [])
    (t.store.isSome = true → exec (.sStore tag h) s = s.refuses i tag .sStore .storeBusy) ∧
    (∀ f, t.store = none → h.fault = some f →
      exec (.sStore tag h) s = s.refuses i tag .sStore .badField (.field f)) ∧
    (t.store = none → h.fault = none → busy → exec (.sStore tag h) s = s.refuses i tag .sStore .beltBusy) ∧
    (t.store = none → h.fault = none → ¬busy →
      let record : SettingsRecord := ⟨h, s.weighing.channels.map
        (fun c => ⟨c.zc, c.k, c.calibration, c.n, c.b, c.enables⟩), s.weighing.timeout⟩
      let copy : CopyId := if t.source = .copy .one then .two else .one
      exec (.sStore tag h) s = .next ((((s.held i tag .sStore).onSettings (fun t => { t with
        host := h, store := some ⟨copy, record, t.seq + 1, i⟩ })).onBelt (fun q => { q with
          runTarget := if h.vmax < q.runTarget then h.vmax else q.runTarget })).onItems (fun m => { m with
            lowMark := decide ((m.pool.map (fun b => b.last + 1 - b.next)).sum < h.lowWater) })))) ∧
  (∀ (h : HostFields), h.fault = none ↔
    let g := h.geo
    h.office ≤ 9999 ∧ (∀ k a, (h.homeOffsets.get k).get a ≤ 200) ∧
    (∀ k, 1500 ≤ g.d.get k ∧ g.d.get k ≤ 20000) ∧
    g.d.get .p2 < g.d.get .p1 ∧ g.d.get .p3 < g.d.get .p2 ∧ g.d.get .p4 < g.d.get .p3 ∧
    g.d.get .p5 < g.d.get .p4 ∧ g.d.get .p6 < g.d.get .p5 ∧
    g.aOff ≤ 300 ∧ (200 ≤ g.dDiv ∧ g.dDiv ≤ 3000) ∧ (300 ≤ g.pitch ∧ g.pitch ≤ 3000) ∧
    (100 ≤ g.gap ∧ g.gap ≤ 1000) ∧ (500 ≤ g.lres ∧ g.lres ≤ 4000) ∧ (20 ≤ g.tol ∧ g.tol ≤ 200) ∧
    (g.tol + 100 ≤ g.slow ∧ g.slow ≤ 2000 ∧ g.slow < g.d.get .p6) ∧
    (100 ≤ g.accel ∧ g.accel ≤ 2000) ∧ (100 ≤ g.decel ∧ g.decel ≤ 2000) ∧
    (100 ≤ h.labelLength ∧ h.labelLength ≤ 200) ∧ (100 ≤ h.printSpeed ∧ h.printSpeed ≤ 200) ∧
    (100 ≤ h.applyMs ∧ h.applyMs ≤ 1000) ∧ h.lowWater ≤ 100000 ∧
    ∀ k, (2000 ≤ (h.defaults.get k).1 ∧ (h.defaults.get k).1 ≤ 60000) ∧ (h.defaults.get k).2 ≤ 3) ∧
  (∀ (s : State) (ok : Bool), s.running = true →
    (s.settings.store = none → exec (.storeWriteComplete ok) s = .next s) ∧
    (∀ w, s.settings.store = some w →
      let written (c : Copy) (t : Settings) : Settings :=
        { (if w.copy = .one then { t with copy1 := c } else { t with copy2 := c }) with store := none }
      exec (.storeWriteComplete true) s = .next ((s.onSettings (fun t =>
        { written (.written w.seq w.record) t with source := .copy w.copy, seq := w.seq })).answer w.slot
          (.ok (.stored w.copy w.seq))) ∧
      exec (.storeWriteComplete false) s = .next ((({ s with fresh := s.fresh + 1 } : State).onSettings
        (written (.spoilt s.fresh))).answer w.slot (.refused .storeFault .none)))) ∧
  (∀ (c : Copy) (q : BitVec 32) (r : SettingsRecord), c.valid = some (q, r) ↔
    c.marker = .right ∧ c.crc = crc16 (Config.settingsBytes c.seq c.record) ∧ c.record.ok = true ∧
      q = c.seq ∧ r = c.record) ∧
  (∀ (q : BitVec 32) (r : SettingsRecord), r.ok = true → (Copy.written q r).valid = some (q, r)) ∧
  (∀ n, (Copy.spoilt n).valid = none)

/-- The resets (R23, R36, R38, R59, R76, R100, R123, R152, R172, R190, R201, R204, R206; how the power and reset lines
gate one another is the model's, log 21). Each puts every block into its reset state, loads the settings record in
force and begins the scan: both state records are read, a LOADING or losing one (of equal numbers bank B's, log 26)
makes its bank EMPTY and is to be rewritten (at the beginning, bank A's first: log 59), and the ACTIVE bank and then
the STAGED one are verified. Until then such a bank shows the state its record gives, with generation 0 (read from R59,
log 38, DEDUCED). A record whose marker or CRC-16 is wrong reads as none (R38). Every gauge is left without a latch
record, and its button at the level of its line, so that a button held at a reset is no press (R36). Every eye records
front 0 (log 48), and the rotation timers, the byte gap timer and, but at a restart, the millisecond phase are 0 (log
68). A scan with nothing to verify ends at once, and an emergency stop input asserted then has made the drive ESTOPPED.
POWER_LOSS and the asserted reset line leave the part without its volatile state; S_RESTART restarts it at the end of
its reply, the first accepted one being the one kept (log 49), and that alone keeps the calendar; the phases of ramp
and speed window begin afresh (log 2). A store cut short leaves its copy invalid. -/
def Obligations.Resets : Prop :=
  ∀ (s : State),
    let lines : Belt := { eyes := s.belt.eyes.map (fun r => { blocked := r.blocked })
                          applicator := { blocked := s.belt.applicator.blocked } }
    let copies (t : State) : Prop :=
      (s.settings.store = none → t.settings.copy1 = s.settings.copy1 ∧ t.settings.copy2 = s.settings.copy2) ∧
      ∀ w, s.settings.store = some w → (t.settings.copyOf w.copy).valid = none ∧
        t.settings.copyOf w.copy.other = s.settings.copyOf w.copy.other
    let dark (pins : Pins) (t : State) : Prop :=
      t.pins = pins ∧ t.pending = s.pending ∧ t.time = {} ∧ t.weighing = {} ∧ t.tariff = {} ∧ t.port = {} ∧
      t.cache = {} ∧ t.rating = {} ∧ t.items = {} ∧ t.release = {} ∧ t.label = {} ∧ t.link = {} ∧ t.belt = lines ∧
      (∀ k a, (t.gauges.get k).axes.get a =
        { pair := ((s.gauges.get k).axes.get a).pair, closed := ((s.gauges.get k).axes.get a).closed }) ∧
      (∀ k, (t.gauges.get k).record = none ∧ (t.gauges.get k).button = (s.gauges.get k).button) ∧
      copies t ∧ t.settings.store = none ∧ (s.port.current = none → t.flash = s.flash)
    let loads (t : State) (source : Source) (seq : BitVec 32) (r : SettingsRecord) : Prop :=
      t.settings.source = source ∧ t.settings.seq = seq ∧ t.settings.host = r.host ∧
      t.weighing = { timeout := r.timeout, channels := r.channels.map (fun c => {
        zc := c.zc, zw := c.zc, k := c.k, calibration := c.calibration, n := c.n, b := c.b, enables := c.enables }) }
    let scans (t : State) : Prop :=
      let read (k : Bank) : Option StateRecord := readStateRecord (t.flash.records.get k)
      let loses (k : Bank) (x : StateRecord) : Prop :=
        (x.state = .active ∨ x.state = .staged) ∧ ∃ y, read k.other = some y ∧ y.state = x.state ∧
          (x.seq.toNat < y.seq.toNat ∨ (k = .b ∧ x.seq = y.seq))
      let changed (k : Bank) : Prop := ∃ x, read k = some x ∧ (x.state = .loading ∨ loses k x)
      let seq (k : Bank) : BitVec 32 := match read k with
        | none => 0
        | some x => x.seq
      let greatest := if (seq .a).toNat < (seq .b).toNat then seq .b else seq .a
      let waiting (st : BankState) : List Bank := [Bank.a, .b].filter (fun k => (t.tariff.banks.get k).state == st)
      let length (k : Bank) : Nat := ((t.tariff.banks.get k).description.map (·.length)).getD 0
      (∀ k, (read k = none → t.tariff.banks.get k = {}) ∧
        (∀ x, read k = some x →
          let described : BankRec := { description := some ⟨x.length, x.crc, some (x.tariffId, x.version, x.effective)⟩ }
          ((x.state = .empty ∨ x.state = .loading ∨ loses k x) → t.tariff.banks.get k = {}) ∧
          (x.state = .damaged → t.tariff.banks.get k = { described with state := .damaged }) ∧
          (¬loses k x → (x.state = .active → t.tariff.banks.get k = { described with state := .active }) ∧
            (x.state = .staged → t.tariff.banks.get k = { described with state := .staged })))) ∧
      t.tariff.scanning = waiting .active ++ waiting .staged ∧
      t.tariff.verify = t.tariff.scanning.head?.bind (fun k => (t.tariff.banks.get k).description.map
        (fun d => { bank := k, length := d.length, crc := d.crc, startUp := true })) ∧
      t.tariff.session = none ∧ t.tariff.writes = [] ∧ t.tariff.queue = [] ∧ t.tariff.active = none ∧
      t.tariff.staged = none ∧ t.tariff.generation = 0 ∧
      ∃ qa qb : StateRecord, recordSays qa (greatest + 1) .empty none ∧ recordSays qb qb.seq .empty none ∧
        (changed .a → changed .b → qb.seq = greatest + 2) ∧ (¬changed .a → qb.seq = greatest + 1) ∧
        (changed .a → changed .b → t.tariff.recordSeq = greatest + 2) ∧
        (changed .a → ¬changed .b → t.tariff.recordSeq = greatest + 1) ∧
        (¬changed .a → changed .b → t.tariff.recordSeq = greatest + 1) ∧
        (¬changed .a → ¬changed .b → t.tariff.recordSeq = greatest) ∧
        ∀ rewrites : List Access,
          (changed .a → changed .b → rewrites =
            [.recordErase .a, .recordProgram .a qa, .recordErase .b, .recordProgram .b qb]) →
          (changed .a → ¬changed .b → rewrites = [.recordErase .a, .recordProgram .a qa]) →
          (¬changed .a → changed .b → rewrites = [.recordErase .b, .recordProgram .b qb]) →
          (¬changed .a → ¬changed .b → rewrites = []) →
          t.port = ({} : Port).asks (rewrites ++
            (t.tariff.scanning.head?.map (fun k => Access.verification k 0 (min 256 (length k)))).toList)
    let starts (pins : Pins) (time : Time) (sensor : PadSensor) (t : State) : Prop :=
      t.pins = pins ∧ t.pending = s.pending ∧ t.time = time ∧ t.cache = {} ∧ t.rating = {} ∧ t.items = {} ∧
      t.release = { places := t.settings.host.defaults.map (fun d => { treq := d.1, x := d.2 }) } ∧
      t.label = { stats := { wasted := if sensor = .label then 1 else 0 } } ∧
      t.belt = (if t.link.part = .ready ∧ pins.estop = true then { lines with drive := .estopped, reason := .estop }
        else lines) ∧
      (∀ k a, let x : AxisRec :=
          { pair := ((s.gauges.get k).axes.get a).pair, closed := ((s.gauges.get k).axes.get a).closed }
        (t.gauges.get k).axes.get a =
          if x.closed then (x.home ((t.settings.host.homeOffsets.get k).get a)).1 else x) ∧
      (∀ k, (t.gauges.get k).record = none ∧ (t.gauges.get k).button = (s.gauges.get k).button) ∧
      copies t ∧ t.settings.store = none ∧ (s.port.current = none → t.flash = s.flash) ∧
      (match t.settings.copy1.valid, t.settings.copy2.valid with
        | none, none => loads t .defaulted 0 .default
        | some (q, r), none => loads t (.copy .one) q r
        | none, some (q, r) => loads t (.copy .two) q r
        | some (q, r), some (q', r') =>
          (q'.toNat < q.toNat → loads t (.copy .one) q r) ∧ (q.toNat < q'.toNat → loads t (.copy .two) q' r')) ∧
      t.link.part = (if t.tariff.scanning = [] then .ready else .starting) ∧ t.link.receiver = .hunting ∧
      t.link.slots = Vector.replicate 8 none ∧ t.link.ready = [] ∧ t.link.drops = 0 ∧ t.link.frameErrors = 0 ∧
      t.link.lostRequests = 0 ∧ t.link.restartSlot = none ∧ scans t
    let powered : Pins := { s.pins with powerGood := true }
    let let_go : Pins := { s.pins with resetLine := false }
    (∀ sensor, ∃ t, exec (.powerOnReset sensor) s = .next t ∧
      (s.pins.resetLine = false → starts powered {} sensor t) ∧ (s.pins.resetLine = true → dark powered t)) ∧
    (∀ sensor, ∃ t, exec (.pinReset sensor) s = .next t ∧
      (s.pins.powerGood = true → starts let_go {} sensor t) ∧ (s.pins.powerGood = false → dark let_go t)) ∧
    (∃ t, exec .resetLineAsserted s = .next t ∧ dark { s.pins with resetLine := true } t) ∧
    (∃ t, exec .powerLoss s = .next t ∧ dark { s.pins with powerGood := false } t) ∧
    (∀ i tag, s.takes i →
      (s.settings.store.isSome = true → exec (.sRestart tag) s = s.refuses i tag .sRestart .storeBusy) ∧
      (s.settings.store = none → exec (.sRestart tag) s = .next ({ s with link :=
        { s.serving i tag .sRestart with restartSlot := some (s.link.restartSlot.getD i) }.answer i (.ok .none) }))) ∧
    (∀ i, s.running = true → s.link.transmitter = .sending (.reply i) → s.link.restartSlot = some i →
      ∃ t sensor, exec .transmitFrameEnd s = .next t ∧
        starts s.pins { calendar := s.time.calendar, msPhase := s.time.msPhase } sensor t)

/-- The laws of the tier 3 statements hold right after reset (log 3). -/
def Obligations.LawsAtReset : Prop :=
  let s := State.reset
  Memory.wf s.flash.cells = true ∧ s.items.accountLaw ∧ s.withinSizes ∧ s.belt.namesLaw ∧
  s.settings.host.fault = none ∧
  s.belt.speedLaw s.settings.host.vmax ∧ s.release.tokenLaw ∧ s.tariff.bankLaw

/-! ## The laws that every step keeps -/

/-- Every step keeps the tariff memory in its canonical form (log 5), the account of the items (R121), every
bounded store within its size (R113, R118, R140, R194, R196), and the names of the queue's entries apart (log 18). -/
def Obligations.StepKeepsMemoryAccountsAndSizes : Prop :=
  ∀ (s t : State), Memory.wf s.flash.cells = true ∧ s.items.accountLaw ∧ s.withinSizes ∧ s.belt.namesLaw →
      step s = .next t →
    Memory.wf t.flash.cells = true ∧ t.items.accountLaw ∧ t.withinSizes ∧ t.belt.namesLaw

/-- Every step keeps the host fields of the settings within their conditions (R138, R200), the speed law (R128), the
token law (R161) and the bank law (R39). -/
def Obligations.StepKeepsSpeedTokenAndBanks : Prop :=
  ∀ (s t : State), s.settings.host.fault = none ∧ s.belt.speedLaw s.settings.host.vmax ∧ s.release.tokenLaw ∧
      s.tariff.bankLaw → step s = .next t →
    t.settings.host.fault = none ∧ t.belt.speedLaw t.settings.host.vmax ∧ t.release.tokenLaw ∧ t.tariff.bankLaw
end

