-- ==== Sys2Proof/Laws/State.lean ====
section
/-! SUPPORT. What each update of State does to each field, by rfl, and reading back what was written to the
records of one value per position, per axis and per bank. -/

namespace Sys2Proof

/-! ## Six, Three, Two -/

namespace Six
variable {α : Type}

@[simp] theorem get_set_self (v : Six α) (k : Pos) (x : α) : (v.set k x).get k = x := by
  cases k <;> rfl
theorem get_set_ne (v : Six α) {k q : Pos} (x : α) (h : q ≠ k) : (v.set k x).get q = v.get q := by
  cases k <;> cases q <;> first | rfl | exact absurd rfl h
@[simp] theorem set_get (v : Six α) (k : Pos) : v.set k (v.get k) = v := by cases k <;> rfl
@[simp] theorem get_fill (x : α) (k : Pos) : (Six.fill x).get k = x := by cases k <;> rfl
@[simp] theorem get_map {β : Type} (f : α → β) (v : Six α) (k : Pos) : (v.map f).get k = f (v.get k) := by
  cases k <;> rfl
@[simp] theorem get_of (f : Pos → α) (k : Pos) : (Six.of f).get k = f k := by cases k <;> rfl

end Six

namespace Three
variable {α : Type}

@[simp] theorem get_set_self (v : Three α) (a : Axis) (x : α) : (v.set a x).get a = x := by
  cases a <;> rfl
theorem get_set_ne (v : Three α) {a b : Axis} (x : α) (h : b ≠ a) : (v.set a x).get b = v.get b := by
  cases a <;> cases b <;> first | rfl | exact absurd rfl h
@[simp] theorem get_fill (x : α) (a : Axis) : (Three.fill x).get a = x := by cases a <;> rfl
@[simp] theorem get_map {β : Type} (f : α → β) (v : Three α) (a : Axis) : (v.map f).get a = f (v.get a) := by
  cases a <;> rfl

end Three

namespace Two
variable {α : Type}

@[simp] theorem get_set_self (v : Two α) (k : Bank) (x : α) : (v.set k x).get k = x := by
  cases k <;> rfl
@[simp] theorem get_set_other (v : Two α) (k : Bank) (x : α) : (v.set k x).get k.other = v.get k.other := by
  cases k <;> rfl
@[simp] theorem get_fill (x : α) (k : Bank) : (Two.fill x).get k = x := by cases k <;> rfl

end Two

end Sys2Proof

namespace Sys2Proof.Machine.State
variable (s : State)


/-! ## onWeighing -/

@[simp] theorem onWeighing_pins (f : Weighing → Weighing) : (s.onWeighing f).pins = s.pins := rfl
@[simp] theorem onWeighing_weighing (f : Weighing → Weighing) : (s.onWeighing f).weighing = f s.weighing := rfl
@[simp] theorem onWeighing_gauges (f : Weighing → Weighing) : (s.onWeighing f).gauges = s.gauges := rfl
@[simp] theorem onWeighing_tariff (f : Weighing → Weighing) : (s.onWeighing f).tariff = s.tariff := rfl
@[simp] theorem onWeighing_flash (f : Weighing → Weighing) : (s.onWeighing f).flash = s.flash := rfl
@[simp] theorem onWeighing_port (f : Weighing → Weighing) : (s.onWeighing f).port = s.port := rfl
@[simp] theorem onWeighing_cache (f : Weighing → Weighing) : (s.onWeighing f).cache = s.cache := rfl
@[simp] theorem onWeighing_rating (f : Weighing → Weighing) : (s.onWeighing f).rating = s.rating := rfl
@[simp] theorem onWeighing_items (f : Weighing → Weighing) : (s.onWeighing f).items = s.items := rfl
@[simp] theorem onWeighing_belt (f : Weighing → Weighing) : (s.onWeighing f).belt = s.belt := rfl
@[simp] theorem onWeighing_release (f : Weighing → Weighing) : (s.onWeighing f).release = s.release := rfl
@[simp] theorem onWeighing_label (f : Weighing → Weighing) : (s.onWeighing f).label = s.label := rfl
@[simp] theorem onWeighing_link (f : Weighing → Weighing) : (s.onWeighing f).link = s.link := rfl
@[simp] theorem onWeighing_time (f : Weighing → Weighing) : (s.onWeighing f).time = s.time := rfl
@[simp] theorem onWeighing_settings (f : Weighing → Weighing) : (s.onWeighing f).settings = s.settings := rfl
@[simp] theorem onWeighing_fresh (f : Weighing → Weighing) : (s.onWeighing f).fresh = s.fresh := rfl
@[simp] theorem onWeighing_pending (f : Weighing → Weighing) : (s.onWeighing f).pending = s.pending := rfl

/-! ## onTariff -/

@[simp] theorem onTariff_pins (f : Tariff → Tariff) : (s.onTariff f).pins = s.pins := rfl
@[simp] theorem onTariff_weighing (f : Tariff → Tariff) : (s.onTariff f).weighing = s.weighing := rfl
@[simp] theorem onTariff_gauges (f : Tariff → Tariff) : (s.onTariff f).gauges = s.gauges := rfl
@[simp] theorem onTariff_tariff (f : Tariff → Tariff) : (s.onTariff f).tariff = f s.tariff := rfl
@[simp] theorem onTariff_flash (f : Tariff → Tariff) : (s.onTariff f).flash = s.flash := rfl
@[simp] theorem onTariff_port (f : Tariff → Tariff) : (s.onTariff f).port = s.port := rfl
@[simp] theorem onTariff_cache (f : Tariff → Tariff) : (s.onTariff f).cache = s.cache := rfl
@[simp] theorem onTariff_rating (f : Tariff → Tariff) : (s.onTariff f).rating = s.rating := rfl
@[simp] theorem onTariff_items (f : Tariff → Tariff) : (s.onTariff f).items = s.items := rfl
@[simp] theorem onTariff_belt (f : Tariff → Tariff) : (s.onTariff f).belt = s.belt := rfl
@[simp] theorem onTariff_release (f : Tariff → Tariff) : (s.onTariff f).release = s.release := rfl
@[simp] theorem onTariff_label (f : Tariff → Tariff) : (s.onTariff f).label = s.label := rfl
@[simp] theorem onTariff_link (f : Tariff → Tariff) : (s.onTariff f).link = s.link := rfl
@[simp] theorem onTariff_time (f : Tariff → Tariff) : (s.onTariff f).time = s.time := rfl
@[simp] theorem onTariff_settings (f : Tariff → Tariff) : (s.onTariff f).settings = s.settings := rfl
@[simp] theorem onTariff_fresh (f : Tariff → Tariff) : (s.onTariff f).fresh = s.fresh := rfl
@[simp] theorem onTariff_pending (f : Tariff → Tariff) : (s.onTariff f).pending = s.pending := rfl

/-! ## onFlash -/

@[simp] theorem onFlash_pins (f : Flash → Flash) : (s.onFlash f).pins = s.pins := rfl
@[simp] theorem onFlash_weighing (f : Flash → Flash) : (s.onFlash f).weighing = s.weighing := rfl
@[simp] theorem onFlash_gauges (f : Flash → Flash) : (s.onFlash f).gauges = s.gauges := rfl
@[simp] theorem onFlash_tariff (f : Flash → Flash) : (s.onFlash f).tariff = s.tariff := rfl
@[simp] theorem onFlash_flash (f : Flash → Flash) : (s.onFlash f).flash = f s.flash := rfl
@[simp] theorem onFlash_port (f : Flash → Flash) : (s.onFlash f).port = s.port := rfl
@[simp] theorem onFlash_cache (f : Flash → Flash) : (s.onFlash f).cache = s.cache := rfl
@[simp] theorem onFlash_rating (f : Flash → Flash) : (s.onFlash f).rating = s.rating := rfl
@[simp] theorem onFlash_items (f : Flash → Flash) : (s.onFlash f).items = s.items := rfl
@[simp] theorem onFlash_belt (f : Flash → Flash) : (s.onFlash f).belt = s.belt := rfl
@[simp] theorem onFlash_release (f : Flash → Flash) : (s.onFlash f).release = s.release := rfl
@[simp] theorem onFlash_label (f : Flash → Flash) : (s.onFlash f).label = s.label := rfl
@[simp] theorem onFlash_link (f : Flash → Flash) : (s.onFlash f).link = s.link := rfl
@[simp] theorem onFlash_time (f : Flash → Flash) : (s.onFlash f).time = s.time := rfl
@[simp] theorem onFlash_settings (f : Flash → Flash) : (s.onFlash f).settings = s.settings := rfl
@[simp] theorem onFlash_fresh (f : Flash → Flash) : (s.onFlash f).fresh = s.fresh := rfl
@[simp] theorem onFlash_pending (f : Flash → Flash) : (s.onFlash f).pending = s.pending := rfl

/-! ## onPort -/

@[simp] theorem onPort_pins (f : Port → Port) : (s.onPort f).pins = s.pins := rfl
@[simp] theorem onPort_weighing (f : Port → Port) : (s.onPort f).weighing = s.weighing := rfl
@[simp] theorem onPort_gauges (f : Port → Port) : (s.onPort f).gauges = s.gauges := rfl
@[simp] theorem onPort_tariff (f : Port → Port) : (s.onPort f).tariff = s.tariff := rfl
@[simp] theorem onPort_flash (f : Port → Port) : (s.onPort f).flash = s.flash := rfl
@[simp] theorem onPort_port (f : Port → Port) : (s.onPort f).port = f s.port := rfl
@[simp] theorem onPort_cache (f : Port → Port) : (s.onPort f).cache = s.cache := rfl
@[simp] theorem onPort_rating (f : Port → Port) : (s.onPort f).rating = s.rating := rfl
@[simp] theorem onPort_items (f : Port → Port) : (s.onPort f).items = s.items := rfl
@[simp] theorem onPort_belt (f : Port → Port) : (s.onPort f).belt = s.belt := rfl
@[simp] theorem onPort_release (f : Port → Port) : (s.onPort f).release = s.release := rfl
@[simp] theorem onPort_label (f : Port → Port) : (s.onPort f).label = s.label := rfl
@[simp] theorem onPort_link (f : Port → Port) : (s.onPort f).link = s.link := rfl
@[simp] theorem onPort_time (f : Port → Port) : (s.onPort f).time = s.time := rfl
@[simp] theorem onPort_settings (f : Port → Port) : (s.onPort f).settings = s.settings := rfl
@[simp] theorem onPort_fresh (f : Port → Port) : (s.onPort f).fresh = s.fresh := rfl
@[simp] theorem onPort_pending (f : Port → Port) : (s.onPort f).pending = s.pending := rfl

/-! ## onCache -/

@[simp] theorem onCache_pins (f : Cache → Cache) : (s.onCache f).pins = s.pins := rfl
@[simp] theorem onCache_weighing (f : Cache → Cache) : (s.onCache f).weighing = s.weighing := rfl
@[simp] theorem onCache_gauges (f : Cache → Cache) : (s.onCache f).gauges = s.gauges := rfl
@[simp] theorem onCache_tariff (f : Cache → Cache) : (s.onCache f).tariff = s.tariff := rfl
@[simp] theorem onCache_flash (f : Cache → Cache) : (s.onCache f).flash = s.flash := rfl
@[simp] theorem onCache_port (f : Cache → Cache) : (s.onCache f).port = s.port := rfl
@[simp] theorem onCache_cache (f : Cache → Cache) : (s.onCache f).cache = f s.cache := rfl
@[simp] theorem onCache_rating (f : Cache → Cache) : (s.onCache f).rating = s.rating := rfl
@[simp] theorem onCache_items (f : Cache → Cache) : (s.onCache f).items = s.items := rfl
@[simp] theorem onCache_belt (f : Cache → Cache) : (s.onCache f).belt = s.belt := rfl
@[simp] theorem onCache_release (f : Cache → Cache) : (s.onCache f).release = s.release := rfl
@[simp] theorem onCache_label (f : Cache → Cache) : (s.onCache f).label = s.label := rfl
@[simp] theorem onCache_link (f : Cache → Cache) : (s.onCache f).link = s.link := rfl
@[simp] theorem onCache_time (f : Cache → Cache) : (s.onCache f).time = s.time := rfl
@[simp] theorem onCache_settings (f : Cache → Cache) : (s.onCache f).settings = s.settings := rfl
@[simp] theorem onCache_fresh (f : Cache → Cache) : (s.onCache f).fresh = s.fresh := rfl
@[simp] theorem onCache_pending (f : Cache → Cache) : (s.onCache f).pending = s.pending := rfl

/-! ## onRating -/

@[simp] theorem onRating_pins (f : Rating → Rating) : (s.onRating f).pins = s.pins := rfl
@[simp] theorem onRating_weighing (f : Rating → Rating) : (s.onRating f).weighing = s.weighing := rfl
@[simp] theorem onRating_gauges (f : Rating → Rating) : (s.onRating f).gauges = s.gauges := rfl
@[simp] theorem onRating_tariff (f : Rating → Rating) : (s.onRating f).tariff = s.tariff := rfl
@[simp] theorem onRating_flash (f : Rating → Rating) : (s.onRating f).flash = s.flash := rfl
@[simp] theorem onRating_port (f : Rating → Rating) : (s.onRating f).port = s.port := rfl
@[simp] theorem onRating_cache (f : Rating → Rating) : (s.onRating f).cache = s.cache := rfl
@[simp] theorem onRating_rating (f : Rating → Rating) : (s.onRating f).rating = f s.rating := rfl
@[simp] theorem onRating_items (f : Rating → Rating) : (s.onRating f).items = s.items := rfl
@[simp] theorem onRating_belt (f : Rating → Rating) : (s.onRating f).belt = s.belt := rfl
@[simp] theorem onRating_release (f : Rating → Rating) : (s.onRating f).release = s.release := rfl
@[simp] theorem onRating_label (f : Rating → Rating) : (s.onRating f).label = s.label := rfl
@[simp] theorem onRating_link (f : Rating → Rating) : (s.onRating f).link = s.link := rfl
@[simp] theorem onRating_time (f : Rating → Rating) : (s.onRating f).time = s.time := rfl
@[simp] theorem onRating_settings (f : Rating → Rating) : (s.onRating f).settings = s.settings := rfl
@[simp] theorem onRating_fresh (f : Rating → Rating) : (s.onRating f).fresh = s.fresh := rfl
@[simp] theorem onRating_pending (f : Rating → Rating) : (s.onRating f).pending = s.pending := rfl

/-! ## onItems -/

@[simp] theorem onItems_pins (f : Items → Items) : (s.onItems f).pins = s.pins := rfl
@[simp] theorem onItems_weighing (f : Items → Items) : (s.onItems f).weighing = s.weighing := rfl
@[simp] theorem onItems_gauges (f : Items → Items) : (s.onItems f).gauges = s.gauges := rfl
@[simp] theorem onItems_tariff (f : Items → Items) : (s.onItems f).tariff = s.tariff := rfl
@[simp] theorem onItems_flash (f : Items → Items) : (s.onItems f).flash = s.flash := rfl
@[simp] theorem onItems_port (f : Items → Items) : (s.onItems f).port = s.port := rfl
@[simp] theorem onItems_cache (f : Items → Items) : (s.onItems f).cache = s.cache := rfl
@[simp] theorem onItems_rating (f : Items → Items) : (s.onItems f).rating = s.rating := rfl
@[simp] theorem onItems_items (f : Items → Items) : (s.onItems f).items = f s.items := rfl
@[simp] theorem onItems_belt (f : Items → Items) : (s.onItems f).belt = s.belt := rfl
@[simp] theorem onItems_release (f : Items → Items) : (s.onItems f).release = s.release := rfl
@[simp] theorem onItems_label (f : Items → Items) : (s.onItems f).label = s.label := rfl
@[simp] theorem onItems_link (f : Items → Items) : (s.onItems f).link = s.link := rfl
@[simp] theorem onItems_time (f : Items → Items) : (s.onItems f).time = s.time := rfl
@[simp] theorem onItems_settings (f : Items → Items) : (s.onItems f).settings = s.settings := rfl
@[simp] theorem onItems_fresh (f : Items → Items) : (s.onItems f).fresh = s.fresh := rfl
@[simp] theorem onItems_pending (f : Items → Items) : (s.onItems f).pending = s.pending := rfl

/-! ## onBelt -/

@[simp] theorem onBelt_pins (f : Belt → Belt) : (s.onBelt f).pins = s.pins := rfl
@[simp] theorem onBelt_weighing (f : Belt → Belt) : (s.onBelt f).weighing = s.weighing := rfl
@[simp] theorem onBelt_gauges (f : Belt → Belt) : (s.onBelt f).gauges = s.gauges := rfl
@[simp] theorem onBelt_tariff (f : Belt → Belt) : (s.onBelt f).tariff = s.tariff := rfl
@[simp] theorem onBelt_flash (f : Belt → Belt) : (s.onBelt f).flash = s.flash := rfl
@[simp] theorem onBelt_port (f : Belt → Belt) : (s.onBelt f).port = s.port := rfl
@[simp] theorem onBelt_cache (f : Belt → Belt) : (s.onBelt f).cache = s.cache := rfl
@[simp] theorem onBelt_rating (f : Belt → Belt) : (s.onBelt f).rating = s.rating := rfl
@[simp] theorem onBelt_items (f : Belt → Belt) : (s.onBelt f).items = s.items := rfl
@[simp] theorem onBelt_belt (f : Belt → Belt) : (s.onBelt f).belt = f s.belt := rfl
@[simp] theorem onBelt_release (f : Belt → Belt) : (s.onBelt f).release = s.release := rfl
@[simp] theorem onBelt_label (f : Belt → Belt) : (s.onBelt f).label = s.label := rfl
@[simp] theorem onBelt_link (f : Belt → Belt) : (s.onBelt f).link = s.link := rfl
@[simp] theorem onBelt_time (f : Belt → Belt) : (s.onBelt f).time = s.time := rfl
@[simp] theorem onBelt_settings (f : Belt → Belt) : (s.onBelt f).settings = s.settings := rfl
@[simp] theorem onBelt_fresh (f : Belt → Belt) : (s.onBelt f).fresh = s.fresh := rfl
@[simp] theorem onBelt_pending (f : Belt → Belt) : (s.onBelt f).pending = s.pending := rfl

/-! ## onRelease -/

@[simp] theorem onRelease_pins (f : Release → Release) : (s.onRelease f).pins = s.pins := rfl
@[simp] theorem onRelease_weighing (f : Release → Release) : (s.onRelease f).weighing = s.weighing := rfl
@[simp] theorem onRelease_gauges (f : Release → Release) : (s.onRelease f).gauges = s.gauges := rfl
@[simp] theorem onRelease_tariff (f : Release → Release) : (s.onRelease f).tariff = s.tariff := rfl
@[simp] theorem onRelease_flash (f : Release → Release) : (s.onRelease f).flash = s.flash := rfl
@[simp] theorem onRelease_port (f : Release → Release) : (s.onRelease f).port = s.port := rfl
@[simp] theorem onRelease_cache (f : Release → Release) : (s.onRelease f).cache = s.cache := rfl
@[simp] theorem onRelease_rating (f : Release → Release) : (s.onRelease f).rating = s.rating := rfl
@[simp] theorem onRelease_items (f : Release → Release) : (s.onRelease f).items = s.items := rfl
@[simp] theorem onRelease_belt (f : Release → Release) : (s.onRelease f).belt = s.belt := rfl
@[simp] theorem onRelease_release (f : Release → Release) : (s.onRelease f).release = f s.release := rfl
@[simp] theorem onRelease_label (f : Release → Release) : (s.onRelease f).label = s.label := rfl
@[simp] theorem onRelease_link (f : Release → Release) : (s.onRelease f).link = s.link := rfl
@[simp] theorem onRelease_time (f : Release → Release) : (s.onRelease f).time = s.time := rfl
@[simp] theorem onRelease_settings (f : Release → Release) : (s.onRelease f).settings = s.settings := rfl
@[simp] theorem onRelease_fresh (f : Release → Release) : (s.onRelease f).fresh = s.fresh := rfl
@[simp] theorem onRelease_pending (f : Release → Release) : (s.onRelease f).pending = s.pending := rfl

/-! ## onLabel -/

@[simp] theorem onLabel_pins (f : LabelUnit → LabelUnit) : (s.onLabel f).pins = s.pins := rfl
@[simp] theorem onLabel_weighing (f : LabelUnit → LabelUnit) : (s.onLabel f).weighing = s.weighing := rfl
@[simp] theorem onLabel_gauges (f : LabelUnit → LabelUnit) : (s.onLabel f).gauges = s.gauges := rfl
@[simp] theorem onLabel_tariff (f : LabelUnit → LabelUnit) : (s.onLabel f).tariff = s.tariff := rfl
@[simp] theorem onLabel_flash (f : LabelUnit → LabelUnit) : (s.onLabel f).flash = s.flash := rfl
@[simp] theorem onLabel_port (f : LabelUnit → LabelUnit) : (s.onLabel f).port = s.port := rfl
@[simp] theorem onLabel_cache (f : LabelUnit → LabelUnit) : (s.onLabel f).cache = s.cache := rfl
@[simp] theorem onLabel_rating (f : LabelUnit → LabelUnit) : (s.onLabel f).rating = s.rating := rfl
@[simp] theorem onLabel_items (f : LabelUnit → LabelUnit) : (s.onLabel f).items = s.items := rfl
@[simp] theorem onLabel_belt (f : LabelUnit → LabelUnit) : (s.onLabel f).belt = s.belt := rfl
@[simp] theorem onLabel_release (f : LabelUnit → LabelUnit) : (s.onLabel f).release = s.release := rfl
@[simp] theorem onLabel_label (f : LabelUnit → LabelUnit) : (s.onLabel f).label = f s.label := rfl
@[simp] theorem onLabel_link (f : LabelUnit → LabelUnit) : (s.onLabel f).link = s.link := rfl
@[simp] theorem onLabel_time (f : LabelUnit → LabelUnit) : (s.onLabel f).time = s.time := rfl
@[simp] theorem onLabel_settings (f : LabelUnit → LabelUnit) : (s.onLabel f).settings = s.settings := rfl
@[simp] theorem onLabel_fresh (f : LabelUnit → LabelUnit) : (s.onLabel f).fresh = s.fresh := rfl
@[simp] theorem onLabel_pending (f : LabelUnit → LabelUnit) : (s.onLabel f).pending = s.pending := rfl

/-! ## onLink -/

@[simp] theorem onLink_pins (f : Link → Link) : (s.onLink f).pins = s.pins := rfl
@[simp] theorem onLink_weighing (f : Link → Link) : (s.onLink f).weighing = s.weighing := rfl
@[simp] theorem onLink_gauges (f : Link → Link) : (s.onLink f).gauges = s.gauges := rfl
@[simp] theorem onLink_tariff (f : Link → Link) : (s.onLink f).tariff = s.tariff := rfl
@[simp] theorem onLink_flash (f : Link → Link) : (s.onLink f).flash = s.flash := rfl
@[simp] theorem onLink_port (f : Link → Link) : (s.onLink f).port = s.port := rfl
@[simp] theorem onLink_cache (f : Link → Link) : (s.onLink f).cache = s.cache := rfl
@[simp] theorem onLink_rating (f : Link → Link) : (s.onLink f).rating = s.rating := rfl
@[simp] theorem onLink_items (f : Link → Link) : (s.onLink f).items = s.items := rfl
@[simp] theorem onLink_belt (f : Link → Link) : (s.onLink f).belt = s.belt := rfl
@[simp] theorem onLink_release (f : Link → Link) : (s.onLink f).release = s.release := rfl
@[simp] theorem onLink_label (f : Link → Link) : (s.onLink f).label = s.label := rfl
@[simp] theorem onLink_link (f : Link → Link) : (s.onLink f).link = f s.link := rfl
@[simp] theorem onLink_time (f : Link → Link) : (s.onLink f).time = s.time := rfl
@[simp] theorem onLink_settings (f : Link → Link) : (s.onLink f).settings = s.settings := rfl
@[simp] theorem onLink_fresh (f : Link → Link) : (s.onLink f).fresh = s.fresh := rfl
@[simp] theorem onLink_pending (f : Link → Link) : (s.onLink f).pending = s.pending := rfl

/-! ## onTime -/

@[simp] theorem onTime_pins (f : Time → Time) : (s.onTime f).pins = s.pins := rfl
@[simp] theorem onTime_weighing (f : Time → Time) : (s.onTime f).weighing = s.weighing := rfl
@[simp] theorem onTime_gauges (f : Time → Time) : (s.onTime f).gauges = s.gauges := rfl
@[simp] theorem onTime_tariff (f : Time → Time) : (s.onTime f).tariff = s.tariff := rfl
@[simp] theorem onTime_flash (f : Time → Time) : (s.onTime f).flash = s.flash := rfl
@[simp] theorem onTime_port (f : Time → Time) : (s.onTime f).port = s.port := rfl
@[simp] theorem onTime_cache (f : Time → Time) : (s.onTime f).cache = s.cache := rfl
@[simp] theorem onTime_rating (f : Time → Time) : (s.onTime f).rating = s.rating := rfl
@[simp] theorem onTime_items (f : Time → Time) : (s.onTime f).items = s.items := rfl
@[simp] theorem onTime_belt (f : Time → Time) : (s.onTime f).belt = s.belt := rfl
@[simp] theorem onTime_release (f : Time → Time) : (s.onTime f).release = s.release := rfl
@[simp] theorem onTime_label (f : Time → Time) : (s.onTime f).label = s.label := rfl
@[simp] theorem onTime_link (f : Time → Time) : (s.onTime f).link = s.link := rfl
@[simp] theorem onTime_time (f : Time → Time) : (s.onTime f).time = f s.time := rfl
@[simp] theorem onTime_settings (f : Time → Time) : (s.onTime f).settings = s.settings := rfl
@[simp] theorem onTime_fresh (f : Time → Time) : (s.onTime f).fresh = s.fresh := rfl
@[simp] theorem onTime_pending (f : Time → Time) : (s.onTime f).pending = s.pending := rfl

/-! ## onSettings -/

@[simp] theorem onSettings_pins (f : Settings → Settings) : (s.onSettings f).pins = s.pins := rfl
@[simp] theorem onSettings_weighing (f : Settings → Settings) : (s.onSettings f).weighing = s.weighing := rfl
@[simp] theorem onSettings_gauges (f : Settings → Settings) : (s.onSettings f).gauges = s.gauges := rfl
@[simp] theorem onSettings_tariff (f : Settings → Settings) : (s.onSettings f).tariff = s.tariff := rfl
@[simp] theorem onSettings_flash (f : Settings → Settings) : (s.onSettings f).flash = s.flash := rfl
@[simp] theorem onSettings_port (f : Settings → Settings) : (s.onSettings f).port = s.port := rfl
@[simp] theorem onSettings_cache (f : Settings → Settings) : (s.onSettings f).cache = s.cache := rfl
@[simp] theorem onSettings_rating (f : Settings → Settings) : (s.onSettings f).rating = s.rating := rfl
@[simp] theorem onSettings_items (f : Settings → Settings) : (s.onSettings f).items = s.items := rfl
@[simp] theorem onSettings_belt (f : Settings → Settings) : (s.onSettings f).belt = s.belt := rfl
@[simp] theorem onSettings_release (f : Settings → Settings) : (s.onSettings f).release = s.release := rfl
@[simp] theorem onSettings_label (f : Settings → Settings) : (s.onSettings f).label = s.label := rfl
@[simp] theorem onSettings_link (f : Settings → Settings) : (s.onSettings f).link = s.link := rfl
@[simp] theorem onSettings_time (f : Settings → Settings) : (s.onSettings f).time = s.time := rfl
@[simp] theorem onSettings_settings (f : Settings → Settings) : (s.onSettings f).settings = f s.settings := rfl
@[simp] theorem onSettings_fresh (f : Settings → Settings) : (s.onSettings f).fresh = s.fresh := rfl
@[simp] theorem onSettings_pending (f : Settings → Settings) : (s.onSettings f).pending = s.pending := rfl

/-! ## onPins -/

@[simp] theorem onPins_pins (f : Pins → Pins) : (s.onPins f).pins = f s.pins := rfl
@[simp] theorem onPins_weighing (f : Pins → Pins) : (s.onPins f).weighing = s.weighing := rfl
@[simp] theorem onPins_gauges (f : Pins → Pins) : (s.onPins f).gauges = s.gauges := rfl
@[simp] theorem onPins_tariff (f : Pins → Pins) : (s.onPins f).tariff = s.tariff := rfl
@[simp] theorem onPins_flash (f : Pins → Pins) : (s.onPins f).flash = s.flash := rfl
@[simp] theorem onPins_port (f : Pins → Pins) : (s.onPins f).port = s.port := rfl
@[simp] theorem onPins_cache (f : Pins → Pins) : (s.onPins f).cache = s.cache := rfl
@[simp] theorem onPins_rating (f : Pins → Pins) : (s.onPins f).rating = s.rating := rfl
@[simp] theorem onPins_items (f : Pins → Pins) : (s.onPins f).items = s.items := rfl
@[simp] theorem onPins_belt (f : Pins → Pins) : (s.onPins f).belt = s.belt := rfl
@[simp] theorem onPins_release (f : Pins → Pins) : (s.onPins f).release = s.release := rfl
@[simp] theorem onPins_label (f : Pins → Pins) : (s.onPins f).label = s.label := rfl
@[simp] theorem onPins_link (f : Pins → Pins) : (s.onPins f).link = s.link := rfl
@[simp] theorem onPins_time (f : Pins → Pins) : (s.onPins f).time = s.time := rfl
@[simp] theorem onPins_settings (f : Pins → Pins) : (s.onPins f).settings = s.settings := rfl
@[simp] theorem onPins_fresh (f : Pins → Pins) : (s.onPins f).fresh = s.fresh := rfl
@[simp] theorem onPins_pending (f : Pins → Pins) : (s.onPins f).pending = s.pending := rfl

/-! ## onGauge -/

@[simp] theorem onGauge_pins (k : Pos) (f : Gauge → Gauge) : (s.onGauge k f).pins = s.pins := rfl
@[simp] theorem onGauge_weighing (k : Pos) (f : Gauge → Gauge) : (s.onGauge k f).weighing = s.weighing := rfl
@[simp] theorem onGauge_gauges (k : Pos) (f : Gauge → Gauge) : (s.onGauge k f).gauges = s.gauges.set k (f (s.gauges.get k)) := rfl
@[simp] theorem onGauge_tariff (k : Pos) (f : Gauge → Gauge) : (s.onGauge k f).tariff = s.tariff := rfl
@[simp] theorem onGauge_flash (k : Pos) (f : Gauge → Gauge) : (s.onGauge k f).flash = s.flash := rfl
@[simp] theorem onGauge_port (k : Pos) (f : Gauge → Gauge) : (s.onGauge k f).port = s.port := rfl
@[simp] theorem onGauge_cache (k : Pos) (f : Gauge → Gauge) : (s.onGauge k f).cache = s.cache := rfl
@[simp] theorem onGauge_rating (k : Pos) (f : Gauge → Gauge) : (s.onGauge k f).rating = s.rating := rfl
@[simp] theorem onGauge_items (k : Pos) (f : Gauge → Gauge) : (s.onGauge k f).items = s.items := rfl
@[simp] theorem onGauge_belt (k : Pos) (f : Gauge → Gauge) : (s.onGauge k f).belt = s.belt := rfl
@[simp] theorem onGauge_release (k : Pos) (f : Gauge → Gauge) : (s.onGauge k f).release = s.release := rfl
@[simp] theorem onGauge_label (k : Pos) (f : Gauge → Gauge) : (s.onGauge k f).label = s.label := rfl
@[simp] theorem onGauge_link (k : Pos) (f : Gauge → Gauge) : (s.onGauge k f).link = s.link := rfl
@[simp] theorem onGauge_time (k : Pos) (f : Gauge → Gauge) : (s.onGauge k f).time = s.time := rfl
@[simp] theorem onGauge_settings (k : Pos) (f : Gauge → Gauge) : (s.onGauge k f).settings = s.settings := rfl
@[simp] theorem onGauge_fresh (k : Pos) (f : Gauge → Gauge) : (s.onGauge k f).fresh = s.fresh := rfl
@[simp] theorem onGauge_pending (k : Pos) (f : Gauge → Gauge) : (s.onGauge k f).pending = s.pending := rfl

/-! ## onChannel -/

@[simp] theorem onChannel_pins (k : Pos) (f : Channel → Channel) : (s.onChannel k f).pins = s.pins := rfl
@[simp] theorem onChannel_weighing (k : Pos) (f : Channel → Channel) : (s.onChannel k f).weighing = { s.weighing with channels := s.weighing.channels.set k (f (s.weighing.channels.get k)) } := rfl
@[simp] theorem onChannel_gauges (k : Pos) (f : Channel → Channel) : (s.onChannel k f).gauges = s.gauges := rfl
@[simp] theorem onChannel_tariff (k : Pos) (f : Channel → Channel) : (s.onChannel k f).tariff = s.tariff := rfl
@[simp] theorem onChannel_flash (k : Pos) (f : Channel → Channel) : (s.onChannel k f).flash = s.flash := rfl
@[simp] theorem onChannel_port (k : Pos) (f : Channel → Channel) : (s.onChannel k f).port = s.port := rfl
@[simp] theorem onChannel_cache (k : Pos) (f : Channel → Channel) : (s.onChannel k f).cache = s.cache := rfl
@[simp] theorem onChannel_rating (k : Pos) (f : Channel → Channel) : (s.onChannel k f).rating = s.rating := rfl
@[simp] theorem onChannel_items (k : Pos) (f : Channel → Channel) : (s.onChannel k f).items = s.items := rfl
@[simp] theorem onChannel_belt (k : Pos) (f : Channel → Channel) : (s.onChannel k f).belt = s.belt := rfl
@[simp] theorem onChannel_release (k : Pos) (f : Channel → Channel) : (s.onChannel k f).release = s.release := rfl
@[simp] theorem onChannel_label (k : Pos) (f : Channel → Channel) : (s.onChannel k f).label = s.label := rfl
@[simp] theorem onChannel_link (k : Pos) (f : Channel → Channel) : (s.onChannel k f).link = s.link := rfl
@[simp] theorem onChannel_time (k : Pos) (f : Channel → Channel) : (s.onChannel k f).time = s.time := rfl
@[simp] theorem onChannel_settings (k : Pos) (f : Channel → Channel) : (s.onChannel k f).settings = s.settings := rfl
@[simp] theorem onChannel_fresh (k : Pos) (f : Channel → Channel) : (s.onChannel k f).fresh = s.fresh := rfl
@[simp] theorem onChannel_pending (k : Pos) (f : Channel → Channel) : (s.onChannel k f).pending = s.pending := rfl

/-! ## setOpenSlot -/

@[simp] theorem setOpenSlot_pins (k : Pos) (o : OpenSlot) : (s.setOpenSlot k o).pins = s.pins := rfl
@[simp] theorem setOpenSlot_weighing (k : Pos) (o : OpenSlot) : (s.setOpenSlot k o).weighing = s.weighing := rfl
@[simp] theorem setOpenSlot_gauges (k : Pos) (o : OpenSlot) : (s.setOpenSlot k o).gauges = s.gauges := rfl
@[simp] theorem setOpenSlot_tariff (k : Pos) (o : OpenSlot) : (s.setOpenSlot k o).tariff = s.tariff := rfl
@[simp] theorem setOpenSlot_flash (k : Pos) (o : OpenSlot) : (s.setOpenSlot k o).flash = s.flash := rfl
@[simp] theorem setOpenSlot_port (k : Pos) (o : OpenSlot) : (s.setOpenSlot k o).port = s.port := rfl
@[simp] theorem setOpenSlot_cache (k : Pos) (o : OpenSlot) : (s.setOpenSlot k o).cache = s.cache := rfl
@[simp] theorem setOpenSlot_rating (k : Pos) (o : OpenSlot) : (s.setOpenSlot k o).rating = s.rating := rfl
@[simp] theorem setOpenSlot_items (k : Pos) (o : OpenSlot) : (s.setOpenSlot k o).items = { s.items with slots := s.items.slots.set k o } := rfl
@[simp] theorem setOpenSlot_belt (k : Pos) (o : OpenSlot) : (s.setOpenSlot k o).belt = s.belt := rfl
@[simp] theorem setOpenSlot_release (k : Pos) (o : OpenSlot) : (s.setOpenSlot k o).release = s.release := rfl
@[simp] theorem setOpenSlot_label (k : Pos) (o : OpenSlot) : (s.setOpenSlot k o).label = s.label := rfl
@[simp] theorem setOpenSlot_link (k : Pos) (o : OpenSlot) : (s.setOpenSlot k o).link = s.link := rfl
@[simp] theorem setOpenSlot_time (k : Pos) (o : OpenSlot) : (s.setOpenSlot k o).time = s.time := rfl
@[simp] theorem setOpenSlot_settings (k : Pos) (o : OpenSlot) : (s.setOpenSlot k o).settings = s.settings := rfl
@[simp] theorem setOpenSlot_fresh (k : Pos) (o : OpenSlot) : (s.setOpenSlot k o).fresh = s.fresh := rfl
@[simp] theorem setOpenSlot_pending (k : Pos) (o : OpenSlot) : (s.setOpenSlot k o).pending = s.pending := rfl

/-! ## onPlace -/

@[simp] theorem onPlace_pins (k : Pos) (f : Place → Place) : (s.onPlace k f).pins = s.pins := rfl
@[simp] theorem onPlace_weighing (k : Pos) (f : Place → Place) : (s.onPlace k f).weighing = s.weighing := rfl
@[simp] theorem onPlace_gauges (k : Pos) (f : Place → Place) : (s.onPlace k f).gauges = s.gauges := rfl
@[simp] theorem onPlace_tariff (k : Pos) (f : Place → Place) : (s.onPlace k f).tariff = s.tariff := rfl
@[simp] theorem onPlace_flash (k : Pos) (f : Place → Place) : (s.onPlace k f).flash = s.flash := rfl
@[simp] theorem onPlace_port (k : Pos) (f : Place → Place) : (s.onPlace k f).port = s.port := rfl
@[simp] theorem onPlace_cache (k : Pos) (f : Place → Place) : (s.onPlace k f).cache = s.cache := rfl
@[simp] theorem onPlace_rating (k : Pos) (f : Place → Place) : (s.onPlace k f).rating = s.rating := rfl
@[simp] theorem onPlace_items (k : Pos) (f : Place → Place) : (s.onPlace k f).items = s.items := rfl
@[simp] theorem onPlace_belt (k : Pos) (f : Place → Place) : (s.onPlace k f).belt = s.belt := rfl
@[simp] theorem onPlace_release (k : Pos) (f : Place → Place) : (s.onPlace k f).release = { s.release with places := s.release.places.set k (f (s.release.places.get k)) } := rfl
@[simp] theorem onPlace_label (k : Pos) (f : Place → Place) : (s.onPlace k f).label = s.label := rfl
@[simp] theorem onPlace_link (k : Pos) (f : Place → Place) : (s.onPlace k f).link = s.link := rfl
@[simp] theorem onPlace_time (k : Pos) (f : Place → Place) : (s.onPlace k f).time = s.time := rfl
@[simp] theorem onPlace_settings (k : Pos) (f : Place → Place) : (s.onPlace k f).settings = s.settings := rfl
@[simp] theorem onPlace_fresh (k : Pos) (f : Place → Place) : (s.onPlace k f).fresh = s.fresh := rfl
@[simp] theorem onPlace_pending (k : Pos) (f : Place → Place) : (s.onPlace k f).pending = s.pending := rfl

/-! ## onBank -/

@[simp] theorem onBank_pins (k : Bank) (f : BankRec → BankRec) : (s.onBank k f).pins = s.pins := rfl
@[simp] theorem onBank_weighing (k : Bank) (f : BankRec → BankRec) : (s.onBank k f).weighing = s.weighing := rfl
@[simp] theorem onBank_gauges (k : Bank) (f : BankRec → BankRec) : (s.onBank k f).gauges = s.gauges := rfl
@[simp] theorem onBank_tariff (k : Bank) (f : BankRec → BankRec) : (s.onBank k f).tariff = { s.tariff with banks := s.tariff.banks.set k (f (s.tariff.banks.get k)) } := rfl
@[simp] theorem onBank_flash (k : Bank) (f : BankRec → BankRec) : (s.onBank k f).flash = s.flash := rfl
@[simp] theorem onBank_port (k : Bank) (f : BankRec → BankRec) : (s.onBank k f).port = s.port := rfl
@[simp] theorem onBank_cache (k : Bank) (f : BankRec → BankRec) : (s.onBank k f).cache = s.cache := rfl
@[simp] theorem onBank_rating (k : Bank) (f : BankRec → BankRec) : (s.onBank k f).rating = s.rating := rfl
@[simp] theorem onBank_items (k : Bank) (f : BankRec → BankRec) : (s.onBank k f).items = s.items := rfl
@[simp] theorem onBank_belt (k : Bank) (f : BankRec → BankRec) : (s.onBank k f).belt = s.belt := rfl
@[simp] theorem onBank_release (k : Bank) (f : BankRec → BankRec) : (s.onBank k f).release = s.release := rfl
@[simp] theorem onBank_label (k : Bank) (f : BankRec → BankRec) : (s.onBank k f).label = s.label := rfl
@[simp] theorem onBank_link (k : Bank) (f : BankRec → BankRec) : (s.onBank k f).link = s.link := rfl
@[simp] theorem onBank_time (k : Bank) (f : BankRec → BankRec) : (s.onBank k f).time = s.time := rfl
@[simp] theorem onBank_settings (k : Bank) (f : BankRec → BankRec) : (s.onBank k f).settings = s.settings := rfl
@[simp] theorem onBank_fresh (k : Bank) (f : BankRec → BankRec) : (s.onBank k f).fresh = s.fresh := rfl
@[simp] theorem onBank_pending (k : Bank) (f : BankRec → BankRec) : (s.onBank k f).pending = s.pending := rfl

/-! ## offer -/

@[simp] theorem offer_pins (n : Notice) : (s.offer n).pins = s.pins := rfl
@[simp] theorem offer_weighing (n : Notice) : (s.offer n).weighing = s.weighing := rfl
@[simp] theorem offer_gauges (n : Notice) : (s.offer n).gauges = s.gauges := rfl
@[simp] theorem offer_tariff (n : Notice) : (s.offer n).tariff = s.tariff := rfl
@[simp] theorem offer_flash (n : Notice) : (s.offer n).flash = s.flash := rfl
@[simp] theorem offer_port (n : Notice) : (s.offer n).port = s.port := rfl
@[simp] theorem offer_cache (n : Notice) : (s.offer n).cache = s.cache := rfl
@[simp] theorem offer_rating (n : Notice) : (s.offer n).rating = s.rating := rfl
@[simp] theorem offer_items (n : Notice) : (s.offer n).items = s.items := rfl
@[simp] theorem offer_belt (n : Notice) : (s.offer n).belt = s.belt := rfl
@[simp] theorem offer_release (n : Notice) : (s.offer n).release = s.release := rfl
@[simp] theorem offer_label (n : Notice) : (s.offer n).label = s.label := rfl
@[simp] theorem offer_link (n : Notice) : (s.offer n).link = Link.offer n s.link := rfl
@[simp] theorem offer_time (n : Notice) : (s.offer n).time = s.time := rfl
@[simp] theorem offer_settings (n : Notice) : (s.offer n).settings = s.settings := rfl
@[simp] theorem offer_fresh (n : Notice) : (s.offer n).fresh = s.fresh := rfl
@[simp] theorem offer_pending (n : Notice) : (s.offer n).pending = s.pending := rfl

/-! ## answer -/

@[simp] theorem answer_pins (i : SlotId) (r : Reply) : (s.answer i r).pins = s.pins := rfl
@[simp] theorem answer_weighing (i : SlotId) (r : Reply) : (s.answer i r).weighing = s.weighing := rfl
@[simp] theorem answer_gauges (i : SlotId) (r : Reply) : (s.answer i r).gauges = s.gauges := rfl
@[simp] theorem answer_tariff (i : SlotId) (r : Reply) : (s.answer i r).tariff = s.tariff := rfl
@[simp] theorem answer_flash (i : SlotId) (r : Reply) : (s.answer i r).flash = s.flash := rfl
@[simp] theorem answer_port (i : SlotId) (r : Reply) : (s.answer i r).port = s.port := rfl
@[simp] theorem answer_cache (i : SlotId) (r : Reply) : (s.answer i r).cache = s.cache := rfl
@[simp] theorem answer_rating (i : SlotId) (r : Reply) : (s.answer i r).rating = s.rating := rfl
@[simp] theorem answer_items (i : SlotId) (r : Reply) : (s.answer i r).items = s.items := rfl
@[simp] theorem answer_belt (i : SlotId) (r : Reply) : (s.answer i r).belt = s.belt := rfl
@[simp] theorem answer_release (i : SlotId) (r : Reply) : (s.answer i r).release = s.release := rfl
@[simp] theorem answer_label (i : SlotId) (r : Reply) : (s.answer i r).label = s.label := rfl
@[simp] theorem answer_link (i : SlotId) (r : Reply) : (s.answer i r).link = Link.answer i r s.link := rfl
@[simp] theorem answer_time (i : SlotId) (r : Reply) : (s.answer i r).time = s.time := rfl
@[simp] theorem answer_settings (i : SlotId) (r : Reply) : (s.answer i r).settings = s.settings := rfl
@[simp] theorem answer_fresh (i : SlotId) (r : Reply) : (s.answer i r).fresh = s.fresh := rfl
@[simp] theorem answer_pending (i : SlotId) (r : Reply) : (s.answer i r).pending = s.pending := rfl

/-! ## ask -/

@[simp] theorem ask_pins (a : Access) : (s.ask a).pins = s.pins := rfl
@[simp] theorem ask_weighing (a : Access) : (s.ask a).weighing = s.weighing := rfl
@[simp] theorem ask_gauges (a : Access) : (s.ask a).gauges = s.gauges := rfl
@[simp] theorem ask_tariff (a : Access) : (s.ask a).tariff = s.tariff := rfl
@[simp] theorem ask_flash (a : Access) : (s.ask a).flash = s.flash := rfl
@[simp] theorem ask_port (a : Access) : (s.ask a).port = Port.ask a s.port := rfl
@[simp] theorem ask_cache (a : Access) : (s.ask a).cache = s.cache := rfl
@[simp] theorem ask_rating (a : Access) : (s.ask a).rating = s.rating := rfl
@[simp] theorem ask_items (a : Access) : (s.ask a).items = s.items := rfl
@[simp] theorem ask_belt (a : Access) : (s.ask a).belt = s.belt := rfl
@[simp] theorem ask_release (a : Access) : (s.ask a).release = s.release := rfl
@[simp] theorem ask_label (a : Access) : (s.ask a).label = s.label := rfl
@[simp] theorem ask_link (a : Access) : (s.ask a).link = s.link := rfl
@[simp] theorem ask_time (a : Access) : (s.ask a).time = s.time := rfl
@[simp] theorem ask_settings (a : Access) : (s.ask a).settings = s.settings := rfl
@[simp] theorem ask_fresh (a : Access) : (s.ask a).fresh = s.fresh := rfl
@[simp] theorem ask_pending (a : Access) : (s.ask a).pending = s.pending := rfl

/-! ## Reading back -/

@[simp] theorem channel_onChannel (k : Pos) (f : Channel → Channel) :
    (s.onChannel k f).channel k = f (s.channel k) := by simp [channel]
theorem channel_onChannel_ne {k q : Pos} (f : Channel → Channel) (h : q ≠ k) :
    (s.onChannel k f).channel q = s.channel q := by simp [channel, Six.get_set_ne _ _ h]
@[simp] theorem openSlot_setOpenSlot (k : Pos) (o : OpenSlot) : (s.setOpenSlot k o).openSlot k = o := by
  simp [openSlot]
theorem openSlot_setOpenSlot_ne {k q : Pos} (o : OpenSlot) (h : q ≠ k) :
    (s.setOpenSlot k o).openSlot q = s.openSlot q := by simp [openSlot, Six.get_set_ne _ _ h]

end Sys2Proof.Machine.State
end

