-- ==== Sys2Proof/Laws/Line.lean ====
section
/-! SUPPORT. What the operations along the belt line leave as it was: `LineFrame s t` says once everything
that flags, labels, retirements, releases, the drive's creep and the diverter keep. -/

namespace Sys2Proof.Machine

namespace LineFrame

theorem refl (s : State) : LineFrame s s := by constructor <;> first | rfl | intros; assumption | omega

theorem trans {s t u : State} (a : LineFrame s t) (b : LineFrame t u) : LineFrame s u where
  pins := b.pins.trans a.pins
  weighing := b.weighing.trans a.weighing
  gauges := b.gauges.trans a.gauges
  tariff := b.tariff.trans a.tariff
  flash := b.flash.trans a.flash
  port := b.port.trans a.port
  cache := b.cache.trans a.cache
  rating := b.rating.trans a.rating
  settings := b.settings.trans a.settings
  time := b.time.trans a.time
  fresh := b.fresh.trans a.fresh
  pending := b.pending.trans a.pending
  slots := b.slots.trans a.slots
  pool := b.pool.trans a.pool
  issued := b.issued.trans a.issued
  lowMark := b.lowMark.trans a.lowMark
  confirmed := b.confirmed.trans a.confirmed
  account := b.account.trans a.account
  occupancy := Nat.le_trans b.occupancy a.occupancy
  p := b.p.trans a.p
  sub := b.sub.trans a.sub
  high := b.high.trans a.high
  measured := b.measured.trans a.measured
  windowCount := b.windowCount.trans a.windowCount
  jamCount := b.jamCount.trans a.jamCount
  eyes := b.eyes.trans a.eyes
  applicator := b.applicator.trans a.applicator
  runTarget := b.runTarget.trans a.runTarget
  setpoint := b.setpoint.trans a.setpoint
  queue := fun h => b.queue (a.queue h)
  names := fun h => b.names (a.names h)
  speed := fun v h l => b.speed v h (a.speed v h l)
  token := fun h => b.token (a.token h)
  requests := b.requests.trans a.requests
  ready := b.ready.trans a.ready
  receiver := b.receiver.trans a.receiver
  gap := b.gap.trans a.gap
  part := b.part.trans a.part
  frameErrors := b.frameErrors.trans a.frameErrors
  lostRequests := b.lostRequests.trans a.lostRequests
  restartSlot := b.restartSlot.trans a.restartSlot
  notices := fun h => b.notices (a.notices h)

/-- The frame of an `if`. -/
theorem ite {s t u : State} {c : Prop} [Decidable c] (a : LineFrame s t) (b : LineFrame s u) :
    LineFrame s (if c then t else u) := by split <;> assumption

/-! ## One field changed -/

theorem viaLabel (s : State) (f : LabelUnit → LabelUnit) : LineFrame s (s.onLabel f) := by
  constructor <;> first | rfl | (intros; assumption) | exact Nat.le_refl _

theorem viaRelease (s : State) (f : Release → Release)
    (h : s.release.tokenLaw → (f s.release).tokenLaw) : LineFrame s (s.onRelease f) := by
  constructor <;> first | rfl | exact h | (intros; assumption) | exact Nat.le_refl _

theorem viaQueue (s : State) (g : List Entry → List Entry)
    (h : s.belt.queue.length ≤ 24 → (g s.belt.queue).length ≤ 24) (n : Nat)
    (names : s.belt.namesLaw → ((g s.belt.queue).map (·.id)).Nodup ∧ ∀ e ∈ g s.belt.queue, e.id < n) :
    LineFrame s (s.onBelt (fun b => { b with queue := g b.queue, nextId := n })) := by
  constructor <;> first | rfl | exact h | exact names | (intros; assumption) | exact Nat.le_refl _

/-- Entries left out keep the names law. -/
theorem viaFilter (s : State) (keep : Entry → Bool) :
    LineFrame s (s.onBelt (fun b => { b with queue := b.queue.filter keep })) :=
  viaQueue s (fun q => q.filter keep) (fun h => Nat.le_trans (List.length_filter_le _ _) h) s.belt.nextId
    (fun h => ⟨h.1.sublist ((List.filter_sublist).map _), fun e he => h.2 e (List.mem_of_mem_filter he)⟩)

theorem viaRegister (s : State) (g : List RegEntry → List RegEntry)
    (h : (g s.items.register).length = s.items.register.length) :
    LineFrame s (s.onItems (fun i => { i with register := g i.register })) := by
  constructor <;> first
    | rfl
    | (intros; assumption)
    | (simp only [State.onItems, Items.closed]; omega)
    | (simp only [State.onItems]; omega)

theorem sendNext_notices (l : Link) : l.sendNext.notices.length ≤ l.notices.length := by
  simp only [Link.sendNext]
  split
  · exact Nat.le_refl _
  · split
    · exact Nat.le_refl _
    · exact Nat.le_refl _
    · split
      · exact Nat.le_refl _
      · rename_i h
        rw [h]
        simp

theorem sendNext_keeps (l : Link) :
    l.sendNext.slots = l.slots ∧ l.sendNext.ready = l.ready ∧ l.sendNext.receiver = l.receiver ∧
    l.sendNext.gap = l.gap ∧ l.sendNext.part = l.part ∧ l.sendNext.frameErrors = l.frameErrors ∧
    l.sendNext.lostRequests = l.lostRequests ∧ l.sendNext.restartSlot = l.restartSlot := by
  simp only [Link.sendNext]
  split
  · exact ⟨rfl, rfl, rfl, rfl, rfl, rfl, rfl, rfl⟩
  · split
    · exact ⟨rfl, rfl, rfl, rfl, rfl, rfl, rfl, rfl⟩
    · exact ⟨rfl, rfl, rfl, rfl, rfl, rfl, rfl, rfl⟩
    · split <;> exact ⟨rfl, rfl, rfl, rfl, rfl, rfl, rfl, rfl⟩

theorem offer_keeps (n : Notice) (l : Link) :
    (l.offer n).slots = l.slots ∧ (l.offer n).ready = l.ready ∧ (l.offer n).receiver = l.receiver ∧
    (l.offer n).gap = l.gap ∧ (l.offer n).part = l.part ∧ (l.offer n).frameErrors = l.frameErrors ∧
    (l.offer n).lostRequests = l.lostRequests ∧ (l.offer n).restartSlot = l.restartSlot := by
  simp only [Link.offer]
  split
  · exact sendNext_keeps { l with notices := l.notices ++ [n] }
  · exact ⟨rfl, rfl, rfl, rfl, rfl, rfl, rfl, rfl⟩

theorem offer_notices (n : Notice) (l : Link) (h : l.notices.length ≤ 64) :
    (l.offer n).notices.length ≤ 64 := by
  simp only [Link.offer]
  split
  · rename_i hl
    refine Nat.le_trans (sendNext_notices _) ?_
    simp only [Config.noticeEntries] at hl
    simp
    omega
  · exact h

theorem viaOffer (s : State) (n : Notice) : LineFrame s (s.offer n) := by
  have k := offer_keeps n s.link
  constructor <;> first
    | rfl
    | exact k.1 | exact k.2.1 | exact k.2.2.1 | exact k.2.2.2.1 | exact k.2.2.2.2.1
    | exact k.2.2.2.2.2.1 | exact k.2.2.2.2.2.2.1 | exact k.2.2.2.2.2.2.2
    | exact offer_notices n s.link
    | (intros; assumption)
    | exact Nat.le_refl _

/-- The drive, its target, its reason and the label-wait entry changed. -/
theorem viaDrive (s : State) (d : Drive) (v : Nat) (r : StopReason) (w : Option Nat)
    (h : ∀ m, 100 ≤ m → s.belt.speedLaw m →
      ((d = .stopped ∨ d = .estopped) → s.belt.setpoint = 0) ∧
      ((d = .stopped ∨ d = .estopped ∨ d = .stopping) → v = 0) ∧ v ≤ m) :
    LineFrame s (s.onBelt (fun b => { b with drive := d, target := v, reason := r, waitEntry := w })) := by
  constructor <;> first
    | rfl
    | (intro m hm l; exact ⟨(h m hm l).1, (h m hm l).2.1, l.2.2.1, (h m hm l).2.2, l.2.2.2.2⟩)
    | (intros; assumption)
    | exact Nat.le_refl _

/-- The frame carried on through the next operation. -/
theorem andThen {s t u : State} (a : LineFrame s t) (b : LineFrame t u) : LineFrame s u := a.trans b

end LineFrame

open LineFrame

theorem Entry.withLabel_id (l : LabelState) (e : Entry) : (e.withLabel l).id = e.id := by
  unfold Entry.withLabel; split <;> rfl

theorem Entry.asRetireDue_id (e : Entry) : e.asRetireDue.id = e.id := by
  unfold Entry.asRetireDue; split <;> rfl

theorem Entry.asMatched_id (e : Entry) : e.asMatched.id = e.id := by
  unfold Entry.asMatched; split <;> rfl

theorem Entry.withLength_id (n : Int) (e : Entry) : (e.withLength n).id = e.id := by
  unfold Entry.withLength; split <;> rfl

namespace State
variable (s : State)

/-! ## Entries, register, labels -/

theorem onEntry_frame (id : Nat) (f : Entry → Entry) (hf : ∀ e, (f e).id = e.id) :
    LineFrame s (s.onEntry id f) := by
  have same : ∀ e : Entry, (if e.id = id then f e else e).id = e.id := by
    intro e; split
    · exact hf e
    · rfl
  refine viaQueue s (fun q => q.map (fun (e : Entry) => if e.id = id then f e else e)) (by simp) s.belt.nextId ?_
  intro h
  have ids : (s.belt.queue.map (fun (e : Entry) => if e.id = id then f e else e)).map (·.id) =
      s.belt.queue.map (·.id) := by
    rw [List.map_map]; exact List.map_congr_left (fun e _ => same e)
  refine ⟨ids ▸ h.1, fun e he => ?_⟩
  obtain ⟨a, ha, rfl⟩ := List.mem_map.mp he
  rw [same]
  exact h.2 a ha

theorem removeEntry_frame (id : Nat) : LineFrame s (s.removeEntry id) :=
  (viaFilter s (fun e => e.id != id)).andThen (viaLabel _ _)

theorem onItem_frame (n : Nat) (f : RegEntry → RegEntry) : LineFrame s (s.onItem n f) :=
  viaRegister s (fun q => q.map (fun (r : RegEntry) => if r.number = n then f r else r)) (by simp)

theorem returnItem_frame (n : Nat) : LineFrame s (s.returnItem n) := onItem_frame s n _

theorem countOutcome_account (o : ItemOutcome) (i : Items) :
    (countOutcome o i).closed = i.closed + 1 ∧ (countOutcome o i).register = i.register ∧
    (countOutcome o i).slots = i.slots ∧ (countOutcome o i).pool = i.pool ∧
    (countOutcome o i).issued = i.issued ∧ (countOutcome o i).lowMark = i.lowMark ∧
    (countOutcome o i).confirmed = i.confirmed := by
  cases o <;> simp [countOutcome, Items.closed] <;> omega

theorem closeItem_frame (n : Nat) (o : ItemOutcome) : LineFrame s (s.closeItem n o) := by
  unfold closeItem
  split
  · exact refl s
  · rename_i r hr
    refine LineFrame.trans ?_ (viaOffer _ _)
    have hm : r ∈ s.items.register ∧ (r.number == n) = true := by
      refine ⟨List.mem_of_find?_eq_some hr, ?_⟩
      simpa using List.find?_some hr
    have hl := List.length_eraseP_of_mem (p := fun q : RegEntry => q.number == n) hm.1 hm.2
    have hp : 0 < s.items.register.length := List.length_pos_of_mem hm.1
    have k := countOutcome_account o
      { s.items with register := s.items.register.eraseP (fun q => q.number == n) }
    have hc : Items.closed { s.items with
        register := s.items.register.eraseP (fun q => q.number == n) } = s.items.closed := rfl
    constructor <;> first
      | rfl
      | exact k.2.2.1 | exact k.2.2.2.1 | exact k.2.2.2.2.1 | exact k.2.2.2.2.2.1 | exact k.2.2.2.2.2.2
      | (show List.length (countOutcome o _).register + Items.closed (countOutcome o _) = _
         rw [k.1, k.2.1, hc]; dsimp only; rw [hl]; omega)
      | (show List.length (countOutcome o _).register ≤ _
         rw [k.2.1]; dsimp only; rw [hl]; omega)
      | (intros; assumption)

theorem countWasted_frame : LineFrame s s.countWasted := viaLabel s _

theorem setLabel_frame (id : Nat) (l : LabelState) : LineFrame s (s.setLabel id l) := by
  unfold setLabel
  split
  · exact refl s
  · exact ((onEntry_frame _ _ _ (Entry.withLabel_id _)).andThen (onItem_frame _ _ _)).andThen (viaLabel _ _)

theorem eject_frame (owner : Option Nat) (l : LabelState) : LineFrame s (s.eject owner l) := by
  unfold eject
  refine LineFrame.trans (LineFrame.trans ?_ (countWasted_frame _)) (viaLabel _ _)
  cases owner with
  | none => exact refl s
  | some id => exact LineFrame.ite (setLabel_frame _ _ _) (refl s)

theorem wasteJob_frame (id : Nat) : LineFrame s (s.wasteJob id) := viaLabel s _

theorem disarm_frame (id : Nat) : LineFrame s (s.disarm id) := viaLabel s _

theorem loseLabel_frame (id : Nat) : LineFrame s (s.loseLabel id) := by
  unfold loseLabel
  split
  · exact setLabel_frame _ _ _
  · exact ((setLabel_frame _ _ _).andThen (countWasted_frame _)).andThen (wasteJob_frame _ _)
  · exact LineFrame.ite ((eject_frame _ _ _).andThen (disarm_frame _ _)) (refl s)
  all_goals exact refl s

theorem reportFlag_frame (id n : Nat) (r : RejectReason) : LineFrame s (s.reportFlag id n r) :=
  (onItem_frame _ _ _).andThen (loseLabel_frame _ _)

theorem flagEntry_frame (r : RejectReason) (id : Nat) : LineFrame s (s.flagEntry r id) := by
  unfold flagEntry
  split
  · exact refl s
  · refine LineFrame.ite (refl s) ?_
    split
    · exact onEntry_frame _ _ _ (by intro e; rfl)
    · exact (onEntry_frame _ _ _ (by intro e; rfl)).andThen (reportFlag_frame _ _ _ _)

theorem flagAll_frame (r : RejectReason) (ids : List Nat) : LineFrame s (s.flagAll r ids) := by
  induction ids generalizing s with
  | nil => exact refl s
  | cons id rest ih => exact (flagEntry_frame s r id).andThen (ih _)

/-! ## Removal and retirement -/

theorem dropMissing_frame (e : Entry) : LineFrame s (s.dropMissing e) := by
  unfold dropMissing
  split
  · exact removeEntry_frame _ _
  · exact ((closeItem_frame _ _ _).andThen (loseLabel_frame _ _)).andThen (removeEntry_frame _ _)

theorem retire_frame (e : Entry) : LineFrame s (s.retire e) := by
  unfold retire
  split
  · exact removeEntry_frame _ _
  · exact LineFrame.ite ((closeItem_frame _ _ _).andThen (removeEntry_frame _ _)) (dropMissing_frame _ _)

theorem retireStep_frame (id : Nat) : LineFrame s (s.retireStep id) := by
  unfold retireStep
  split
  · exact refl s
  · exact LineFrame.ite (refl s)
      (LineFrame.ite (LineFrame.ite (onEntry_frame _ _ _ Entry.asRetireDue_id) (retire_frame _ _)) (refl s))

theorem retireAll_frame : LineFrame s s.retireAll := by
  unfold retireAll
  generalize s.belt.queue.map (·.id) = ids
  induction ids generalizing s with
  | nil => exact refl s
  | cons id rest ih => exact (retireStep_frame s id).andThen (ih _)

/-! ## Drive -/

theorem beltNotice_frame : LineFrame s s.beltNotice := viaOffer s _

theorem changeDrive_frame (f : Belt → Belt) (h : LineFrame s (s.onBelt f)) :
    LineFrame s (s.changeDrive f) := by
  unfold changeDrive
  exact LineFrame.ite h (h.andThen (beltNotice_frame _))

theorem labelWaitRestart_frame : LineFrame s s.labelWaitRestart := by
  unfold labelWaitRestart
  refine LineFrame.ite (changeDrive_frame _ _ (viaDrive s .starting s.belt.runTarget .none none ?_)) (refl s)
  intro m _ l
  exact ⟨by simp, by simp, l.2.2.2.2⟩

theorem leaveCreep_frame : LineFrame s s.leaveCreep := by
  have a : LineFrame s (s.changeDrive (fun b => { b with drive := .starting, target := b.runTarget })) := by
    refine changeDrive_frame _ _ (viaDrive s .starting s.belt.runTarget s.belt.reason s.belt.waitEntry ?_)
    intro m _ l
    exact ⟨by simp, by simp, l.2.2.2.2⟩
  unfold leaveCreep
  refine LineFrame.ite (a.andThen (changeDrive_frame _ _ ?_)) a
  refine viaDrive _ .running _ _ _ ?_
  intro m _ l
  exact ⟨by simp, by simp, l.2.2.2.1⟩

theorem judgeCreep_frame : LineFrame s s.judgeCreep := by
  unfold judgeCreep
  split
  · refine LineFrame.ite (changeDrive_frame _ _ (viaDrive s .stopping 0 .labelWait _ ?_))
      (LineFrame.ite (refl s) (changeDrive_frame _ _
        (viaDrive s .creeping Config.creepSpeed s.belt.reason s.belt.waitEntry ?_)))
    · intro m _ _
      exact ⟨by simp, by simp, Nat.zero_le m⟩
    · intro m hm _
      exact ⟨by simp, by simp, hm⟩
  · exact LineFrame.ite (leaveCreep_frame s) (refl s)

/-! ## Labels -/

theorem sendJob_frame (e : Entry) : LineFrame s (s.sendJob e) := by
  unfold sendJob
  split
  · exact refl s
  · exact (setLabel_frame _ _ _).andThen (viaLabel _ _)

theorem printOrder_frame : LineFrame s s.printOrder := by
  unfold printOrder
  refine LineFrame.ite ?_ (refl s)
  split
  · exact refl s
  · exact sendJob_frame _ _

theorem displace_frame : LineFrame s s.displace := by
  unfold displace
  split
  · exact LineFrame.ite ((eject_frame _ _ _).andThen (viaLabel _ _)) (refl s)
  all_goals exact refl s

theorem printerNotice_frame (ev : PrinterEvent) : LineFrame s (s.printerNotice ev) := viaOffer s _

theorem enterFault_frame (k : FaultKind) : LineFrame s (s.enterFault k) :=
  (viaLabel _ _).andThen (printerNotice_frame _ _)

theorem resendJob_frame (c : Bool) : LineFrame s (s.resendJob c) := by
  unfold resendJob
  split
  · exact refl s
  · exact viaLabel s _

theorem matchLabel_frame (e : Entry) : LineFrame s (s.matchLabel e) := by
  unfold matchLabel
  refine LineFrame.ite (refl s) ?_
  split
  · exact LineFrame.ite (viaLabel s _) (refl s)
  · exact flagEntry_frame _ _ _
  · exact flagEntry_frame _ _ _
  all_goals exact refl s

theorem fireTamp_frame : LineFrame s s.fireTamp := by
  unfold fireTamp
  split
  · exact LineFrame.ite (viaLabel s _) (refl s)
  all_goals exact refl s

theorem retractTamp_frame : LineFrame s s.retractTamp := viaLabel s _

theorem verdict_frame (e : Nat) (p : PadSensor) : LineFrame s (s.verdict e p) := by
  unfold verdict
  cases p with
  | clear => exact ((viaLabel s _).andThen (setLabel_frame _ _ _)).andThen (viaLabel _ _)
  | label => exact ((flagEntry_frame _ _ _).andThen (eject_frame _ _ _)).andThen (viaLabel _ _)

theorem divert_frame : LineFrame s s.divert := by
  unfold divert
  exact LineFrame.ite (LineFrame.ite (refl s) (viaLabel s _)) (viaLabel s _)

end State

/-! ## The token law -/

namespace Release
variable (r : Release)

theorem tokenLaw_beginNegotiation (h : r.lit = none) : r.beginNegotiation.tokenLaw := by
  simp [tokenLaw, beginNegotiation, h]

theorem tokenLaw_enterIdle (h : r.lit = none) : r.enterIdle.tokenLaw := by simp [tokenLaw, enterIdle, h]

theorem tokenLaw_endLit (h : r.tokenLaw) : r.endLit.tokenLaw := by
  unfold endLit
  dsimp only
  split
  · exact tokenLaw_beginNegotiation _ rfl
  · rename_i c
    exact ⟨h.1, h.2.1, rfl, fun p => absurd p c⟩

theorem tokenLaw_follow (m : Bool) (h : r.tokenLaw) : (r.follow m).tokenLaw := by
  unfold follow
  split
  · rename_i c
    refine ⟨?_, h.2⟩
    rw [h.1, c.1]
    rfl
  · split
    · rename_i c
      refine ⟨?_, h.2⟩
      rw [h.1, c.1]
      rfl
    · exact h

theorem tokenLaw_callNegotiation (h : r.tokenLaw) : r.callNegotiation.tokenLaw := by
  unfold callNegotiation
  split
  · exact h
  · split
    · exact h
    · split
      · rename_i c
        exact ⟨h.1, h.2.1, h.2.2.1, fun _ => c⟩
      · rename_i c
        exact tokenLaw_beginNegotiation r (by simpa using c)

end Release

namespace State
variable (s : State)

/-! ## Releases -/

/-- An insertion adds the entry and changes none. -/
theorem insertEntry_perm (p : Coord) (e : Entry) (q : List Entry) : (insertEntry p e q).Perm (e :: q) := by
  induction q with
  | nil => exact List.Perm.refl _
  | cons a rest ih =>
    simp only [insertEntry]
    split
    · exact List.Perm.refl _
    · exact (ih.cons a).trans (List.Perm.swap e a rest)

theorem insertNew_frame (front tail : Coord) (flag : Option RejectReason) (body : EntryBody)
    (h : s.belt.queue.length < 24) : LineFrame s (s.insertNew front tail flag body) := by
  refine viaQueue s (fun q => insertEntry s.belt.p ⟨s.belt.nextId, front, tail, flag, body⟩ q) ?_
    (s.belt.nextId + 1) ?_
  intro _
  have : ∀ (q : List Entry) (e : Entry), (insertEntry s.belt.p e q).length = q.length + 1 := by
    intro q e
    induction q with
    | nil => rfl
    | cons a rest ih =>
      simp only [insertEntry]
      split
      · simp
      · simp [ih]
  show (insertEntry _ _ _).length ≤ 24
  rw [this]
  omega
  intro l
  have perm := insertEntry_perm s.belt.p ⟨s.belt.nextId, front, tail, flag, body⟩ s.belt.queue
  refine ⟨((perm.map (·.id)).nodup_iff).mpr (List.nodup_cons.mpr ⟨?_, l.1⟩), fun e he => ?_⟩
  · intro h
    obtain ⟨a, ha, e⟩ := List.mem_map.mp h
    exact absurd (l.2 a ha) (by rw [e]; exact Nat.lt_irrefl _)
  · rcases List.mem_cons.mp (perm.mem_iff.mp he) with rfl | h
    · exact Nat.lt_succ_self _
    · exact Nat.lt_succ_of_lt (l.2 e h)

theorem reserve_frame (k : Pos) (n : Nat) {t : State} (h : s.reserve k n = some t) : LineFrame s t := by
  unfold reserve at h
  split at h
  · rename_i c
    cases h
    simp only [windowFree, Config.queueEntries, Bool.and_eq_true] at c
    exact insertNew_frame _ _ _ _ _ (of_decide_eq_true c.2)
  · cases h

theorem grant_frame (k : Pos) (e : RegEntry) (x : Bool) (h : s.release.token = some k) :
    LineFrame s (s.grant k e x) := by
  refine (onItem_frame s _ _).andThen (viaRelease _ _ ?_)
  refine fun l => ⟨l.1, l.2.1, ?_, fun _ => rfl⟩
  show (s.release.token == some k) = true
  simp [h]

theorem reserve_release (k : Pos) (n : Nat) {t : State} (h : s.reserve k n = some t) :
    t.release = s.release := by
  unfold reserve at h
  split at h
  · cases h; rfl
  · cases h

theorem askWindow_frame (k : Pos) (e : RegEntry) (x : Bool) (h : s.release.token = some k) :
    LineFrame s (s.askWindow k e x) := by
  unfold askWindow
  split
  · rename_i t ht
    exact (reserve_frame s k e.number ht).andThen
      (grant_frame _ _ _ _ ((congrArg Release.token (reserve_release s k _ ht)).trans h))
  · exact viaRelease s _ (fun h => h)

theorem chooseCandidate_frame (again : Bool) : LineFrame s (s.chooseCandidate again) := by
  unfold chooseCandidate
  split
  · rename_i h
    refine LineFrame.ite (LineFrame.ite (askWindow_frame _ _ _ _ h) (refl s)) ?_
    exact (viaRelease s _ (fun h => h)).andThen (askWindow_frame _ _ _ _ h)
  · exact viaRelease s _ (fun h => h)

theorem keepCandidate_frame : LineFrame s s.keepCandidate := viaRelease s _ (fun h => h)

theorem settleRelease_frame (again : Bool) : LineFrame s (s.settleRelease again) := by
  unfold settleRelease
  split
  · exact chooseCandidate_frame s again
  · exact keepCandidate_frame s
  all_goals exact refl s

theorem removeReservation_frame (n : Nat) : LineFrame s (s.removeReservation n) :=
  viaFilter s _

theorem endUninducted_frame : LineFrame s s.endUninducted := by
  unfold endUninducted
  split
  · exact refl s
  · exact ((removeReservation_frame s _).andThen (returnItem_frame _ _)).andThen
      (viaRelease _ _ (Release.tokenLaw_endLit _))

theorem endVoided_frame (n : Nat) : LineFrame s (s.endVoided n) := by
  unfold endVoided
  exact LineFrame.ite ((removeReservation_frame s n).andThen (viaRelease _ _ (Release.tokenLaw_endLit _)))
    (refl s)

theorem endUnused_frame : LineFrame s s.endUnused := by
  unfold endUnused
  split
  · exact refl s
  · refine LineFrame.ite ?_ (refl s)
    exact ((endUninducted_frame s).andThen (viaRelease _ _ (fun h => h))).andThen (viaOffer _ _)

theorem dropReservations_frame : LineFrame s s.dropReservations :=
  (viaFilter s _).andThen (endUninducted_frame _)

/-! ## Settling -/

theorem settleBelt_frame : LineFrame s s.settleBelt := by
  unfold settleBelt
  refine LineFrame.trans ?_ (viaRelease _ _ (Release.tokenLaw_follow _ _))
  exact ((((fireTamp_frame s).andThen (retireAll_frame _)).andThen (printOrder_frame _)).andThen
    (labelWaitRestart_frame _)).andThen (judgeCreep_frame _)

/-- Everything that follows from an event on the line. -/
theorem settle_frame (before : State) : LineFrame s (settle before s) := by
  unfold settle
  exact ((settleBelt_frame s).andThen (settleRelease_frame _ _)).andThen (divert_frame _)

end State

end Sys2Proof.Machine
end

