-- ==== Sys2Proof/Laws/Link.lean ====
section
/-! SUPPORT. What the Link Controller's operations do: a request that takes a slot, its answer, the BUSY
list, and what notices and answers leave alone. -/

namespace Sys2Proof.Machine

namespace Link
variable (l : Link)

theorem sendNext_slots : l.sendNext.slots = l.slots := (LineFrame.sendNext_keeps l).1
theorem sendNext_ready : l.sendNext.ready = l.ready := (LineFrame.sendNext_keeps l).2.1
theorem sendNext_busyList : l.sendNext.busyList = l.busyList := by simp only [busyList, sendNext_ready]

/-- The free slot that a request takes holds nothing. -/
theorem freeSlot_empty {i : SlotId} (h : l.freeSlot = some i) : l.slots[i] = none := by
  have := List.find?_some h
  simpa using this

/-- The request that holds a slot reads back. -/
theorem hold_slot (i : SlotId) (tag : Byte) (code : MsgCode) :
    (l.hold i tag code).slots[i] = some ⟨tag, code, .serving⟩ := by
  simp [hold]

/-- A request answered where it holds its slot: the slot is REPLY_READY and last in the order of readiness,
and an idle transmitter takes what is first. -/
theorem answer_hold (i : SlotId) (tag : Byte) (code : MsgCode) (r : Reply) :
    Link.answer i r (l.hold i tag code) =
      Link.sendNext { l with
        slots := l.slots.set i (some ⟨tag, code, .replyReady r⟩), ready := l.ready ++ [.slot i] } := by
  simp [answer, hold]

/-- What an answer leaves alone, but for the slots and the order of readiness. -/
theorem answer_keeps (i : SlotId) (r : Reply) :
    (Link.answer i r l).receiver = l.receiver ∧ (Link.answer i r l).gap = l.gap ∧
    (Link.answer i r l).part = l.part ∧ (Link.answer i r l).frameErrors = l.frameErrors ∧
    (Link.answer i r l).lostRequests = l.lostRequests ∧
    (Link.answer i r l).restartSlot = l.restartSlot := by
  simp only [answer]
  split
  · exact ⟨rfl, rfl, rfl, rfl, rfl, rfl⟩
  · rename_i q _
    exact (LineFrame.sendNext_keeps { l with
      slots := l.slots.set i (some { q with phase := .replyReady r }), ready := l.ready ++ [.slot i] }).2.2

theorem answer_busyList (i : SlotId) (r : Reply) : (Link.answer i r l).busyList = l.busyList := by
  simp only [answer]
  split
  · rfl
  · rw [sendNext_busyList]
    simp [busyList, List.filterMap_append]

theorem answer_notices (i : SlotId) (r : Reply) : (Link.answer i r l).notices.length ≤ l.notices.length := by
  simp only [answer]
  split
  · exact Nat.le_refl _
  · exact LineFrame.sendNext_notices _

theorem offer_busyList (n : Notice) : (l.offer n).busyList = l.busyList := by
  simp only [busyList, (LineFrame.offer_keeps n l).2.1]

end Link

namespace State
variable (s : State)

/-- A request answered where it holds its slot, with the rest of the state as it was. -/
theorem answer_held (i : SlotId) (tag : Byte) (n : ReqName) (r : Reply) :
    (s.onLink (Link.hold i tag (.req n))).answer i r = { s with link := s.replied i tag n r } := rfl

/-- A request that takes slot i is handed to what serves it (R193). -/
theorem request_takes {i : SlotId} (h : s.takes i) (tag : Byte) (n : ReqName)
    (serve : SlotId → State → State) :
    s.request tag n serve = serve i (s.onLink (Link.hold i tag (.req n))) := by
  obtain ⟨hr, hp, hf⟩ := h
  simp [request, whenRunning, hr, dispatch, hf, hp]

/-- A request that finds no free slot joins the BUSY list or is lost (R194). -/
theorem request_busy (hr : s.running = true) (h : s.link.freeSlot = none) (tag : Byte) (n : ReqName)
    (serve : SlotId → State → State) : s.request tag n serve = s.onLink (Link.busy tag (.req n)) := by
  simp [request, whenRunning, hr, dispatch, h]

/-- A part that does not work receives no request. -/
theorem request_off (hr : s.running = false) (tag : Byte) (n : ReqName)
    (serve : SlotId → State → State) : s.request tag n serve = s := by
  simp [request, whenRunning, hr]

/-- What a request row can do: nothing, a BUSY entry, a refusal before the part is ready, or its service. -/
theorem request_cases (tag : Byte) (n : ReqName) (serve : SlotId → State → State) :
    s.request tag n serve = s ∨ s.request tag n serve = s.onLink (Link.busy tag (.req n)) ∨
    (∃ i, s.link.freeSlot = some i ∧
      s.request tag n serve = (s.onLink (Link.hold i tag (.req n))).refuse i .starting) ∨
    ∃ i, s.link.freeSlot = some i ∧
      s.request tag n serve = serve i (s.onLink (Link.hold i tag (.req n))) := by
  cases hr : s.running with
  | false => exact .inl (s.request_off hr tag n serve)
  | true =>
    cases hf : s.link.freeSlot with
    | none => exact .inr (.inl (s.request_busy hr hf tag n serve))
    | some i =>
      refine .inr (.inr ?_)
      simp only [request, whenRunning, hr, dispatch, hf, if_true]
      by_cases c : s.link.part = .starting ∧ MsgCode.req n ≠ .req .sStatus
      · exact .inl ⟨i, rfl, by simp [c]⟩
      · exact .inr ⟨i, rfl, by rw [if_neg (by simp), if_neg (by simp), if_neg c]⟩

end State

/-- What a BUSY entry or a lost request leaves alone. -/
theorem Link.busy_keeps (tag : Byte) (code : MsgCode) (l : Link) :
    (l.busy tag code).slots = l.slots ∧ (l.busy tag code).receiver = l.receiver ∧
    (l.busy tag code).part = l.part ∧ (l.busy tag code).notices.length ≤ l.notices.length ∧
    (l.busyList.length ≤ 8 → (l.busy tag code).busyList.length ≤ 8) := by
  simp only [Link.busy]
  split
  · rename_i h
    have k := LineFrame.sendNext_keeps { l with ready := l.ready ++ [.busy tag code] }
    refine ⟨k.1, k.2.2.1, k.2.2.2.2.1, LineFrame.sendNext_notices _, fun _ => ?_⟩
    rw [Link.sendNext_busyList]
    simp only [Config.busyEntries] at h
    simp only [Link.busyList, List.filterMap_append, List.length_append] at h ⊢
    simp
    omega
  · exact ⟨rfl, rfl, rfl, Nat.le_refl _, fun h => h⟩

end Sys2Proof.Machine
end

