-- ==== Sys2Proof/Laws/Counter.lean ====
section
/-! SUPPORT. What the operations of the counter side leave as it was: `CounterFrame s t` says once everything
that samples, captures, latches, item requests, ratings, lookups and walks keep. -/

namespace Sys2Proof.Machine

namespace CounterFrame

theorem refl (s : State) : CounterFrame s s := by constructor <;> first | rfl | (intros; assumption)

theorem andThen {s t u : State} (a : CounterFrame s t) (b : CounterFrame t u) : CounterFrame s u where
  pins := b.pins.trans a.pins
  timeout := b.timeout.trans a.timeout
  tariff := b.tariff.trans a.tariff
  flash := b.flash.trans a.flash
  belt := b.belt.trans a.belt
  release := b.release.trans a.release
  label := b.label.trans a.label
  time := b.time.trans a.time
  settings := b.settings.trans a.settings
  fresh := b.fresh.trans a.fresh
  pending := b.pending.trans a.pending
  register := b.register.trans a.register
  pool := b.pool.trans a.pool
  issued := b.issued.trans a.issued
  lowMark := b.lowMark.trans a.lowMark
  confirmed := b.confirmed.trans a.confirmed
  labelled := b.labelled.trans a.labelled
  rejected := b.rejected.trans a.rejected
  missing := b.missing.trans a.missing
  voided := b.voided.trans a.voided
  receiver := b.receiver.trans a.receiver
  gap := b.gap.trans a.gap
  part := b.part.trans a.part
  frameErrors := b.frameErrors.trans a.frameErrors
  lostRequests := b.lostRequests.trans a.lostRequests
  restartSlot := b.restartSlot.trans a.restartSlot
  busyList := b.busyList.trans a.busyList
  notices := fun h => b.notices (a.notices h)

/-- The frame of an `if`. -/
theorem ite {s t u : State} {c : Prop} [Decidable c] (a : CounterFrame s t) (b : CounterFrame s u) :
    CounterFrame s (if c then t else u) := by split <;> assumption

/-! ## One field changed -/

theorem viaChannel (s : State) (k : Pos) (f : Channel → Channel) : CounterFrame s (s.onChannel k f) := by
  constructor <;> first | rfl | (intros; assumption)
theorem viaGauge (s : State) (k : Pos) (f : Gauge → Gauge) : CounterFrame s (s.onGauge k f) := by
  constructor <;> first | rfl | (intros; assumption)
theorem viaRating (s : State) (f : Rating → Rating) : CounterFrame s (s.onRating f) := by
  constructor <;> first | rfl | (intros; assumption)
theorem viaCache (s : State) (f : Cache → Cache) : CounterFrame s (s.onCache f) := by
  constructor <;> first | rfl | (intros; assumption)
theorem viaPort (s : State) (f : Port → Port) : CounterFrame s (s.onPort f) := by
  constructor <;> first | rfl | (intros; assumption)
theorem viaSlot (s : State) (k : Pos) (o : OpenSlot) : CounterFrame s (s.setOpenSlot k o) := by
  constructor <;> first | rfl | (intros; assumption)
theorem viaHold (s : State) (i : SlotId) (tag : Byte) (c : MsgCode) :
    CounterFrame s (s.onLink (Link.hold i tag c)) := by
  constructor <;> first | rfl | (intros; assumption)

theorem viaOffer (s : State) (n : Notice) : CounterFrame s (s.offer n) := by
  have k := (LineFrame.offer_keeps n s.link).2.2
  constructor <;> first
    | rfl
    | exact k.1 | exact k.2.1 | exact k.2.2.1 | exact k.2.2.2.1 | exact k.2.2.2.2.1 | exact k.2.2.2.2.2
    | exact Link.offer_busyList s.link n
    | exact LineFrame.offer_notices n s.link

theorem viaAnswer (s : State) (i : SlotId) (r : Reply) : CounterFrame s (s.answer i r) := by
  have k := Link.answer_keeps s.link i r
  constructor <;> first
    | rfl
    | exact k.1 | exact k.2.1 | exact k.2.2.1 | exact k.2.2.2.1 | exact k.2.2.2.2.1 | exact k.2.2.2.2.2
    | exact Link.answer_busyList s.link i r
    | exact fun h => Nat.le_trans (Link.answer_notices s.link i r) h

end CounterFrame

open CounterFrame

namespace State
variable (s : State)

/-! ## Lookups -/

theorem beginWalk_counter (w : Walk) : CounterFrame s (s.beginWalk w) :=
  (viaCache s _).andThen (viaPort _ _)

theorem takePrice_counter (v z cw : Nat) : CounterFrame s (s.takePrice v z cw).1 := by
  unfold takePrice
  split
  · exact refl s
  · split
    · exact refl s
    · dsimp only
      split
      · exact viaCache s (fun c => c.count _)
      · split
        · exact viaCache s (fun c => c.count _)
        · exact (viaCache s _).andThen (beginWalk_counter _ _)

theorem takeZone_counter (k : Pos) (x : Nat) : CounterFrame s (s.takeZone k x).1 := by
  unfold takeZone
  split
  · exact refl s
  · dsimp only
    split
    · exact viaCache s (fun c => c.count _)
    · exact (viaCache s _).andThen (beginWalk_counter _ _)

theorem takeLookup_counter (l : Lookup) : CounterFrame s (s.takeLookup l).1 := by
  cases l with
  | zone k x => exact takeZone_counter s k x
  | price v z cw => exact takePrice_counter s v z cw

theorem giveLookup_counter (l : Lookup) : CounterFrame s (s.giveLookup l).1 := by
  unfold giveLookup
  split
  · exact viaCache s (fun c => { c with waiting := some l })
  · exact takeLookup_counter s l

/-! ## Rating -/

theorem handResult_counter (k : Pos) (r : RateResult) : CounterFrame s (s.handResult k r) := by
  unfold handResult
  split
  · exact CounterFrame.ite ((viaSlot s _ _).andThen (viaAnswer _ _ _))
      ((viaSlot s _ _).andThen (viaAnswer _ _ _))
  all_goals exact refl s

theorem loadLimit_counter (k : Pos) (n : Nat) : CounterFrame s (s.loadLimit k n) := viaChannel s k _
theorem unloadLimit_counter (k : Pos) : CounterFrame s (s.unloadLimit k) := viaChannel s k _
theorem releaseCapture_counter (k : Pos) : CounterFrame s (s.releaseCapture k) := viaChannel s k _
theorem releaseLatch_counter (k : Pos) : CounterFrame s (s.releaseLatch k) := viaGauge s k _

theorem completeRating_counter (k : Pos) (r : RateResult) (n : Nat) :
    CounterFrame s (s.completeRating k r n) := by
  unfold completeRating
  have h := (viaRating s (fun u => { u with current := none })).andThen (handResult_counter _ k r)
  exact CounterFrame.ite (h.andThen (loadLimit_counter _ _ _)) h

theorem giveOn_counter (k : Pos) (n : Nat) (st : Stage) : CounterFrame s (s.giveOn k n st).1 := by
  cases st with
  | decided r => exact completeRating_counter s k r n
  | goesOn u => exact (viaRating s _).andThen (giveLookup_counter _ _)

theorem workStage_counter (k : Pos) (n : Nat) (st : Stage) : CounterFrame s (s.workStage k n st) := by
  have a := giveOn_counter s k n st
  unfold workStage
  split
  · rename_i t h
    rw [h] at a
    exact a
  · rename_i t u x h
    rw [h] at a
    have b := giveOn_counter t k u.service.maxWeight (u.answered x)
    split
    · rename_i t' h'
      rw [h'] at b
      exact a.andThen b
    · rename_i t' u' x' h'
      rw [h'] at b
      exact (a.andThen b).andThen (giveOn_counter _ _ _ _)

theorem startRating_counter (q : RateRequest) : CounterFrame s (s.startRating q) :=
  workStage_counter s _ _ _

theorem slotInProgress_counter (k : Pos) : CounterFrame s (s.slotInProgress k) := by
  unfold slotInProgress
  split
  · exact viaSlot s _ _
  all_goals exact refl s

theorem arbitrateN_counter (n : Nat) : CounterFrame s (arbitrateN n s) := by
  induction n generalizing s with
  | zero => exact refl s
  | succ n ih =>
    unfold arbitrateN
    split
    · refine CounterFrame.andThen ?_ (ih _)
      exact ((viaRating s _).andThen (slotInProgress_counter _ _)).andThen (startRating_counter _ _)
    · exact refl s

theorem arbitrate_counter : CounterFrame s s.arbitrate := arbitrateN_counter s _

theorem placeRating_counter (q : RateRequest) : CounterFrame s (s.placeRating q) :=
  (viaRating s _).andThen (arbitrate_counter _)

theorem leaveLookup_counter : CounterFrame s s.leaveLookup := by
  unfold leaveLookup
  split
  · exact refl s
  · exact CounterFrame.ite (viaCache s _) (viaRating s _)

theorem withdrawRating_counter (k : Pos) : CounterFrame s (s.withdrawRating k) := by
  unfold withdrawRating
  split
  · exact CounterFrame.ite
      (((leaveLookup_counter s).andThen (viaRating _ _)).andThen (arbitrate_counter _)) (viaRating s _)
  · exact viaRating s _

theorem restartRating_counter : CounterFrame s s.restartRating := by
  unfold restartRating
  split
  · exact refl s
  · exact ((leaveLookup_counter s).andThen (startRating_counter _ _)).andThen (arbitrate_counter _)

theorem answerRating_counter (a : Answer) : CounterFrame s (s.answerRating a) := by
  unfold answerRating
  split
  · exact refl s
  · exact CounterFrame.ite ((startRating_counter s _).andThen (arbitrate_counter _))
      ((workStage_counter s _ _ _).andThen (arbitrate_counter _))

theorem takeWaiting_counter : CounterFrame s s.takeWaiting := by
  unfold takeWaiting
  split
  · exact refl s
  · rename_i l _
    have a := (viaCache s (fun c => { c with waiting := none })).andThen (takeLookup_counter _ l)
    split
    · rename_i t h
      rw [h] at a
      exact a
    · rename_i t x h
      rw [h] at a
      exact a.andThen (answerRating_counter _ _)

theorem endWalk_counter (a : Answer) : CounterFrame s (s.endWalk a) := by
  unfold endWalk
  exact CounterFrame.ite (((viaCache s _).andThen (viaRating _ _)).andThen (takeWaiting_counter _))
    (((viaCache s _).andThen (answerRating_counter _ _)).andThen (takeWaiting_counter _))

/-! ## Walks, but for a second bad read, which reports damage (R56) -/

theorem askWalk_counter (w : Walk) : CounterFrame s (s.askWalk w) := (viaCache s _).andThen (viaPort _ _)

theorem install_counter (w : Walk) (f : Cache → Cache) : CounterFrame s (s.install w f) :=
  CounterFrame.ite (viaCache s _) (refl s)

theorem goWalk_counter (w : Walk) (n : WalkNext) : CounterFrame s (s.goWalk w n) := by
  cases n with
  | ends a => exact endWalk_counter s a
  | point a e => exact (install_counter s _ _).andThen (endWalk_counter _ _)
  | band a e => exact (install_counter s _ _).andThen (endWalk_counter _ _)
  | lookaside a k e => exact (install_counter s _ _).andThen (endWalk_counter _ _)
  | reads w' => exact askWalk_counter s w'

/-! ## Items in their slots -/

theorem markStale_counter : CounterFrame s s.markStale := by
  constructor <;> first | rfl | (intros; assumption)

theorem queueRating_counter (k : Pos) (it : OpenItem) (d : Three Nat) (i : SlotId) :
    CounterFrame s (s.queueRating k it d i) := (viaSlot s _ _).andThen (placeRating_counter _ _)

theorem gatherDims_counter (k : Pos) (it : OpenItem) (i : SlotId) :
    CounterFrame s (s.gatherDims k it i) := by
  unfold gatherDims
  split
  · exact queueRating_counter s _ _ _ _
  · split
    · exact ((viaGauge s _ _).andThen (viaSlot _ _ _)).andThen (viaAnswer _ _ _)
    · exact (viaGauge s _ _).andThen (queueRating_counter _ _ _ _ _)

theorem captureGathered_counter (k : Pos) (x : Capture) : CounterFrame s (s.captureGathered k x) := by
  unfold captureGathered
  split
  · exact gatherDims_counter s _ _ _
  all_goals exact refl s

theorem captureRefused_counter (k : Pos) (r : Reason) : CounterFrame s (s.captureRefused k r) := by
  unfold captureRefused
  split
  · exact (viaSlot s _ _).andThen (viaAnswer _ _ _)
  all_goals exact refl s

theorem beginRate_counter (k : Pos) (it : OpenItem) (i : SlotId) : CounterFrame s (s.beginRate k it i) := by
  have a := (viaSlot s k (.rating it .gathering i)).andThen
    (viaChannel _ k (fun _ => ((s.channel k).requestCapture s.minuteNow s.weighing.timeout).1))
  unfold beginRate
  dsimp only
  split
  · exact a.andThen (captureGathered_counter _ _ _)
  · exact a.andThen (captureRefused_counter _ _ _)
  · exact a

theorem captureLost_counter (k : Pos) (c : LostCause) : CounterFrame s (s.captureLost k c) := by
  unfold captureLost
  split
  · exact (viaSlot s _ _).andThen (viaOffer _ _)
  · exact (viaSlot s _ _).andThen (viaOffer _ _)
  · exact (((viaSlot s _ _).andThen (withdrawRating_counter _ _)).andThen (viaAnswer _ _ _)).andThen
      (viaOffer _ _)
  · exact (((viaSlot s _ _).andThen (withdrawRating_counter _ _)).andThen (viaAnswer _ _ _)).andThen
      (viaOffer _ _)
  all_goals exact refl s

theorem amend_counter (k : Pos) (it : OpenItem) (f : AmendFields) : CounterFrame s (s.amend k it f) := by
  unfold amend
  dsimp only
  refine CounterFrame.andThen ?_ (viaSlot _ _ _)
  split <;> split <;> first
    | exact (releaseLatch_counter s k).andThen (releaseCapture_counter _ _)
    | exact releaseCapture_counter s k
    | exact releaseLatch_counter s k
    | exact refl s

theorem giveBack_counter (k : Pos) (it : OpenItem) : CounterFrame s (s.giveBack k it) := by
  have a := viaChannel s k (fun c => { c with waiting := none })
  unfold giveBack
  dsimp only
  split <;> split <;> first
    | exact (a.andThen (releaseCapture_counter _ _)).andThen (releaseLatch_counter _ _)
    | exact a.andThen (releaseLatch_counter _ _)
    | exact a.andThen (releaseCapture_counter _ _)
    | exact a

/-! ## Samples and captures -/

theorem weightNotice_counter (k : Pos) (e : WeightEvent) : CounterFrame s (s.weightNotice k e) :=
  CounterFrame.ite (viaOffer s _) (refl s)

theorem changeNotice_counter (k : Pos) (b : ChanState) : CounterFrame s (s.changeNotice k b) :=
  CounterFrame.ite (refl s) (weightNotice_counter s _ _)

theorem removalStep_counter (k : Pos) : CounterFrame s (s.removalStep k) :=
  CounterFrame.ite (viaChannel s _ _) ((viaChannel s _ _).andThen (weightNotice_counter _ _ _))

theorem loseCapture_counter (k : Pos) (c : LostCause) : CounterFrame s (s.loseCapture k c) :=
  ((viaChannel s _ _).andThen (weightNotice_counter _ _ _)).andThen (captureLost_counter _ _ _)

theorem comparators_counter (k : Pos) (b : ChanState) : CounterFrame s (s.comparators k b) := by
  have a := removalStep_counter s k
  have c : CounterFrame s (if ((s.removalStep k).channel k).disturbFires b = true then
      (s.removalStep k).loseCapture k .disturb else s.removalStep k) :=
    CounterFrame.ite (a.andThen (loseCapture_counter _ _ _)) a
  unfold comparators
  exact CounterFrame.ite (c.andThen (loseCapture_counter _ _ _)) c

theorem serveWaiting_counter (k : Pos) : CounterFrame s (s.serveWaiting k) := by
  unfold serveWaiting
  dsimp only
  refine CounterFrame.ite ?_ (refl s)
  split
  · exact (viaChannel s _ _).andThen (captureGathered_counter _ _ _)
  · exact (viaChannel s _ _).andThen (captureRefused_counter _ _ _)

theorem sample_counter (k : Pos) (raw : Int) : CounterFrame s (s.sample k raw) := by
  have a := (viaChannel s k (fun _ => ((s.channel k).sampled raw).1)).andThen
    (changeNotice_counter _ k (s.channel k).state)
  unfold sample
  refine CounterFrame.andThen (CounterFrame.andThen ?_ (comparators_counter _ k _))
    (serveWaiting_counter _ k)
  exact CounterFrame.ite (a.andThen (weightNotice_counter _ _ _)) a

theorem channelOffline_counter (k : Pos) : CounterFrame s (s.channelOffline k) := by
  have a := (viaChannel s k Channel.goOffline).andThen (changeNotice_counter _ k (s.channel k).state)
  unfold channelOffline
  dsimp only
  split <;> split <;> first
    | exact ((a.andThen (loseCapture_counter _ _ _)).andThen (viaChannel _ _ _)).andThen
        (captureRefused_counter _ _ _)
    | exact a.andThen (loseCapture_counter _ _ _)
    | exact (a.andThen (viaChannel _ _ _)).andThen (captureRefused_counter _ _ _)
    | exact a

theorem missSample_counter (k : Pos) : CounterFrame s (s.missSample k) :=
  CounterFrame.ite ((viaChannel s _ _).andThen (channelOffline_counter _ _)) (viaChannel s _ _)

theorem captureExpires_counter (k : Pos) : CounterFrame s (s.captureExpires k) :=
  CounterFrame.ite ((viaChannel s _ _).andThen (captureRefused_counter _ _ _)) (refl s)

/-! ## Gauges -/

theorem axisNotice_counter (g : Pos) (a : Axis) (e : GaugeEvent) : CounterFrame s (s.axisNotice g a e) :=
  viaOffer s _

theorem setAxis_counter (g : Pos) (a : Axis) (x : AxisRec) : CounterFrame s (s.setAxis g a x) :=
  viaGauge s g _

theorem homeEvent_counter (g : Pos) (a : Axis) : CounterFrame s (s.homeEvent g a) := by
  unfold homeEvent
  dsimp only
  generalize (AxisRec.home ((s.gauges.get g).axes.get a)
    ((s.settings.host.homeOffsets.get g).get a)) = x
  obtain ⟨y, l⟩ := x
  refine CounterFrame.andThen (setAxis_counter s g a y) ?_
  dsimp only
  generalize s.setAxis g a y = t
  induction l generalizing t with
  | nil => exact refl t
  | cons e rest ih => exact (axisNotice_counter t g a e).andThen (ih _)

theorem phasePair_counter (g : Pos) (a : Axis) (p : BitVec 2) : CounterFrame s (s.phasePair g a p) := by
  unfold phasePair
  dsimp only
  split
  · exact setAxis_counter s _ _ _
  · exact (setAxis_counter s _ _ _).andThen (axisNotice_counter _ _ _ _)

theorem buttonPress_counter (g : Pos) : CounterFrame s (s.buttonPress g) := by
  unfold buttonPress
  dsimp only
  refine CounterFrame.ite (refl s) (CounterFrame.ite (viaGauge s g _) ?_)
  split
  · exact viaGauge s g _
  · exact (viaGauge s g _).andThen (axisNotice_counter _ _ _ _)

end State

end Sys2Proof.Machine
end

