-- ==== Sys2Proof/Laws/Frames.lean ====
section
/-! SUPPORT. What the frames of the line are: each request has one code of its own, a payload is read by it,
and a frame has its seven bytes beside its payload (R191, R193). -/

namespace Sys2Proof

theorem ReqName.mem_all (n : ReqName) : n ∈ ReqName.all := by cases n <;> decide

/-- No two requests have one message code (R193). -/
theorem messageCode_injective {a b : ReqName} (h : Config.messageCode a = Config.messageCode b) : a = b := by
  have place : ∀ c : ReqName, ReqName.all.idxOf c < 256 := fun c =>
    Nat.lt_of_lt_of_le (List.idxOf_lt_length_of_mem c.mem_all) (by decide)
  have e := congrArg BitVec.toNat (Config.codeOrder.injective h)
  rw [BitVec.toNat_ofNat, BitVec.toNat_ofNat, Nat.mod_eq_of_lt (place a), Nat.mod_eq_of_lt (place b)] at e
  exact (List.idxOf_inj a.mem_all).mp e

theorem requestOfCode_some {code : Byte} {n : ReqName} (h : requestOfCode code = some n) :
    Config.messageCode n = code := by simpa using List.find?_some h

theorem requestOfCode_none {code : Byte} : requestOfCode code = none ↔ ∀ n, Config.messageCode n ≠ code := by
  rw [requestOfCode, List.find?_eq_none]
  exact ⟨fun h n => by simpa using h n n.mem_all, fun h n _ => by simpa using h n⟩

/-- A request's own code is read as that request (R193). -/
theorem requestOfCode_messageCode (n : ReqName) : requestOfCode (Config.messageCode n) = some n := by
  cases h : requestOfCode (Config.messageCode n) with
  | none => exact absurd rfl (requestOfCode_none.mp h n)
  | some m => exact congrArg some (messageCode_injective (requestOfCode_some h))

/-- A request read from the bytes after a message code is a request of that name (R193). -/
theorem readRequest_name {n : ReqName} {fields : List Byte} {r : Request} (h : readRequest n fields = some r) :
    r.name = n := by
  unfold readRequest at h
  split at h
  · next q hq =>
    split at h
    · cases n <;> simp [ReqName.bare] at hq <;> subst hq <;> cases h <;> rfl
    · cases h
  · obtain ⟨x, -, rfl⟩ := Option.map_eq_some_iff.mp h
    exact x.2

/-- A request without fields is read from its message code alone, and has the wrong length with any byte more
(R191, R193). -/
theorem readPayload_bare {n : ReqName} {r : Request} (h : n.bare = some r) (fields : List Byte) :
    readPayload (Config.messageCode n) fields = if fields = [] then .request r else .badLength n := by
  unfold readPayload readRequest
  rw [requestOfCode_messageCode]
  dsimp only
  rw [h]
  by_cases none_left : fields = [] <;> simp [none_left]

/-- A frame is seven bytes longer than its payload (R191). -/
theorem frameBytes_length (kind tag : Byte) (payload : List Byte) :
    (frameBytes kind tag payload).length = payload.length + 7 := by
  simp [frameBytes, checkedBytes, bytes16]

/-- No payload the part sends is longer than 1,024 bytes (R191). -/
theorem payloadOf_length (bs : List Byte) : (payloadOf bs).length ≤ 1024 := by
  simp [payloadOf, Config.payloadBytes]

end Sys2Proof
end

