-- ==== Sys2Proof/Laws/Memory.lean ====
section
/-! SUPPORT. The tariff memory: every operation keeps its canonical form, and what a byte reads as after each
operation (R37). -/

namespace Sys2Proof.Machine.Memory

/-! ## The canonical form is kept -/

theorem wfFrom_le {low low' : Nat} (h : low' ≤ low) {m : Memory} (w : wfFrom low m = true) :
    wfFrom low' m = true := by
  cases m with
  | nil => rfl
  | cons c rest =>
    obtain ⟨a, v⟩ := c
    simp only [wfFrom, Bool.and_eq_true, decide_eq_true_eq, bne_iff_ne] at w ⊢
    exact ⟨⟨⟨by omega, w.1.1.2⟩, w.1.2⟩, w.2⟩

theorem wfFrom_write {x : Nat} {v : Byte} (hx : x < Config.flashBytes) :
    ∀ {m : Memory} {low : Nat}, low ≤ x → wfFrom low m = true → wfFrom low (m.write x v) = true := by
  intro m
  induction m with
  | nil =>
    intro low hl _
    simp only [write]
    split
    · rfl
    · rename_i hv
      simp [wfFrom, hl, hx, hv]
  | cons c rest ih =>
    intro low hl w
    obtain ⟨a, b⟩ := c
    simp only [wfFrom, Bool.and_eq_true, decide_eq_true_eq, bne_iff_ne] at w
    obtain ⟨⟨⟨h1, h2⟩, h3⟩, h4⟩ := w
    simp only [write]
    split
    · split
      · simp [wfFrom, h1, h2, h3, h4]
      · rename_i hlt hv
        have : x + 1 ≤ a := hlt
        simp [wfFrom, hl, hx, hv, this, h2, h3, h4]
    · split
      · split
        · exact wfFrom_le (by omega) h4
        · rename_i hlt heq hv
          subst heq
          simp [wfFrom, hl, hx, hv, h4]
      · simp only [wfFrom, Bool.and_eq_true, decide_eq_true_eq, bne_iff_ne]
        exact ⟨⟨⟨h1, h2⟩, h3⟩, ih (by omega) h4⟩

/-- Replacing a byte keeps the canonical form. -/
theorem wf_put {m : Memory} (x : Nat) (v : Byte) (w : m.wf = true) : (m.put x v).wf = true := by
  simp only [put]
  split
  · rename_i hx
    exact wfFrom_write hx (Nat.zero_le x) w
  · exact w

/-- Programming keeps the canonical form. -/
theorem wf_program (bs : List Byte) :
    ∀ {m : Memory} (x : Nat), m.wf = true → (m.program x bs).wf = true := by
  induction bs with
  | nil => intro m x w; exact w
  | cons b rest ih => intro m x w; exact ih (x + 1) (wf_put x _ w)

theorem wfFrom_filter (p : Host.Cell → Bool) :
    ∀ {m : Memory} {low : Nat}, wfFrom low m = true → wfFrom low (m.filter p) = true := by
  intro m
  induction m with
  | nil => intro low _; rfl
  | cons c rest ih =>
    intro low w
    obtain ⟨a, b⟩ := c
    simp only [wfFrom, Bool.and_eq_true, decide_eq_true_eq, bne_iff_ne] at w
    simp only [List.filter]
    split
    · simp only [wfFrom, Bool.and_eq_true, decide_eq_true_eq, bne_iff_ne]
      exact ⟨w.1, ih w.2⟩
    · exact wfFrom_le (by omega) (ih w.2)

/-- Erasing keeps the canonical form. -/
theorem wf_erase {m : Memory} (x count : Nat) (w : m.wf = true) : (m.erase x count).wf = true :=
  wfFrom_filter _ w

/-- A failed access leaves the canonical form. -/
theorem wf_spoil (n : Nat) :
    ∀ (count : Nat) {m : Memory} (x : Nat), m.wf = true → (m.spoil n x count).wf = true := by
  intro count
  induction count with
  | zero => intro m x w; exact w
  | succ k ih => intro m x w; exact ih (x + 1) (wf_put x _ w)

/-! ## What a byte reads as -/

theorem read_of_low {x : Nat} :
    ∀ {m : Memory} {low : Nat}, wfFrom low m = true → x < low → m.read x = erasedByte := by
  intro m
  induction m with
  | nil => intro low _ _; rfl
  | cons c rest ih =>
    intro low w hx
    obtain ⟨a, b⟩ := c
    simp only [wfFrom, Bool.and_eq_true, decide_eq_true_eq, bne_iff_ne] at w
    have : a ≠ x := by omega
    simp only [read, if_neg this]
    exact ih w.2 (by omega)

theorem read_write_same {x : Nat} {v : Byte} :
    ∀ {m : Memory} {low : Nat}, wfFrom low m = true → (m.write x v).read x = v := by
  intro m
  induction m with
  | nil =>
    intro low _
    simp only [write]
    split
    · rename_i h; simp [read, h]
    · simp [read]
  | cons c rest ih =>
    intro low w
    obtain ⟨a, b⟩ := c
    simp only [wfFrom, Bool.and_eq_true, decide_eq_true_eq, bne_iff_ne] at w
    simp only [write]
    split
    · rename_i hlt
      split
      · rename_i hv
        have : a ≠ x := by omega
        rw [read, if_neg this, read_of_low w.2 (by omega)]
        exact hv.symm
      · simp [read]
    · split
      · rename_i heq
        split
        · rename_i hv
          rw [read_of_low w.2 (by omega)]
          exact hv.symm
        · simp [read]
      · rename_i hne
        have : a ≠ x := fun h => hne h.symm
        rw [read, if_neg this]
        exact ih w.2

theorem read_write_other {x y : Nat} {v : Byte} (h : y ≠ x) :
    ∀ {m : Memory}, (m.write x v).read y = m.read y := by
  have hx : x ≠ y := fun e => h e.symm
  intro m
  induction m with
  | nil =>
    simp only [write]
    split
    · rfl
    · simp [read, hx]
  | cons c rest ih =>
    obtain ⟨a, b⟩ := c
    simp only [write]
    split
    · split
      · rfl
      · simp [read, hx]
    · split
      · rename_i heq
        subst heq
        split
        · simp [read, hx]
        · simp [read, hx]
      · simp only [read]
        split
        · rfl
        · exact ih

/-- A replaced byte of the memory reads as written. -/
theorem read_put_same {m : Memory} {x : Nat} (v : Byte) (w : m.wf = true) (hx : x < Config.flashBytes) :
    (m.put x v).read x = v := by
  simp only [put, if_pos hx]
  exact read_write_same w

/-- Every other byte reads as before. -/
theorem read_put_other {m : Memory} {x y : Nat} (v : Byte) (h : y ≠ x) : (m.put x v).read y = m.read y := by
  simp only [put]
  split
  · exact read_write_other h
  · rfl

/-- A byte outside the run programmed reads as before. -/
theorem read_program_outside (bs : List Byte) :
    ∀ {m : Memory} {x y : Nat}, (y < x ∨ x + bs.length ≤ y) → (m.program x bs).read y = m.read y := by
  induction bs with
  | nil => intro m x y _; rfl
  | cons b rest ih =>
    intro m x y h
    simp only [List.length_cons] at h
    simp only [program]
    rw [ih (by omega), read_put_other _ (by omega)]

/-- A byte of the run erased reads 0xFF, and every other byte as before. -/
theorem read_erase {m : Memory} (x count y : Nat) :
    (m.erase x count).read y = if x ≤ y ∧ y < x + count then erasedByte else m.read y := by
  induction m with
  | nil => simp [erase, read]
  | cons c rest ih =>
    obtain ⟨a, b⟩ := c
    simp only [erase, List.filter] at ih ⊢
    by_cases h : a < x ∨ x + count ≤ a
    · have hp : (decide (a < x) || decide (x + count ≤ a)) = true := by simpa using h
      simp only [hp, read]
      split
      · rename_i heq
        subst heq
        rw [if_neg (by omega)]
      · exact ih
    · have hp : (decide (a < x) || decide (x + count ≤ a)) = false := by simpa using h
      simp only [hp]
      rw [ih]
      split
      · rfl
      · rename_i hy
        have : a ≠ y := by omega
        simp [read, this]

/-- A byte outside a failed access reads as before. -/
theorem read_spoil_outside (n : Nat) :
    ∀ (count : Nat) {m : Memory} {x y : Nat}, (y < x ∨ x + count ≤ y) →
      (m.spoil n x count).read y = m.read y := by
  intro count
  induction count with
  | zero => intro m x y _; rfl
  | succ k ih =>
    intro m x y h
    simp only [spoil]
    rw [ih (by omega), read_put_other _ (by omega)]

end Sys2Proof.Machine.Memory
end

