-- ==== Sys2Proof/Laws/Settings.lean ====
section
/-! SUPPORT. The square root of R129, the least the permitted maximum speed can be (R129), and when a copy of the
settings record is valid (R200, R201, R203). -/

namespace Sys2Proof

/-- The bit-by-bit square root is the floor of the root (R129). -/
theorem sqrtBits_spec (bits : Nat) :
    ∀ n acc : Nat, acc * acc ≤ n → n < (acc + 2 ^ bits) * (acc + 2 ^ bits) →
      sqrtBits bits n acc * sqrtBits bits n acc ≤ n ∧
      n < (sqrtBits bits n acc + 1) * (sqrtBits bits n acc + 1) := by
  induction bits with
  | zero => intro n acc h₁ h₂; exact ⟨h₁, by simpa [sqrtBits] using h₂⟩
  | succ b ih =>
    intro n acc h₁ h₂
    unfold sqrtBits
    split
    · rename_i h
      refine ih n _ h ?_
      have : acc + 2 ^ b + 2 ^ b = acc + 2 ^ (b + 1) := by rw [Nat.pow_succ]; omega
      rw [this]
      exact h₂
    · rename_i h
      exact ih n acc h₁ (Nat.lt_of_not_le h)

theorem floorSqrt_spec {n : Nat} (h : n < 4294967296) :
    floorSqrt n * floorSqrt n ≤ n ∧ n < (floorSqrt n + 1) * (floorSqrt n + 1) :=
  sqrtBits_spec 16 n 0 (Nat.zero_le n) (by simpa using h)

/-- A check of valid host fields holds. -/
theorem HostFields.check_holds {h : HostFields} (ok : h.fault = none) {c : FieldName × Bool}
    (m : c ∈ h.checks) : c.2 = true := by
  simp only [HostFields.fault, Option.map_eq_none_iff, List.find?_eq_none] at ok
  simpa using ok c m

/-- Every valid setting keeps Vmax at or above creep speed (R129). -/
theorem HostFields.vmax_ge_creep {h : HostFields} (ok : h.fault = none) : 100 ≤ h.vmax := by
  have mem : ∀ c ∈ geometryChecks h.geo, c ∈ h.checks := by
    intro c m
    simp only [HostFields.checks, List.mem_append]
    exact .inl (.inl (.inr m))
  have mem' : ∀ c ∈ [(FieldName.labelLength, between 100 200 h.labelLength),
      (.printSpeed, between 100 200 h.printSpeed), (.applyMs, between 100 1000 h.applyMs),
      (.lowWater, between 0 100000 h.lowWater)], c ∈ h.checks := by
    intro c m
    simp only [HostFields.checks, List.mem_append]
    exact .inl (.inr m)
  have pitch := check_holds ok (mem (.pitch, between 300 3000 h.geo.pitch) (by simp [geometryChecks]))
  have slow := check_holds ok (mem (.slowdown, between (h.geo.tol + 100) 2000 h.geo.slow &&
    decide (h.geo.slow < h.geo.d.v6)) (by simp [geometryChecks]))
  have decel := check_holds ok (mem (.deceleration, between 100 2000 h.geo.decel)
    (by simp [geometryChecks]))
  have label := check_holds ok (mem' (.labelLength, between 100 200 h.labelLength) (by simp))
  have print := check_holds ok (mem' (.printSpeed, between 100 200 h.printSpeed) (by simp))
  have apply_ := check_holds ok (mem' (.applyMs, between 100 1000 h.applyMs) (by simp))
  simp only [between, Bool.and_eq_true, decide_eq_true_eq] at pitch slow decel label print apply_
  have ms : h.printMs ≤ 2000 := by
    simp only [HostFields.printMs, ceilDiv]
    apply Nat.le_of_lt_succ
    rw [Nat.div_lt_iff_lt_mul (by omega)]
    omega
  have first : 100 ≤ h.geo.pitch * 1000 / (h.printMs + h.applyMs) := by
    rw [Nat.le_div_iff_mul_le (by omega)]
    omega
  have inside : 20000 ≤ 2 * h.geo.decel * (h.geo.slow - h.geo.tol) :=
    Nat.mul_le_mul (show 200 ≤ 2 * h.geo.decel by omega) (show 100 ≤ h.geo.slow - h.geo.tol by omega)
  have small : 2 * h.geo.decel * (h.geo.slow - h.geo.tol) < 4294967296 :=
    Nat.lt_of_le_of_lt (Nat.mul_le_mul (show 2 * h.geo.decel ≤ 4000 by omega)
      (show h.geo.slow - h.geo.tol ≤ 2000 by omega)) (by decide)
  have root : 100 ≤ floorSqrt (2 * h.geo.decel * (h.geo.slow - h.geo.tol)) := by
    have s := (floorSqrt_spec small).2
    generalize floorSqrt (2 * h.geo.decel * (h.geo.slow - h.geo.tol)) = r at s
    apply Nat.le_of_not_lt
    intro lt
    have : (r + 1) * (r + 1) ≤ 100 * 100 := Nat.mul_le_mul (by omega) (by omega)
    omega
  simp only [HostFields.vmax]
  omega

/-- A valid copy: the marker, the CRC-16 and every range are right (R200). -/
theorem Copy.valid_iff (c : Copy) (q : BitVec 32) (r : SettingsRecord) : c.valid = some (q, r) ↔
    c.marker = .right ∧ c.crc = settingsCrc c.seq c.record ∧ c.record.ok = true ∧ c.seq = q ∧ c.record = r := by
  cases m : c.marker <;> by_cases crc : c.crc = settingsCrc c.seq c.record <;> cases ok : c.record.ok <;>
    simp [Copy.valid, Copy.fault, m, crc, ok]

/-- What a store writes is valid when its fields are (R203). -/
theorem Copy.written_valid (q : BitVec 32) (r : SettingsRecord) (h : r.ok = true) :
    (Copy.written q r).valid = some (q, r) := (Copy.valid_iff _ _ _).mpr ⟨rfl, rfl, h, rfl, rfl⟩

/-- What a failed or interrupted write leaves is invalid (R201, R203). -/
theorem Copy.spoilt_invalid (n : Nat) : (Copy.spoilt n).valid = none := by
  unfold Copy.spoilt
  dsimp only
  split
  · rfl
  · rename_i h
    rw [Copy.valid, h]

end Sys2Proof
end

