-- ==== Sys2Proof/Laws/Tariff.lean ====
section
/-! SUPPORT. What the Tariff Controller's operations leave as it was and keep: `TariffFrame s t` says once
everything that loading, verification, activation, damage and walk reads do beside their own block. -/

namespace Sys2Proof.Machine

namespace TariffFrame

theorem ofCounter {s t : State} (a : CounterFrame s t) : TariffFrame s t where
  pins := a.pins
  timeout := a.timeout
  belt := a.belt
  release := a.release
  label := a.label
  time := a.time
  settings := a.settings
  pending := a.pending
  register := a.register
  pool := a.pool
  issued := a.issued
  lowMark := a.lowMark
  confirmed := a.confirmed
  labelled := a.labelled
  rejected := a.rejected
  missing := a.missing
  voided := a.voided
  receiver := a.receiver
  gap := a.gap
  part := a.part
  frameErrors := a.frameErrors
  lostRequests := a.lostRequests
  restartSlot := a.restartSlot
  busyList := a.busyList
  notices := a.notices
  memory := fun h => by rw [a.flash]; exact h
  banks := fun h => by rw [a.tariff]; exact h

theorem refl (s : State) : TariffFrame s s := ofCounter (CounterFrame.refl s)

theorem andThen {s t u : State} (a : TariffFrame s t) (b : TariffFrame t u) : TariffFrame s u where
  pins := b.pins.trans a.pins
  timeout := b.timeout.trans a.timeout
  belt := b.belt.trans a.belt
  release := b.release.trans a.release
  label := b.label.trans a.label
  time := b.time.trans a.time
  settings := b.settings.trans a.settings
  pending := b.pending.trans a.pending
  register := b.register.trans a.register
  pool := b.pool.trans a.pool
  issued := b.issued.trans a.issued
  lowMark := b.lowMark.trans a.lowMark
  confirmed := b.confirmed.trans a.confirmed
  labelled := b.labelled.trans a.labelled
  rejected := b.rejected.trans a.rejected
  missing := b.missing.trans a.missing
  voided := b.voided.trans a.voided
  receiver := b.receiver.trans a.receiver
  gap := b.gap.trans a.gap
  part := b.part.trans a.part
  frameErrors := b.frameErrors.trans a.frameErrors
  lostRequests := b.lostRequests.trans a.lostRequests
  restartSlot := b.restartSlot.trans a.restartSlot
  busyList := b.busyList.trans a.busyList
  notices := fun h => b.notices (a.notices h)
  memory := fun h => b.memory (a.memory h)
  banks := fun h => b.banks (a.banks h)

/-- The frame of an `if`. -/
theorem ite {s t u : State} {c : Prop} [Decidable c] (a : TariffFrame s t) (b : TariffFrame s u) :
    TariffFrame s (if c then t else u) := by split <;> assumption

/-! ## One field changed -/

theorem viaTariff (s : State) (f : Tariff → Tariff) (h : s.tariff.bankLaw → (f s.tariff).bankLaw) :
    TariffFrame s (s.onTariff f) := by
  constructor <;> first | rfl | exact h | (intros; assumption)

theorem viaFlash (s : State) (f : Flash → Flash)
    (h : Memory.wf s.flash.cells = true → Memory.wf (f s.flash).cells = true) :
    TariffFrame s (s.onFlash f) := by
  constructor <;> first | rfl | exact h | (intros; assumption)

theorem viaPort (s : State) (f : Port → Port) : TariffFrame s (s.onPort f) :=
  ofCounter (CounterFrame.viaPort s f)

theorem viaDraw (s : State) : TariffFrame s s.draw.2 := by
  constructor <;> first | rfl | (intros; assumption)

theorem viaAnswer (s : State) (i : SlotId) (r : Reply) : TariffFrame s (s.answer i r) :=
  ofCounter (CounterFrame.viaAnswer s i r)

theorem viaOffer (s : State) (n : Notice) : TariffFrame s (s.offer n) :=
  ofCounter (CounterFrame.viaOffer s n)

/-- A bank changed to a state that more than one bank may have. -/
theorem viaBank (s : State) (k : Bank) (f : BankRec → BankRec)
    (h : (f (s.tariff.banks.get k)).state = (s.tariff.banks.get k).state ∨
      (f (s.tariff.banks.get k)).state = .empty ∨ (f (s.tariff.banks.get k)).state = .verifying ∨
      (f (s.tariff.banks.get k)).state = .damaged) : TariffFrame s (s.onBank k f) := by
  refine viaTariff s _ ?_
  intro l
  cases k <;> simp only [Two.get] at h <;> simp only [Two.set, Two.get, Tariff.bankLaw] at l ⊢ <;>
    rcases h with h | h | h | h <;> simp only [h] <;> simp_all

end TariffFrame

/-! ## State records (R38) -/

/-- What a sector reads as: its record, when the marker and the CRC-16 are right (R38). -/
theorem readStateRecord_eq_some (sector : Option StateRecord) (r : StateRecord) :
    readStateRecord sector = some r ↔
      sector = some r ∧ r.marker = .right ∧ r.check = crc16 (Config.recordBytes r.toRecordFields) := by
  simp only [readStateRecord, Option.filter_eq_some_iff, stateRecordGood, stateRecordCheck, Bool.and_eq_true,
    beq_iff_eq]

/-- An erased sector reads as no record (R38). -/
@[simp] theorem readStateRecord_none : readStateRecord none = none := rfl

/-- A rewrite's record reads as itself (R38). -/
@[simp] theorem readStateRecord_written (f : RecordFields) :
    readStateRecord (some (writtenStateRecord f)) = some (writtenStateRecord f) :=
  (readStateRecord_eq_some _ _).mpr ⟨rfl, rfl, rfl⟩

open TariffFrame

namespace State
variable (s : State)

/-! ## Banks, records, activation -/

theorem emptyBank_tariff (k : Bank) : TariffFrame s (s.emptyBank k) := viaBank s k _ (.inr (.inl rfl))

theorem askPort_tariff (a : Access) : TariffFrame s (s.ask a) := viaPort s _

/-- A rewrite asks the erase of the sector and the program of a record that says the state and the description, and
the record sequence moves on (R38). -/
theorem rewriteRecord_says (k : Bank) (st : RecordedState) (d : Option Description) :
    ∃ r, recordSays r (s.tariff.recordSeq + 1) st d ∧ s.rewriteRecord k st d = { s with
      tariff := { s.tariff with recordSeq := s.tariff.recordSeq + 1 }
      port := s.port.asks [.recordErase k, .recordProgram k r] } :=
  ⟨_, ⟨rfl, rfl, rfl, rfl, by rintro y rfl; exact ⟨rfl, rfl, by rintro _ _ _ h; simp [writtenStateRecord, h]⟩⟩, rfl⟩

theorem rewriteRecord_tariff (k : Bank) (st : RecordedState) (d : Option Description) :
    TariffFrame s (s.rewriteRecord k st d) := by
  unfold rewriteRecord
  exact ((viaTariff s _ (fun h => h)).andThen (askPort_tariff _ _)).andThen (askPort_tariff _ _)

/-- Bank k takes a state that no two banks may share, the other bank not being in it. -/
theorem setBank_law {t : Tariff} {k : Bank} {b : BankRec} (law : t.bankLaw)
    (h : (t.banks.get k.other).state ≠ b.state) : ({ t with banks := t.banks.set k b } : Tariff).bankLaw := by
  obtain ⟨active, staged, loading⟩ := law
  cases k <;> simp only [Two.get, Bank.other] at h <;>
    simp only [Tariff.bankLaw, Two.set] <;> refine ⟨?_, ?_, ?_⟩ <;>
    rintro ⟨x, y⟩ <;> simp_all

theorem activate_tariff (k : Bank) (t : Summary) (c : ActivationCause) :
    TariffFrame s (s.activate k t c) := by
  unfold activate
  dsimp only
  have cleared : TariffFrame s (if s.bankState k.other = .active ∨ s.bankState k.other = .damaged then
      s.emptyBank k.other else s) := TariffFrame.ite (emptyBank_tariff s _) (refl s)
  have other : ((if s.bankState k.other = .active ∨ s.bankState k.other = .damaged then
      s.emptyBank k.other else s).tariff.banks.get k.other).state ≠ .active := by
    split
    · simp [emptyBank, onBank, onTariff]
    · rename_i h
      exact fun e => h (.inl e)
  generalize (if s.bankState k.other = .active ∨ s.bankState k.other = .damaged then
      s.emptyBank k.other else s) = u at cleared other ⊢
  have active : TariffFrame u ((u.onBank k (fun b => { b with state := .active })).onTariff
      (fun c => { c with active := some t, staged := none, generation := nextGeneration c.generation })) := by
    refine (viaTariff u _ (fun l => ?_)).andThen (viaTariff _ _ (fun l => l))
    exact setBank_law l other
  have told := ((cleared.andThen active).andThen
    (ofCounter (CounterFrame.viaCache _ Cache.purge))).andThen
    (ofCounter ((markStale_counter _).andThen (restartRating_counter _)))
  refine TariffFrame.andThen ?_ (viaOffer _ _)
  exact TariffFrame.ite
    ((told.andThen (rewriteRecord_tariff _ _ _ _)).andThen (rewriteRecord_tariff _ _ _ _))
    (told.andThen (rewriteRecord_tariff _ _ _ _))

theorem effectiveCheck_tariff : TariffFrame s s.effectiveCheck := by
  unfold effectiveCheck
  split
  · exact TariffFrame.ite (activate_tariff s _ _ _) (refl s)
  · exact refl s

theorem damage_tariff (g r : Nat) : TariffFrame s (s.damage g r) := by
  unfold damage
  split
  · exact refl s
  · refine TariffFrame.ite ?_ (refl s)
    exact ((((viaBank s _ _ (.inr (.inr (.inr rfl)))).andThen (viaTariff _ _ (fun h => h))).andThen
      (ofCounter (CounterFrame.viaCache _ _))).andThen (rewriteRecord_tariff _ _ _ _)).andThen
      (viaOffer _ _)

/-! ## Verification -/

theorem askVerify_tariff (v : Verify) : TariffFrame s (s.askVerify v) :=
  (viaTariff s _ (fun h => h)).andThen (askPort_tariff _ _)

theorem beginVerify_tariff (k : Bank) (n : Nat) (c : BitVec 32) (x : Bool) :
    TariffFrame s (s.beginVerify k n c x) := askVerify_tariff s _

theorem turnVerifier_tariff : TariffFrame s s.turnVerifier := by
  unfold turnVerifier
  refine TariffFrame.ite (refl s) ?_
  split
  · exact beginVerify_tariff s _ _ _ _
  · exact TariffFrame.ite (refl s) (beginVerify_tariff s _ _ _ _)
  · exact refl s

theorem stage_tariff (k : Bank) (t : Summary) : TariffFrame s (s.stage k t) := by
  unfold stage
  dsimp only
  have cleared : TariffFrame s (if decide (s.bankState k.other = .staged) = true then
      s.emptyBank k.other else s) := TariffFrame.ite (emptyBank_tariff s _) (refl s)
  have other : ((if decide (s.bankState k.other = .staged) = true then
      s.emptyBank k.other else s).tariff.banks.get k.other).state ≠ .staged := by
    split
    · simp [emptyBank, onBank, onTariff]
    · rename_i h
      exact fun e => h (decide_eq_true e)
  generalize (if decide (s.bankState k.other = .staged) = true then
      s.emptyBank k.other else s) = u at cleared other ⊢
  have staged : TariffFrame u ((u.onBank k (fun b => { b with
      state := .staged
      description := b.description.map (fun d => describe d.length d.crc (some t.header))
      lastResult := some .passed })).onTariff (fun c => { c with staged := some t })) := by
    refine (viaTariff u _ (fun l => ?_)).andThen (viaTariff _ _ (fun l => l))
    exact setBank_law l other
  exact TariffFrame.ite (((cleared.andThen staged).andThen (rewriteRecord_tariff _ _ _ _)).andThen
    (rewriteRecord_tariff _ _ _ _)) ((cleared.andThen staged).andThen (rewriteRecord_tariff _ _ _ _))

theorem leaveQueue_tariff : TariffFrame s s.leaveQueue := viaTariff s _ (fun h => h)

theorem verifyPassed_tariff (w : VerifyWait) (t : Summary) : TariffFrame s (s.verifyPassed w t) :=
  ((((leaveQueue_tariff s).andThen (stage_tariff _ _ _)).andThen (viaAnswer _ _ _)).andThen
    (effectiveCheck_tariff _)).andThen (turnVerifier_tariff _)

theorem verifyFailed_tariff (w : VerifyWait) (c : VerifyCheck) (n : Nat) :
    TariffFrame s (s.verifyFailed w c n) :=
  (((((leaveQueue_tariff s).andThen (emptyBank_tariff _ _)).andThen (viaBank _ _ _ (.inl rfl))).andThen
    (rewriteRecord_tariff _ _ _ _)).andThen (viaAnswer _ _ _)).andThen (turnVerifier_tariff _)

/-! ## The start-up scan, but for its end -/

theorem scanGeneration_tariff : TariffFrame s s.scanGeneration := viaTariff s _ (fun h => h)

theorem leaveScan_tariff (k : Bank) (r : VerifyResult) : TariffFrame s (s.leaveScan k r) :=
  (viaTariff s _ (fun h => h)).andThen (viaBank _ _ _ (.inl rfl))

/-! ## Programming -/

theorem refuseWrites_tariff (n : Nat) (r : Reason) : TariffFrame s (s.refuseWrites n r) := by
  unfold refuseWrites
  dsimp only
  generalize s.tariff.writes.filter (fun w => w.session == n) = l
  refine TariffFrame.andThen (viaTariff s
    (fun t => { t with writes := t.writes.filter (fun w => w.session != n) }) (fun h => h)) ?_
  generalize s.onTariff (fun t => { t with writes := t.writes.filter (fun w => w.session != n) }) = u
  induction l generalizing u with
  | nil => exact refl u
  | cons w rest ih => exact (viaAnswer u _ _).andThen (ih _)

theorem endSession_tariff (x : Session) (r : Reason) : TariffFrame s (s.endSession x r) := by
  unfold endSession
  dsimp only
  have ended := (viaTariff s (fun t => { t with session := none }) (fun h => h)).andThen
    (viaPort _ (Port.withdraw x.id))
  exact (((TariffFrame.ite (ended.andThen (viaAnswer _ _ _)) ended).andThen
    (refuseWrites_tariff _ _ _)).andThen (emptyBank_tariff _ _)).andThen (rewriteRecord_tariff _ _ _ _)

theorem endVerifying_tariff (w : VerifyWait) : TariffFrame s (s.endVerifying w) := by
  unfold endVerifying
  dsimp only
  exact ((((((viaTariff s _ (fun h => h)).andThen (viaPort _ _)).andThen
    (refuseWrites_tariff _ _ _)).andThen (viaAnswer _ _ _)).andThen (emptyBank_tariff _ _)).andThen
    (rewriteRecord_tariff _ _ _ _)).andThen (turnVerifier_tariff _)

theorem sessionFault_tariff (n : Nat) : TariffFrame s (s.sessionFault n) := by
  have v : TariffFrame s (sessionFault.verifying s n) := by
    unfold sessionFault.verifying
    split
    · exact endVerifying_tariff s _
    · exact refl s
  unfold sessionFault
  split
  · exact TariffFrame.ite (endSession_tariff s _ _) v
  · exact v

theorem erased_tariff (n : Nat) : TariffFrame s (s.erased n) := by
  unfold erased
  split
  · exact refl s
  · exact TariffFrame.ite (refl s) (TariffFrame.ite
      ((viaTariff s _ (fun h => h)).andThen (viaAnswer _ _ _)) (viaTariff s _ (fun h => h)))

theorem programmed_tariff (n : Nat) (i : SlotId) : TariffFrame s (s.programmed n i) := by
  unfold programmed
  split
  · exact refl s
  · exact TariffFrame.ite
      (((viaTariff s _ (fun h => h)).andThen (viaAnswer _ _ _)).andThen (turnVerifier_tariff _))
      (viaTariff s _ (fun h => h))

theorem spoil_tariff (a n : Nat) : TariffFrame s (s.spoil a n) :=
  (viaDraw s).andThen (viaFlash _ _ (fun h => Memory.wf_spoil _ _ _ h))

theorem spoilRecord_tariff (k : Bank) : TariffFrame s (s.spoilRecord k) :=
  (viaDraw s).andThen (viaFlash _ _ (fun h => h))

theorem programmingDone_tariff (a : Access) (ok : Bool) : TariffFrame s (s.programmingDone a ok) := by
  cases a with
  | walk | verification => exact refl s
  | erase k sector n =>
    exact TariffFrame.ite ((viaFlash s _ (fun h => Memory.wf_erase _ _ h)).andThen (erased_tariff _ _))
      ((spoil_tariff s _ _).andThen (sessionFault_tariff _ _))
  | program k o bs n i =>
    exact TariffFrame.ite ((viaFlash s _ (fun h => Memory.wf_program _ _ h)).andThen (programmed_tariff _ _ _))
      ((spoil_tariff s _ _).andThen (sessionFault_tariff _ _))
  | recordErase k =>
    exact TariffFrame.ite ((viaFlash s _ (fun h => h)).andThen (viaBank _ _ _ (.inl rfl)))
      ((spoilRecord_tariff s _).andThen (viaBank _ _ _ (.inl rfl)))
  | recordProgram k r =>
    exact TariffFrame.ite ((viaFlash s _ (fun h => h)).andThen (viaBank _ _ _ (.inl rfl)))
      ((spoilRecord_tariff s _).andThen (viaBank _ _ _ (.inl rfl)))

/-! ## Requests -/

theorem askErases_tariff (k : Bank) (x n : Nat) (at_ : Nat) : TariffFrame s (askErases k x n at_ s) := by
  induction n generalizing s at_ with
  | zero => exact refl s
  | succ n ih => exact (askPort_tariff s _).andThen (ih _ _)

theorem openSession_tariff (k : Bank) (n : Nat) (c : BitVec 32) (i : SlotId)
    (h : s.bankState k.other ≠ .loading) : TariffFrame s (s.openSession k n c i) := by
  unfold openSession
  dsimp only
  refine TariffFrame.andThen (TariffFrame.andThen (TariffFrame.andThen ?_ (viaTariff _ _ (fun h => h)))
    (rewriteRecord_tariff _ _ _ _)) (askErases_tariff _ _ _ _ _)
  exact viaTariff s _ (fun l => setBank_law l h)

theorem discardBank_tariff (k : Bank) : TariffFrame s (s.discardBank k) :=
  ((emptyBank_tariff s _).andThen (viaBank _ _ _ (.inl rfl))).andThen (rewriteRecord_tariff _ _ _ _)

/-! ## Walk reads -/

theorem badRead_tariff (w : Walk) : TariffFrame s (s.badRead w) := by
  have c := ofCounter (CounterFrame.viaCache s
    (fun c => c.count (fun n => { n with recordErrors := bump32 n.recordErrors })))
  unfold badRead
  exact TariffFrame.ite ((c.andThen (damage_tariff _ _ _)).andThen (ofCounter (endWalk_counter _ _)))
    (c.andThen (ofCounter (askWalk_counter _ _)))

theorem walkRead_tariff (bs : List Byte) : TariffFrame s (s.walkRead bs) := by
  unfold walkRead
  split
  · exact refl s
  · rename_i old _
    have c := ofCounter ((CounterFrame.viaCache s
      (fun c => c.count (fun n => { n with walkReads := bump32 n.walkReads }))).andThen
      (CounterFrame.viaCache _ (fun c => { c with walk := some { old with reads := old.reads + 1 } })))
    exact TariffFrame.ite (c.andThen (ofCounter (endWalk_counter _ _)))
      (TariffFrame.ite (c.andThen (badRead_tariff _ _)) (c.andThen (ofCounter (goWalk_counter _ _ _))))

theorem deliver_tariff (k : Bank) (offset : Nat) : TariffFrame s (s.deliver k offset).2 :=
  TariffFrame.ite (viaDraw s) (refl s)

theorem walkDone_tariff (k : Bank) (offset : Nat) (d : Option (List Byte)) :
    TariffFrame s (s.walkDone k offset d) := by
  unfold walkDone
  cases d with
  | none => exact ((deliver_tariff s k offset).andThen (viaPort _ _)).andThen (walkRead_tariff _ _)
  | some bs => exact (viaPort s _).andThen (walkRead_tariff _ _)

/-- Within the image area a walk read delivers the memory's own bytes (R37, R65). -/
theorem walkRun_image (k : Bank) : ∀ n offset, offset + n ≤ 4190208 →
    s.walkRun k offset n = Memory.readRun s.flash.cells (bankBase k + offset) n
  | 0, _, _ => rfl
  | n + 1, offset, h => by
    have inside : offset < Config.imageBytes := by show offset < 4190208; omega
    rw [walkRun, Memory.readRun, if_pos inside, walkRun_image k n (offset + 1) (by omega)]
    rfl

end State

/-- The port after a failed access of a load session: the session's waiting accesses are withdrawn before the
arbiter chooses (R50); after every other completion the arbiter chooses at once (R57). -/
theorem Port.finish_cases (a : Access) (ok : Bool) (p : Port) :
    p.finish a ok = p.complete ∨ (ok = false ∧ ∃ id, p.finish a ok = (p.withdraw id).complete) := by
  unfold Port.finish
  split
  · exact .inl rfl
  · split <;> first | exact .inl rfl | exact .inr ⟨by simp_all, _, rfl⟩

end Sys2Proof.Machine
end

