-- ==== Sys2Proof/WellFormed.lean ====
section
/-! DEFINITION. Which commands the outside can form at all. A request travels in a payload of at most
1,024 bytes whose first byte is the message code (R191); a verification read delivers up to 256 bytes
and a walk read one record, whose length field has two bytes (R51, R57, R40). A request field that
only breaks a limit of its chapter is well-formed: the part answers it. -/

namespace Sys2Proof

/-- The bytes left in a payload after its message code (R191). -/
def maxFieldBytes : Nat := 1023

/-- The bytes of the address lines of a request, which stand in its payload. -/
def lineBytes (lines : List (List Byte)) : Nat := (lines.map List.length).foldl (· + ·) 0

/-- A delivered read fits the access that made it. -/
def deliveredFits (most : Nat) : Option (List Byte) → Bool
  | none => true
  | some bs => bs.length ≤ most

/-- A command the outside can form. -/
def Instr.wellFormed : Instr → Bool
  | .tData _ _ data => data.length ≤ maxFieldBytes
  | .iOpen _ f => lineBytes f.lines + f.postcode.length ≤ maxFieldBytes
  | .iAmend _ f =>
    lineBytes (f.lines.getD []) + (f.postcode.getD []).length ≤ maxFieldBytes
  | .iVoid _ digits => digits.length ≤ maxFieldBytes
  | .iRead _ digits => digits.length ≤ maxFieldBytes
  | .verificationReadComplete d => deliveredFits 256 d
  | .walkReadComplete d => deliveredFits 65535 d
  | .sampleArrival .. | .sampleTimerExpiry .. | .captureTimeout .. | .wSet .. | .wTimeout .. | .wZero ..
  | .wTare .. | .wClearTare .. | .wCalibrateZero .. | .wCalibrateSpan .. | .wStatus ..
  | .encoderStep .. | .homeEvent .. | .buttonPress .. | .buttonRelease .. | .gLatch .. | .gStatus ..
  | .tOpen .. | .tClose .. | .tDiscard .. | .tActivate .. | .tStatus ..
  | .programmingAccessComplete .. | .cPurge .. | .cStats .. | .cRead ..
  | .iRate .. | .iConfirm .. | .iCancel .. | .iStatus .. | .iList .. | .iCounts .. | .nLoad ..
  | .nStatus .. | .beltEncoderCount .. | .speedWindowEnd | .rampStep | .bRun .. | .bStop .. | .bReset ..
  | .bStatus .. | .bQueue .. | .emergencyStopAsserted | .emergencyStopReleased
  | .inductEyeFrontEdge .. | .inductEyeTrailingEdge .. | .applicatorEyeFrontEdge
  | .applicatorEyeTrailingEdge | .pOpen .. | .pClose .. | .pStatus .. | .pStats ..
  | .negotiationTimerExpiry | .rotationTimerExpiry .. | .tokenPass | .thtExpiry | .expressWaitExpiry
  | .printerReadyReport | .printerPresentedReport | .printerFaultReport .. | .jobTimerExpiry
  | .queryTimerExpiry | .tampExtendEnd | .tampDwellEnd | .tampRetractEnd .. | .lStatus .. | .lStats ..
  | .frameReceived .. | .byteFramingError | .byteGapTimeout | .transmitFrameEnd | .calendarSecond
  | .sClockSet .. | .sStore .. | .storeWriteComplete .. | .sGet .. | .sStatus .. | .sRestart ..
  | .powerOnReset .. | .pinReset .. | .byteReceived .. | .homeSwitchOpened .. | .resetLineAsserted
  | .powerLoss => true

end Sys2Proof
end

