-- ==== Sys2Proof/Tests/Slice0.lean ====
section
/-! SUPPORT. Tests by decide: ill-formed commands are refused by the check of `WellFormed`, the worked cases of
spec/ come out as the spec gives them, and each statement's premises are met by a concrete state. -/

namespace Sys2Proof.Tests
open Sys2Proof Sys2Proof.Machine

set_option Elab.async false

/-! ## Helpers -/

/-- The next state an outcome answers. -/
def next? : Host.Outcome State Fault Refusal → Option State
  | .next t => some t
  | .fault _ | .refused _ => none

/-- The state after the commands, one after another, if each answers a next state. -/
def run (s : State) (cs : List Instr) : Option State :=
  cs.foldl (fun s c => s.bind (fun s => next? (exec c s))) (some s)

/-- The part right after reset, with a change made in it. -/
def reset : State := State.reset

theorem takes_of (s : State) (hr : s.running = true) (hl : s.link = reset.link) : s.takes 0 := by
  refine ⟨hr, ?_, ?_⟩ <;> rw [hl] <;> decide

/-- A run of zero bytes. -/
def zeros (n : Nat) : List Byte := List.replicate n 0

/-! ## Well-formed commands -/

theorem test_tData_payload : (Instr.tData 0 0 (zeros 1023)).wellFormed = true := by decide +kernel
theorem test_tData_refused : (Instr.tData 0 0 (zeros 1024)).wellFormed = false := by decide +kernel

/-- The fields of I_OPEN for position 1. -/
def openFields : OpenFields :=
  { position := 1, service := 1, postcode := [4, 7, 1, 0, 3], value := 0, flags := ⟨false, false, false, false⟩
    tier := 0, lines := [], keyed := ⟨none, none, none⟩ }

/-- The fields of I_AMEND for position 1, with nothing named. -/
def amendFields : AmendFields :=
  { position := 1, service := none, postcode := none, value := none, flags := none, tier := none, lines := none
    keyed := ⟨none, none, none⟩, removeKeyed := false, remeasure := false, reweigh := false }

theorem test_iOpen_refused :
    (Instr.iOpen 0 { openFields with lines := [zeros 1019] }).wellFormed = false := by decide +kernel
theorem test_iAmend_refused :
    (Instr.iAmend 0 { amendFields with lines := some [zeros 1024] }).wellFormed = false := by decide +kernel
theorem test_iVoid_refused : (Instr.iVoid 0 (List.replicate 1024 0)).wellFormed = false := by decide +kernel
theorem test_iRead_refused : (Instr.iRead 0 (List.replicate 1024 0)).wellFormed = false := by decide +kernel
theorem test_verification_read_refused :
    (Instr.verificationReadComplete (some (zeros 257))).wellFormed = false := by decide +kernel
theorem test_walk_read_refused : (Instr.walkReadComplete (some (zeros 65536))).wellFormed = false := by
  simp only [Instr.wellFormed, deliveredFits, zeros, List.length_replicate]; decide

/-- No row of the table has bits. -/
theorem test_no_word_decodes : decodeTableWord 8 0 = none := by decide

/-! ## The queue, the time base and dispatch -/

/-- A part in which every timer that can run has one millisecond left. -/
def ticking : State :=
  { reset with
    weighing := { channels := .fill { sampleTimer := 1, waiting := some 1 } }
    time := { calendar := some ⟨⟨2031, 2, 28, 23, 59⟩, 59⟩, msPhase := 999, rampIn := 1, speedIn := 1 }
    release := { state := .rotating, ttrt := some 2000, token := some .p2, tht := 1
                 places := (Six.fill {}).set .p2 { staffed := true, mode := .held, trt := 2000 } |>.set .p4
                   { staffed := true, mode := .running, trt := 1 } }
    label := { printer := .fault .unknown, query := 1, tamp := .extend 0 1 }
    link := { reset.link with receiver := .inFrame [], gap := 1 } }

theorem witness_StepRunsFrontCommand :
    ({ reset with pending := [.rampStep, .wStatus 0 1] } : State).pending = .rampStep :: [.wStatus 0 1] := by decide
theorem witness_IdleStepTicks : reset.pending = [] ∧ reset.running = true ∧
    ({ reset with pins := { powerGood := false } } : State).running = false ∧ ticking.pending = [] ∧
    ticking.running = true := by decide
theorem test_idle_step_queues_expiries : ((next? (step ticking)).map (fun t =>
    (t.pending.contains (.sampleTimerExpiry .p6), t.pending.contains (.captureTimeout .p1),
      t.pending.contains .thtExpiry, t.pending.contains (.rotationTimerExpiry .p4),
      t.pending.contains .calendarSecond, t.pending.contains .tampExtendEnd))) =
    some (true, true, true, true, true, true) := by decide +kernel

/-- All request slots held. -/
def full : State :=
  { reset with link := { reset.link with slots := Vector.replicate 8 (some ⟨0, .req .wStatus, .serving⟩) } }

/-- The part while it starts. -/
def starting : State := { reset with link := { reset.link with part := .starting } }

theorem witness_RequestArrival :
    (Instr.tData 7 0 (zeros 513)).request = some (7, .tData 0 (zeros 513)) ∧
    (full.running = true ∧ full.link.freeSlot = none) ∧
    reset.link.freeSlot = some 0 ∧ requestFits (.tData 0 (zeros 513)) = false ∧
    requestFits (.tData 0 (zeros 512)) = true ∧ starting.link.part = .starting ∧
    (Request.tData 0 []).name ≠ .sStatus ∧ reset.link.part = .ready := by decide +kernel

/-- A result record of a rated item. -/
def result : RateResult :=
  { generation := 1, wt := 4312, cw := some 4312, total := some 2380, service := some (1, [0x53]),
    zone := some (4, (0x4B, 0x34)) }
/-- A register entry of position 4 that awaits release. -/
def entry : RegEntry :=
  { number := 271800040965, position := .p4, accepted := ⟨2031, 3, 1, 0, 0⟩, postcode := 47103, fragile := true
    signature := false, irregular := false, result := result, lines := [], cls := .standard, state := .awaitRelease
    attempts := 0, track := none, label := none, reject := none }
/-- The digits of that entry's number, whose serial is 4,096 and whose check digit is 5. -/
def digits : List Nat := [2, 7, 1, 8, 0, 0, 0, 4, 0, 9, 6, 5]
/-- A part with one confirmed item. -/
def stocked : State := { reset with items := { register := [entry], confirmed := 1 } }

theorem witness_StatusAndStatisticsAnswered : stocked.takes 0 ∧ Pos.ofNumber 6 = some .p6 ∧
    numberField digits = some 271800040965 ∧ stocked.findItem 271800040965 = some entry ∧
    reset.findItem 271800040965 = none ∧ numberField [2, 7, 1, 8, 0, 0, 0, 4, 0, 9, 6, 4] = none :=
  ⟨takes_of _ rfl rfl, by decide +kernel⟩
theorem witness_PositionFieldChecked : reset.takes 0 ∧ ((0 : Nat) < 1 ∨ 6 < 0) ∧ (7 < 1 ∨ 6 < 7) :=
  ⟨takes_of _ rfl rfl, by decide⟩

/-! ## Weighing channels: the worked sequence of channel 3 -/

/-- The channel of the worked sequence, whose last sample left it in MOTION. -/
def weigher : Channel :=
  { zc := 120000, calibration := .calibrated, z0 := some 120000, zw := 120000, state := .motion
    window := [2275600, 2276300, 2275900, 2276200, 2275800, 2276100, 2276000, 2275700, 2276400]
    report := some ⟨4344, 4344, 2, false⟩, enables := ⟨false, true, false, true, true⟩ }
/-- The open item of position 3, with keyed dimensions. -/
def item3 : OpenItem :=
  { fields := ⟨1, 47103, 0, false, false, false, 0, []⟩, keyed := some ⟨41, 26, 18⟩ }
/-- The platform with the parcel on it: the item is open and channel 3 is about to settle. -/
def platform : State := (reset.onChannel .p3 (fun _ => weigher)).setOpenSlot .p3 (.opened item3)
/-- A channel that is settled and STABLE with the parcel on it. -/
def settled : Channel :=
  { weigher with window := weigher.window ++ [2276000], settled := true, state := .stable
                 report := some ⟨4312, 4312, 2, false⟩ }

/-- A sample of channel 3. -/
def sample3 (raw : Nat) : Instr := .sampleArrival .p3 (BitVec.ofNat 24 raw)

theorem test_fine_weight : fineAbout 120000 500000 2276000 = 43120 := by decide
theorem test_fine_mean_rounds : fineAbout 120000 500000 2276240 = 43125 := by decide
theorem test_half_rounds_away : roundHalfAway (-5) 10 = -1 ∧ roundHalfAway 5 10 = 1 := by decide
theorem test_sample_settles : (run platform [sample3 2276000]).map (fun t =>
    ((t.channel .p3).state, (t.channel .p3).report)) = some (.stable, some ⟨4312, 4312, 2, false⟩) := by
  decide +kernel
theorem test_disturb_at_2e_holds : (run (platform.onChannel .p3 (fun _ => { settled with
      capture := some ⟨4312, 2, none⟩, disturb := some 4312 })) [sample3 2278000]).map (fun t =>
    ((t.channel .p3).state, (t.channel .p3).report, (t.channel .p3).disturb)) =
    some (.motion, some ⟨4316, 4316, 2, false⟩, some 4312) := by decide +kernel
theorem test_zero_range : fineAbout 120000 500000 1750000 = 32600 := by decide
theorem test_span_sets_k : (run (reset.onChannel .p3 (fun _ => { weigher with
      window := List.replicate 10 2620000, settled := true, state := .stable, k := 400000 }))
      [.wCalibrateSpan 1 3 5000]).map (fun t => (t.channel .p3).k) = some 500000 := by decide +kernel
theorem test_capture_waits_in_motion : (run platform [.iRate 1 3]).map (fun t =>
    ((t.channel .p3).waiting, (t.openSlot .p3).state)) = some (some 3000, .rating) := by decide +kernel

theorem witness_WeighingRoundsHalfAway : 0 < 10 ∧
    2 * (roundHalfAway (-5) 10 * (10 : Nat) - -5).natAbs = 10 ∧ (120000 - 120005 : Int) * 10000 = -50000 ∧
    [1, 2, 3].sum = (6 : Int) ∧ ([1, 2, 3] : List Int).length = 3 := by decide
theorem witness_SampleDecidesChannel : platform.running = true ∧ Pos.p1 ≠ .p3 := by decide
theorem witness_SampleComparators : platform.running = true ∧ (platform.channel .p3).waiting = none ∧
    ∀ it ph i, platform.openSlot .p3 ≠ .rating it ph i := ⟨by decide, by decide, by intro _ _ _ h; cases h⟩

/-- A channel one missed sample before OFFLINE. -/
def missing : Channel := { settled with missCount := 9 }
/-- Channel 3 about to go OFFLINE with a capture waiting for its item. -/
def waitingCapture : State := (reset.onChannel .p3 (fun _ => { missing with
  state := .motion, settled := false, waiting := some 1 })).setOpenSlot .p3 (.rating item3 .gathering 2)
/-- Channel 3 about to go OFFLINE with a capture armed. -/
def armedCapture : State := (reset.onChannel .p3 (fun _ => { missing with
  capture := some ⟨4312, 2, none⟩, disturb := some 4312 })).setOpenSlot .p3 (.opened item3)

theorem witness_SampleAndCaptureTimers :
    (waitingCapture.running = true ∧ (waitingCapture.channel .p3).missCount + 1 = 10 ∧
      (waitingCapture.channel .p3).state ≠ .offline ∧ (waitingCapture.channel .p3).disturb = none ∧
      (waitingCapture.channel .p3).waiting = some 1 ∧
      waitingCapture.openSlot .p3 = .rating item3 .gathering 2) ∧
    ((armedCapture.channel .p3).disturb = some 4312 ∧
      (armedCapture.channel .p3).capture = some ⟨4312, 2, none⟩ ∧ (armedCapture.channel .p3).waiting = none ∧
      armedCapture.openSlot .p3 = .opened item3) ∧
    ((reset.channel .p1).missCount = 0 ∧ (reset.channel .p1).waiting = none) := by decide
theorem test_tenth_miss_goes_offline : (run armedCapture [.sampleTimerExpiry .p3]).map (fun t =>
    ((t.channel .p3).state, (t.channel .p3).capture, (t.channel .p3).window)) = some (.offline, none, []) := by
  decide +kernel
theorem witness_WeighingRequests : platform.takes 0 ∧ Pos.ofNumber 3 = some .p3 :=
  ⟨takes_of _ rfl rfl, by decide⟩
theorem test_settle_clamped : (run reset [.wSet 1 1 3 6 .factory]).map (fun t =>
    ((t.channel .p1).n, (t.channel .p1).b)) = some (4, 5) := by decide +kernel
theorem witness_CalibrationRequests : platform.takes 0 ∧ Pos.ofNumber 3 = some .p3 ∧
    (999 < 1000 ∨ 30000 < 999) ∧ (30001 < 1000 ∨ 30000 < 30001) ∧ (1000 ≤ 1000 ∧ 1000 ≤ 30000) ∧ 30000 ≤ 30000 :=
  ⟨takes_of _ rfl rfl, by decide⟩

/-! ## Dimension gauges: the worked sequence of gauge 2 -/

/-- Gauge 2 with its arms at 817, 503 and 359 counts. -/
def measuring : State := reset.onGauge .p2 (fun g => { g with
  axes := ⟨{ state := .ready, count := 817 }, { state := .ready, count := 503, pair := 2 },
    { state := .ready, count := 359 }⟩ })

theorem test_latch_gives_cm : (run measuring [.buttonPress .p2]).map (fun t =>
    (t.gauges.get .p2).record.map (·.cm)) = some (some ⟨41, 26, 18⟩) := by decide +kernel
theorem test_phase_error : (run measuring [.encoderStep .p2 .width 1]).map (fun t =>
    (((t.gauges.get .p2).axes.get .width).state, ((t.gauges.get .p2).axes.get .width).phaseErrors)) =
    some (.unreferenced, 1) := by decide +kernel
theorem test_home_slip : (run (reset.onGauge .p2 (fun g => { g with
      axes := g.axes.set .length { state := .ready, count := 26 } })) [.homeEvent .p2 .length]).map (fun t =>
    (((t.gauges.get .p2).axes.get .length).count, ((t.gauges.get .p2).axes.get .length).correction,
      t.link.notices)) =
    some (20, some (-6), [.gaugeFault .p2 (.homeSlip (-6)) (some (.length, .ready, 20))]) := by decide +kernel

/-- Gauge 1 with an arm at each limit of the count. -/
def atLimits : State := reset.onGauge .p1 (fun g => { g with
  axes := ⟨{ count := 32767 }, { count := -32768 }, { count := 3000, state := .ready }⟩ })

theorem witness_GaugeLinesFollowed : atLimits.running = true ∧
    (0#2, 1#2) ∈ [(0#2, 1#2), (1#2, 3#2), (3#2, 2#2), (2#2, 0#2)] ∧
    (0#2, 2#2) ∈ [(2#2, 3#2), (3#2, 1#2), (1#2, 0#2), (0#2, 2#2)] ∧
    (0#2, 3#2) ∈ [(0#2, 3#2), (1#2, 2#2), (3#2, 0#2), (2#2, 1#2)] ∧
    32767 < ((atLimits.gauges.get .p1).axes.get .length).count + 1 ∧
    ((atLimits.gauges.get .p1).axes.get .width).count + -1 < -32768 ∧
    ((atLimits.gauges.get .p1).axes.get .length).count + -1 ≤ 32767 ∧
    ((atLimits.gauges.get .p1).axes.get .length).state = .unreferenced ∧
    ((atLimits.gauges.get .p1).axes.get .height).state ≠ .unreferenced := by decide

/-- A latch record in claim. -/
def claimed : LatchRecord := ⟨⟨817, 503, 359⟩, ⟨41, 26, 18⟩, .button, true⟩

theorem witness_LatchesByButtonAndRequest : measuring.takes 0 ∧ Pos.ofNumber 2 = some .p2 ∧
    ((measuring.gauges.get .p2).button = .released ∧ (measuring.gauges.get .p2).record = none ∧
      ∀ a ∈ Axis.all, ((measuring.gauges.get .p2).axes.get a).state = .ready) ∧
    (let s := measuring.onGauge .p2 (fun g => { g with button := .pressed, record := some claimed })
     (s.gauges.get .p2).button = .pressed ∧ (s.gauges.get .p2).record = some claimed ∧ claimed.claimed = true) ∧
    ((reset.gauges.get .p2).axes.get .length).state ≠ .ready := ⟨takes_of _ rfl rfl, by decide⟩

/-! ## Tariff image and banks: a small image of tariff 41 -/

/-- A number in two bytes. -/
def w2 (n : Nat) : List Byte := [BitVec.ofNat 8 (n / 256), BitVec.ofNat 8 n]
/-- A number in four bytes. -/
def w4 (n : Nat) : List Byte := w2 (n / 65536) ++ w2 n
/-- The header record of tariff 41 version 4, without its CRC-16: effective 1 March 2031 00:00, tax 1,900, granularity
5, divisor 5,000, one record each of services, zone ranges and ladders. -/
def header : List Byte :=
  [1, 0, 33] ++ w2 41 ++ w2 4 ++ [31, 3, 1, 0, 0] ++ w2 1900 ++ [5] ++ w2 5000 ++ w2 0 ++ w2 75 ++ w2 120 ++ w2 200 ++
    [1] ++ w2 1 ++ w2 1 ++ [0]
/-- What that header says. -/
def tariff41 : Header := ⟨41, 4, ⟨2031, 3, 1, 0, 0⟩, 1900, 5, 5000, [0, 75, 120, 200], 1, 1, 1, 0⟩
/-- The service record of STANDARD, without its CRC-16, which offers zone 4 with its ladder at offset 119. -/
def service : List Byte :=
  [2, 0, 74, 1, 0x53, 0x54, 0x41, 0x4E, 0x44, 0x41, 0x52, 0x44] ++ w2 30000 ++ [150] ++ w2 300 ++ [1] ++ w4 500000 ++
    w2 8 ++ zeros 12 ++ w4 119 ++ zeros 32
/-- What that service record says. -/
def standard : Service :=
  ⟨1, [0x53, 0x54, 0x41, 0x4E, 0x44, 0x41, 0x52, 0x44], 30000, 150, 300, true, false, 500000, 8,
    [0, 0, 0, 119, 0, 0, 0, 0, 0, 0, 0, 0], 2, [0, 0, 0, 0, 0, 0, 0, 0, 0, 0, 0, 0]⟩
/-- Prefixes 450 to 489: zone 4, sort code K4. -/
def zoneRange : List Byte := [3, 0, 12, 1, 0xC2, 1, 0xE9, 4, 0x4B, 0x34, 0x6A, 0xBD]
/-- A ladder to zone 4 of one step, to 5,000 g for 1,480. -/
def ladder : List Byte := [4, 0, 15, 1, 4, 1, 0x13, 0x88, 0, 0, 5, 0xC8, 0, 0x50, 0x7D]
/-- A ladder to zone 4 of one step, to 10,000 g for 1,990, and a tail of 85 for each 1,000 g. -/
def tailed : List Byte := [4, 0, 21, 1, 4, 1, 0x27, 0x10, 0, 0, 7, 0xC6, 1, 3, 0xE8, 0, 0, 0, 0x55, 0x51, 0x13]

theorem test_crc16_check : crc16 [0x31, 0x32, 0x33, 0x34, 0x35, 0x36, 0x37, 0x38, 0x39] = 0x29B1 := by
  decide +kernel
theorem test_crc32_check : crc32 [0x31, 0x32, 0x33, 0x34, 0x35, 0x36, 0x37, 0x38, 0x39] = 0xCBF43926 := by
  decide +kernel
theorem test_header_fields : headerOf header = tariff41 := by decide +kernel
theorem test_service_fields : serviceOf service 2 = standard := by decide +kernel

theorem witness_PortServesByClass :
    let walk : Access := .walk .a 33
    let read : Access := .verification .b 0 256
    let erase : Access := .erase .b 0 1
    let p : Port := { current := some erase, walk := some walk, verification := some read, programming := [erase] }
    ({} : Port).current = none ∧ p.current ≠ none ∧ p.walk = some walk ∧
    { p with walk := none }.verification = some read ∧
    ({ p with walk := none, verification := none } : Port).programming = erase :: [] ∧
    ({ current := some erase } : Port).programming = [] := by decide

/-- A part with a load session on bank B, and an access in progress. -/
def loading (x : Session) (a : Option Access) : State :=
  { reset with
    tariff := { session := some x, sessions := x.id, banks := { a := {}, b := { state := .loading } }
                writes := [⟨x.id, .b, 3, 146, 1⟩] }
    port := { current := a } }
/-- The session of the image. -/
def session : Session :=
  { bank := .b, id := 1, length := 146, crc := 0, received := 0, erasing := true, erasesLeft := 1, slot := 2 }

theorem witness_LoadAccessSucceeds :
    let erase := loading session (some (.erase .b 1022 1))
    let many := loading { session with erasesLeft := 2 } (some (.erase .b 0 1))
    let late := loading { session with id := 2 } (some (.erase .b 0 1))
    let page := loading session (some (.program .b 4190080 (zeros 128) 1 3))
    let read := { reset with port := { current := some (.walk .a 33) } }
    (read.running = true ∧ Memory.wf read.flash.cells = true ∧ read.port.current = some (.walk .a 33)) ∧
    (erase.port.current = some (.erase .b 1022 1) ∧ erase.tariff.session = some session ∧ session.erasesLeft ≤ 1) ∧
    (many.port.current = some (.erase .b 0 1) ∧ 1 < 2) ∧
    (late.port.current = some (.erase .b 0 1) ∧ late.tariff.session = some { session with id := 2 } ∧ 2 ≠ 1) ∧
    (page.port.current = some (.program .b 4190080 (zeros 128) 1 3) ∧
      page.tariff.writes.find? (fun w => w.session == 1 && w.slot == 3) = some ⟨1, .b, 3, 146, 1⟩ ∧
      bankBase .b + 4190080 + 127 < 8388608) := by decide +kernel

/-- The record of an empty bank. -/
def emptyRecord : StateRecord :=
  { seq := 1, state := .empty, length := 0, crc := 0, tariffId := 0, version := 0, effective := ⟨0, 0, 0, 0, 0⟩
    marker := .right, check := 0 }

theorem witness_RecordRewriteCompletes :
    let s (a : Access) : State := { reset with port := { current := some a } }
    (s (.recordErase .a)).running = true ∧ (s (.recordErase .a)).port.current = some (.recordErase .a) ∧
    (s (.recordProgram .a emptyRecord)).port.current = some (.recordProgram .a emptyRecord) ∧
    ((s (.recordProgram .a emptyRecord)).tariff.banks.get .a).eraseFailed = false := by decide
theorem witness_LoadAccessFails :
    let s := loading session (some (.erase .b 1022 1))
    let gone := loading { session with id := 2 } (some (.program .b 0 [0] 1 3))
    s.running = true ∧ s.port.current = some (.erase .b 1022 1) ∧ s.tariff.session = some session ∧
    gone.port.current = some (.program .b 0 [0] 1 3) ∧ gone.tariff.session = some { session with id := 2 } ∧
    gone.tariff.queue = [] := by decide
theorem witness_LoadOpens :
    let s (a b : BankState) : State := { reset with tariff := { banks := ⟨{ state := a }, { state := b }⟩ } }
    reset.takes 0 ∧ (0 < 1 ∨ 4190208 < 0) ∧ (4190209 < 1 ∨ 4190208 < 4190209) ∧ 1 ≤ 4190208 ∧
    (∀ x : BankState, ((s x .empty).tariff.banks.get .a).state = x) ∧
    ((s .empty .loading).tariff.banks.get Bank.a.other).state = .loading ∧
    ((s .staged .active).tariff.banks.get Bank.a.other).state ≠ .loading :=
  ⟨takes_of _ rfl rfl, by decide, by decide, by decide, fun _ => rfl, by decide, by decide⟩
theorem witness_LoadTakesData :
    let open_ (x : Session) := loading { x with erasing := false } none
    (open_ session).takes 0 ∧ 512 < (zeros 513).length ∧ 1 ≤ (zeros 146).length ∧ (zeros 512).length ≤ 512 ∧
    reset.tariff.session = none ∧ session.erasing = true ∧
    (open_ session).tariff.session = some { session with erasing := false } ∧ 1 ≠ session.received ∧
    session.length < 0 + (zeros 147).length ∧ 0 + (zeros 146).length ≤ session.length :=
  ⟨takes_of _ rfl rfl, by decide +kernel⟩
theorem test_page_split : (run (loading { session with erasing := false, length := 600 } none)
    [.tData 1 0 (zeros 257)]).map (fun t => (t.tariff.session.map (·.received), t.port.current,
      t.port.programming)) =
    some (some 257, some (.program .b 0 (zeros 256) 1 0), [.program .b 256 (zeros 1) 1 0]) := by decide +kernel
theorem witness_LoadCloses :
    let done := { loading { session with erasing := false, received := 146 } none with
      tariff := { (loading { session with erasing := false, received := 146 } none).tariff with writes := [] } }
    let busy := loading { session with erasing := false, received := 146 } none
    done.takes 0 ∧ session.received < session.length ∧
    (done.tariff.session = some { session with erasing := false, received := 146 } ∧ session.length ≤ 146 ∧
      done.tariff.verify = none ∧ done.tariff.scanning = [] ∧ done.tariff.queue = [] ∧ done.tariff.writes = []) ∧
    (busy.tariff.queue = [] ∧ ⟨1, .b, 3, 146, 1⟩ ∈ busy.tariff.writes) :=
  ⟨takes_of _ rfl rfl, by decide⟩
theorem witness_BankDiscarded :
    let s (x : BankState) : State := { reset with tariff := { banks := ⟨{ state := x }, {}⟩ } }
    (∀ x : BankState, (s x).takes 0 ∧ ((s x).tariff.banks.get .a).state = x) ∧
    (let l := loading session none
     (l.tariff.banks.get .b).state = .loading ∧ l.tariff.session = some session ∧ session.bank = .b) :=
  ⟨fun _ => ⟨takes_of _ rfl rfl, rfl⟩, by decide⟩

/-- The verifier of an image of 134 bytes that has taken its header, its service and its zone range. -/
def verifying : Verify :=
  { bank := .b, length := 134, crc := 0xA6025B4D, startUp := false, got := 119, buf := [], at_ := 119, record := 4
    group := 3, sum := 0x3BFF2D46, header := some tariff41, services := [standard], zones := 1, lastHigh := some 489 }
/-- The service with the record number of its ladder. -/
def laddered : Service := { standard with ladderRecords := [0, 0, 0, 4, 0, 0, 0, 0, 0, 0, 0, 0] }
/-- The summary of that image. -/
def summary : Summary := ⟨tariff41, [laddered], []⟩

theorem test_image_passes : verifying.feed ladder = .passed summary := by decide +kernel
theorem test_zone_out_of_order : ({ verifying with length := 200 } : Verify).feed zoneRange = .failed .order 4 := by
  decide +kernel
theorem test_image_crc_checked : ({ verifying with crc := 0xA6025B4C } : Verify).feed ladder = .failed .imageCrc 0 := by
  decide +kernel

/-- A part whose bank B is being verified, with the last read in progress. -/
def verifier : State :=
  { reset with
    tariff := { banks := ⟨{}, { state := .verifying, description := some ⟨134, 0xA6025B4D, none⟩ }⟩
                queue := [⟨.b, 1, 3⟩], verify := some verifying }
    port := { current := some (.verification .b 119 15) } }

theorem witness_VerificationReadTaken :
    (verifier.running = true ∧ verifier.port.current = some (.verification .b 119 15) ∧
      verifier.tariff.verify = some verifying ∧ verifying.startUp = false ∧
      verifier.tariff.scanning = [] ∧ verifier.tariff.queue = [⟨.b, 1, 3⟩]) ∧
    (let bytes (d : List Byte) := (d ++ (Memory.readRun verifier.flash.cells (bankBase .b + 119) 15).drop d.length).take 15
     verifying.feed (bytes ladder) = .passed summary ∧
      verifying.feed (bytes (ladder.set 14 0)) = .failed .recordCrc 4) ∧
    (∃ v, verifying.feed (ladder.take 14) = .more v) :=
  ⟨by decide +kernel, by decide +kernel, ⟨_, rfl⟩⟩
theorem witness_PassedImageIsWhole : verifying.feed ladder = .passed summary ∧
    (verifying.services.map (·.code)).Nodup ∧ (verifying.surcharges.map (·.code)).Nodup ∧
    (verifying.surcharges.filter (fun o => o.mask.getLsbD (16 - 1))).length ≤ 8 := by decide +kernel

/-- A part with that tariff ACTIVE in bank B as generation 8. -/
def trading : State :=
  { reset with tariff := { banks := ⟨{}, { state := .active }⟩, active := some summary, generation := 8 } }

theorem witness_StagedTariffActivated :
    let s := { reset with tariff := { banks := ⟨{ state := .active }, { state := .staged }⟩
                                      staged := some summary, generation := 65535 } }
    s.takes 0 ∧ (reset.tariff.banks.a.state ≠ .staged ∧ reset.tariff.banks.b.state ≠ .staged) ∧
    ((s.tariff.banks.get .b).state = .staged ∧ (s.tariff.banks.get Bank.b.other).state ≠ .staged ∧
      s.tariff.staged = some summary ∧ s.rating.current = none) := ⟨takes_of _ rfl rfl, by decide⟩

/-! ## Rate cache and walks -/

theorem witness_PurgeCache : reset.takes 0 := takes_of _ rfl rfl
theorem witness_CacheRead : reset.takes 0 ∧ 47 < 48 ∧ 7 < 8 ∧ 6 = Pos.p6.number ∧ (7 < 1 ∨ 6 < 7) :=
  ⟨takes_of _ rfl rfl, by decide⟩

/-- A point entry of STANDARD to zone 4. -/
def point : PointEntry := ⟨true, 8, 1, 4, 2000, 5000, 1480⟩
/-- Its band entry. -/
def band : BandEntry := ⟨true, 8, 1, 4, 10000, 1990, 1000, 85, 30000⟩
/-- Its lookaside. -/
def lookaside : Lookaside := ⟨true, 8, 450, 489, 4, (0x4B, 0x34)⟩
/-- The trading part with those entries. -/
def cached : State := trading.onCache (fun c => { c with
  points := c.points.set 0 point, bands := c.bands.set 0 band, lookasides := c.lookasides.set .p4 lookaside })

theorem witness_LookupsAnswered : reset.tariffInForce = none ∧ trading.tariffInForce = some (.b, summary) ∧
    (∀ v ∈ summary.services, v.code ≠ 2) ∧
    (∃ v, summary.services.find? (fun v => v.code == 1) = some v) ∧
    (point ∈ cached.cache.points.toList ∧ point.low < 2001 ∧ 5000 ≤ point.high ∧
      ∀ o ∈ cached.cache.points.toList, o.valid = true → o = point) ∧
    (band ∈ cached.cache.bands.toList ∧ (∀ o ∈ cached.cache.points.toList, ¬(o.low < 10001 ∧ 10001 ≤ o.high)) ∧
      ∀ o ∈ cached.cache.bands.toList, o.valid = true → o = band) ∧
    (lookaside.low ≤ 450 ∧ 489 ≤ lookaside.high) ∧
    (∀ o ∈ trading.cache.points.toList, o.valid = false) ∧ (∀ o ∈ trading.cache.bands.toList, o.valid = false) := by
  refine ⟨by decide, by decide +kernel, by decide +kernel, ⟨_, rfl⟩, ?_⟩
  decide +kernel
theorem witness_EntryInstalled :
    let c := cached.cache
    let whole : Cache := { points := Vector.replicate 48 point, bands := Vector.replicate 8 band, pointPtr := 47 }
    (point ∈ c.points.toList ∧ point.valid = true) ∧ (band ∈ c.bands.toList ∧ band.valid = true) ∧
    (∀ o ∈ reset.cache.points.toList, o.valid = false) ∧
    (c.points[1].valid = false ∧ ∀ m : Fin 48, m < 1 → c.points[m].valid = true) ∧
    (c.bands[1].valid = false ∧ ∀ m : Fin 8, m < 1 → c.bands[m].valid = true) ∧
    ((∀ j : Fin 48, whole.points[j].valid = true) ∧ ∀ o ∈ whole.points.toList, o.low ≠ 0) ∧
    ((∀ j : Fin 8, whole.bands[j].valid = true) ∧ ∀ o ∈ whole.bands.toList, o.zone ≠ 5) := by decide +kernel

/-- The trading part in a walk whose read is in progress. -/
def walking (w : Walk) : State :=
  (trading.onCache (fun c => { c with walk := some w })).onPort (fun p => { p with current := some (.walk .b w.place) })
/-- The zone walk of prefix 471 for position 4. -/
def zoneSearch : Walk := zoneWalk summary .b 8 .p4 471
/-- The rate walk of STANDARD to zone 4 at its ladder. -/
def ladderSearch (cw : Nat) : Walk :=
  { rateWalk summary laddered .b 8 4 cw with stage := .ladder 30000, place := 119, record := 4 }

theorem witness_WalkReadTaken :
    (reset.running = true ∧ reset.port.current = none) ∧
    (4190205 + max 3 3 ≤ 4190208 ∧ 4190208 < 4190206 + max 3 3 ∧ trading.cache.walk = none) ∧
    ((walking zoneSearch).port.current = some (.walk .b 107) ∧ (walking zoneSearch).cache.walk = some zoneSearch ∧
      (walking zoneSearch).tariff.generation = zoneSearch.generation ∧
      (walking zoneSearch).activeBank = (walking zoneSearch).tariffInForce.map (·.1)) ∧
    (zoneSearch.good [1, 2, 3] = false ∧ zoneSearch.retry = false ∧ zoneSearch.good zoneRange = true ∧
      ∃ a j e, zoneSearch.next zoneRange = .lookaside a j e) ∧
    (∃ a, ({ zoneSearch with lookup := .zone .p4 490 } : Walk).next zoneRange = .ends a) ∧
    (∃ w, ({ zoneSearch with lookup := .zone .p4 490, stage := .zone 1 2 } : Walk).next zoneRange = .reads w) ∧
    ((ladderSearch 5000).good ladder = true ∧ ∃ a e, (ladderSearch 5000).next ladder = .point a e) ∧
    ((ladderSearch 12460).good tailed = true ∧ ∃ a e, (ladderSearch 12460).next tailed = .band a e) :=
  ⟨by decide, by decide, by decide +kernel,
    ⟨by decide +kernel, by decide, by decide +kernel, _, _, _, rfl⟩, ⟨_, rfl⟩, ⟨_, rfl⟩,
    ⟨by decide +kernel, _, _, rfl⟩, by decide +kernel, _, _, rfl⟩
theorem test_walk_installs_band : (run (walking (ladderSearch 12460)) [.walkReadComplete (some tailed)]).map
    (fun t => t.cache.bands[0]) = some ⟨true, 8, 1, 4, 10000, 1990, 1000, 85, 30000⟩ := by decide +kernel
theorem test_zone_walk_finds : (run (walking zoneSearch) [.walkReadComplete (some zoneRange)]).map
    (fun t => (t.cache.lookasides.get .p4, t.cache.walk)) = some (lookaside, none) := by decide +kernel

/-- The rating request of the worked case: 4,312 g, 41 by 26 by 18 cm, FRAGILE, declared at 60,000, tier 1. -/
def request4 : RateRequest :=
  { position := .p4, wt := 4312, dims := ⟨41, 26, 18⟩, keyed := false, service := 1, postcode := 47103
    value := 60000, fragile := true, signature := false, irregular := false, tier := 1 }
/-- The surcharges of the worked case in table order. -/
def worked : Summary :=
  { summary with surcharges := [⟨5, .fragile, 0, false, 250, 0, 1⟩, ⟨12, .declaredValue, 20000, false, 95, 10000, 1⟩,
      ⟨3, .lengthOver, 100, false, 400, 0, 1⟩] }
/-- The rating of the worked case as it waits for its zone. -/
def rating : RatingRun :=
  { req := request4, tariff := worked, service := laddered
    result := { generation := 8, wt := 4312, service := some (1, laddered.name), dims := some (41, 26, 18)
                girth := some 129, vw := some 3838, cw := some 4312 } }
/-- The rating as it waits for its price. -/
def pricing : RatingRun :=
  { rating with result := { rating.result with zone := some (4, (0x4B, 0x34)) } }

/-- The result of a stage that decides. -/
def decided : Stage → Option RateResult
  | .decided r => some r
  | .goesOn _ => none

theorem test_rating_starts : request4.start (some worked) 8 = .goesOn rating := by decide +kernel
theorem test_worked_price : (decided (pricing.answered (.step 1480 2000 5000))).map
    (fun r => (r.surcharges, [r.dsc, r.net, r.tax, r.totalRaw, r.total], r.rounding)) =
    some (some [(5, 250), (12, 380)], [some 111, some 1999, some 380, some 2379, some 2380], some 1) := by decide +kernel
theorem test_heavy_price : (decided (({ pricing with
      req := { request4 with wt := 12460, fragile := false, value := 0, tier := 0 }
      result := { pricing.result with
        wt := 12460, cw := some 12460, dims := some (50, 30, 20), girth := some 150 } } : RatingRun).answered
      (.tail 10000 1990 1000 85))).map (fun r => (r.basis, r.p0, r.total, r.rounding)) =
    some (some (.tail 3), some 2245, some 2670, some (-2)) := by decide +kernel
theorem test_oversize_first : (decided (({ request4 with dims := ⟨140, 70, 50⟩, wt := 29000, value := 750000 } : RateRequest).start
      (some worked) 8)).bind (·.failure) = some ⟨.oversize, some .girth, some 380, some 300⟩ := by decide +kernel
theorem test_value_over_cover : (decided (({ request4 with dims := ⟨100, 50, 40⟩, wt := 29000, value := 750000 } : RateRequest).start
      (some worked) 8)).bind (·.failure) = some ⟨.valueOverCover, none, some 750000, some 500000⟩ := by decide +kernel

/-- Position 4 with its rating under way and a walk asked for it. -/
def ratingPart : State :=
  { (walking zoneSearch).setOpenSlot .p4 (.rating item3 .inProgress 2) with rating := { current := some rating } }

theorem witness_WalkEnds :
    (let s : State := { trading with rating := { orphan := some (.zone .p1 471) } }
     s.rating.orphan.isSome = true ∧ s.cache.waiting = none) ∧
    (let s : State := { trading with rating := { orphan := some (.zone .p1 471) }
                                     cache := { waiting := some (.zone .p2 471) } }
     s.rating.orphan.isSome = true ∧ s.cache.waiting = some (.zone .p2 471) ∧ s.rating.current = none ∧
     ({ s with cache := { s.cache with walk := none, waiting := none }
               rating := { s.rating with orphan := none } } : State).takeLookup (.zone .p2 471) =
       ((({ s with cache := { s.cache with walk := none, waiting := none }
                   rating := { s.rating with orphan := none } } : State).takeLookup (.zone .p2 471)).1, none)) ∧
    (trading.rating.orphan = none ∧ trading.rating.current = none ∧ trading.cache.waiting = none) ∧
    (ratingPart.rating.orphan = none ∧ ratingPart.cache.waiting = none ∧
      ratingPart.rating.current = some rating ∧ ratingPart.rating.pendingList = [] ∧
      ratingPart.openSlot rating.req.position = .rating item3 .inProgress 2 ∧ Answer.noZone ≠ .restart ∧
      ∃ r, rating.answered .noZone = .decided r ∧ r.failure.isSome = true) ∧
    (7 ≠ trading.tariff.generation ∧ reset.tariffInForce = none ∧ trading.tariffInForce = some (.b, summary) ∧
      8 = trading.tariff.generation) := by
  refine ⟨by decide, ⟨by decide, by decide, by decide, rfl⟩, by decide,
    ⟨by decide, by decide, by decide, by decide, by decide, by decide, _, rfl, by decide⟩, by decide, by decide, ?_, by decide⟩
  decide +kernel
theorem witness_WalkSearches :
    (zoneSearch.stage = .zone 1 1 ∧ zoneSearch.lookup = .zone .p4 471 ∧ (zoneOf zoneRange).low ≤ 471 ∧
      471 ≤ (zoneOf zoneRange).high ∧ (449 < (zoneOf zoneRange).low ∧ (zoneOf zoneRange).high < 490)) ∧
    (let w := rateWalk summary laddered .b 8 4 12460
     w.lookup = .price 1 4 12460 ∧ w.stage = .service ∧
       (serviceOf service w.record).zoneMask.getLsbD 3 = true ∧ (serviceOf service w.record).zoneMask.getLsbD 4 = false) ∧
    ((ladderSearch 5000).stage = .ladder 30000 ∧ (ladderOf ladder).steps[0]? = some (5000, 1480) ∧ 5000 ≤ 5000 ∧
      (∀ y ∈ (ladderOf ladder).steps, y.1 < 5001) ∧ (ladderOf ladder).tail = none ∧
      (∀ y ∈ (ladderOf tailed).steps, y.1 < 12460) ∧ (ladderOf tailed).tail = some (1000, 85) ∧
      12460 ≤ 30000) := by decide +kernel
theorem witness_RatingChecks :
    (∀ v ∈ worked.services, v.code ≠ 2) ∧
    (worked.services.find? (fun v => v.code == request4.service) = some laddered ∧
      [41, 26, 18].Perm (request4.dims.toList.map (fun d => if d = 0 then 1 else d)) ∧ 26 ≤ 41 ∧ 18 ≤ 26 ∧
      laddered.volumetric = true ∧ 41 * 26 * 18 * 1000 ≤ 3838 * 5000 ∧ 3838 * 5000 < 41 * 26 * 18 * 1000 + 5000) ∧
    rating.result.zone = none ∧ pricing.result.zone = some (4, (0x4B, 0x34)) ∧ pricing.result.cw = some 4312 := by
  decide +kernel
theorem witness_MoneyStages :
    (pricing.result.failure = none ∧ pricing.result.zone.isSome = true ∧ pricing.result.dims = some (41, 26, 18) ∧
      pricing.result.girth = some 129 ∧ pricing.result.cw = some 4312) ∧
    (2 * 1000 < 12460 - 10000 ∧ 12460 - 10000 ≤ (2 + 1) * 1000 ∧ 2245 = 1990 + (2 + 1) * 85) ∧
    (111 * 1000 ≤ 1480 * 75 ∧ 1480 * 75 < 111 * 1000 + 1000 ∧ 1999 = 1480 + 630 - 111 ∧
      2 * 1999 * 1900 < 20000 * 380 + 10000 ∧ 20000 * 380 ≤ 2 * 1999 * 1900 + 10000 ∧ 5 ∣ 2380 ∧
      2 * (1999 + 380) < 2 * 2380 + 5 ∧ 2 * 2380 ≤ 2 * (1999 + 380) + 5) ∧
    (99999999 < 100000000) := by decide

/-- Requests of positions 2 and 4 while last served is 3. -/
def queued : State :=
  { trading.setOpenSlot .p4 (.rating item3 .queued 2) with
    rating := { pendingList := [{ request4 with position := .p2 }, request4], lastServed := .p3 }
    cache := { walk := some zoneSearch } }

theorem witness_ArbiterOrder : ratingPart.rating.current ≠ none ∧ reset.rating.pendingList = [] ∧
    (queued.rating.current = none ∧
      queued.rating.pendingList.find? (fun q => q.position == times Pos.next (0 + 1) queued.rating.lastServed) =
        some request4 ∧ queued.cache.walk = some zoneSearch ∧
      queued.openSlot .p4 = .rating item3 .queued 2 ∧
      ∃ u, request4.start (queued.tariffInForce.map (·.2)) 8 = .goesOn u) := by
  refine ⟨by decide, by decide, by decide, by decide, by decide, by decide, _, rfl⟩

/-! ## Items and numbers -/

/-- Position 1 staffed. -/
def staffed1 : State := reset.onRelease (fun r => { r with places := r.places.set .p1 { staffed := true } })
/-- Position 1 staffed, with an open item that holds a latched record and a capture. -/
def opened1 : State :=
  ((staffed1.setOpenSlot .p1 (.opened { fields := item3.fields, latched := some claimed, capture := some ⟨4312, 2, none⟩ })).onGauge
    .p1 (fun g => { g with record := some claimed })).onChannel .p1 (fun _ => { settled with capture := some ⟨4312, 2, none⟩ })

theorem witness_ItemOpenedAndAmended :
    (openFields.fault = none ∧ Pos.ofNumber openFields.position = some .p1 ∧
      { openFields with value := 10000001 }.fault = some .value) ∧
    (reset.takes 0 ∧ (reset.release.places.get .p1).staffed = false) ∧
    (staffed1.takes 0 ∧ (staffed1.release.places.get .p1).staffed = true ∧ staffed1.openSlot .p1 = .idle) ∧
    (opened1.takes 0 ∧ opened1.openSlot .p1 ≠ .idle ∧ amendFields.fault = none ∧
      Pos.ofNumber amendFields.position = some .p1 ∧
      opened1.openSlot .p1 = .opened { fields := item3.fields, latched := some claimed, capture := some ⟨4312, 2, none⟩ }) ∧
    (let f := { amendFields with keyed := ⟨some 1, some 150, some 20⟩, removeKeyed := true }
     f.fault = none ∧ keyedOf f.keyed = some (some ⟨1, 150, 20⟩)) :=
  ⟨by decide, ⟨takes_of _ rfl rfl, by decide⟩, ⟨takes_of _ rfl rfl, by decide⟩, ⟨takes_of _ rfl rfl, by decide⟩, by decide⟩
theorem test_reweigh_releases : (run opened1 [.iAmend 1 { amendFields with reweigh := true }]).map
    (fun t => ((t.channel .p1).capture, (t.channel .p1).disturb, (t.gauges.get .p1).record)) =
    some (none, none, some claimed) := by decide +kernel

/-- Position 3 ready to be rated, while another rating is in progress. -/
def ready3 (c : Channel) (o : OpenSlot) : State :=
  { (reset.onChannel .p3 (fun _ => c)).setOpenSlot .p3 o with rating := { current := some rating } }

theorem witness_ItemRated :
    let s := ready3 settled (.opened item3)
    let bare : OpenItem := { item3 with keyed := none }
    (s.takes 0 ∧ Pos.ofNumber 3 = some .p3 ∧ reset.openSlot .p3 = .idle ∧ ratingPart.openSlot .p4 = .rating item3 .inProgress 2) ∧
    ((reset.channel .p3).capture = none ∧ (reset.channel .p3).calibration ≠ .calibrated) ∧
    (({ settled with interlock := true } : Channel).interlock = true ∧ settled.calibration = .calibrated) ∧
    (weigher.state = .motion ∧ weigher.capture = none ∧ weigher.interlock = false) ∧
    (settled.state = .stable ∧ settled.report = some ⟨4312, 4312, 2, false⟩ ∧ (18 < 20) ∧ 30000 < 30010) ∧
    (s.openSlot .p3 = .opened item3 ∧ item3.keyed = some ⟨41, 26, 18⟩ ∧ s.rating.current ≠ none) ∧
    (bare.keyed = none ∧ (s.gauges.get .p3).record = none ∧ ((s.gauges.get .p3).axes.get .length).state ≠ .ready) ∧
    ((measuring.gauges.get .p2).record = none ∧ ∀ a ∈ Axis.all, ((measuring.gauges.get .p2).axes.get a).state = .ready) :=
  ⟨⟨takes_of _ rfl rfl, by decide⟩, by decide⟩

/-- Position 4 with its rated item, a number pool of one serial, and the calendar set. -/
def rated4 : State :=
  { reset.setOpenSlot .p4 (.rated item3 result false) with
    items := { (reset.setOpenSlot .p4 (.rated item3 result false)).items with pool := [⟨4096, 4096, 4096⟩], lowMark := false }
    settings := { host := { HostFields.default with office := 2718 } }
    time := { calendar := some ⟨⟨2031, 3, 1, 0, 0⟩, 0⟩ } }

theorem witness_ItemConfirmed :
    (rated4.takes 0 ∧ Pos.ofNumber 4 = some .p4 ∧ rated4.openSlot .p4 = .rated item3 result false ∧
      rated4.time.calendar = some ⟨⟨2031, 3, 1, 0, 0⟩, 0⟩ ∧ rated4.items.register.length < 32 ∧
      rated4.items.pool = ⟨4096, 4096, 4096⟩ :: []) ∧
    rated4.atRest ∧ (∀ it r stale, reset.openSlot .p4 ≠ .rated it r stale) ∧
    (reset.setOpenSlot .p4 (.rated item3 result true)).openSlot .p4 = .rated item3 result true ∧
    reset.time.calendar = none ∧ reset.items.pool = [] ∧ 32 ≤ (List.replicate 32 entry).length :=
  ⟨⟨takes_of _ rfl rfl, by decide⟩, by decide, (by intro _ _ _ h; cases h), by decide⟩
theorem test_confirm_takes_number : (run rated4 [.iConfirm 1 4]).map (fun t =>
    (t.items.register.map (fun e => (e.number, e.state)), t.items.confirmed, t.items.pool, t.items.issued)) =
    some ([(271800040965, .awaitRelease)], 1, [], [(4096, 4096)]) := by decide +kernel

/-- A part whose item 271800040965 is released, on the belt, or on the belt with a flag. -/
def withEntry (e : RegEntry) : State := { reset with items := { register := [e], confirmed := 1 } }

theorem witness_ItemCancelledOrVoided :
    (opened1.takes 0 ∧ reset.openSlot .p1 = .idle ∧
      opened1.openSlot .p1 = .opened { fields := item3.fields, latched := some claimed, capture := some ⟨4312, 2, none⟩ }) ∧
    (queued.openSlot .p4 = .rating item3 .queued 2 ∧ ∀ u, queued.rating.current = some u → u.req.position ≠ .p4) ∧
    (ratingPart.openSlot .p4 = .rating item3 .inProgress 2 ∧ ratingPart.rating.current = some rating ∧
      rating.req.position = .p4 ∧ ratingPart.cache.waiting = none ∧ ratingPart.rating.pendingList = []) ∧
    (stocked.takes 0 ∧ numberField digits = some 271800040965 ∧ stocked.findItem 271800040965 = some entry ∧
      entry.state = .awaitRelease ∧ stocked.atRest ∧ numberField [1] = none) ∧
    (let s : State := { withEntry { entry with state := .released } with
        release := { state := .rotating, token := some .p4, lit := some ⟨.p4, 271800040965, .standard, 100000⟩ } }
     s.findItem 271800040965 = some { entry with state := .released } ∧
       s.release.lit = some ⟨.p4, 271800040965, .standard, 100000⟩) ∧
    ((withEntry { entry with state := .onBelt, reject := some .voided }).findItem 271800040965 =
        some { entry with state := .onBelt, reject := some .voided } ∧
      (withEntry { entry with state := .onBelt, track := some 0 }).findItem 271800040965 =
        some { entry with state := .onBelt, track := some 0 }) := by
  refine ⟨⟨takes_of _ rfl rfl, by decide⟩, ⟨by decide, by intro u h; cases h⟩, by decide, ⟨takes_of _ rfl rfl, ?_⟩, by decide, by decide⟩
  decide +kernel
theorem test_check_digit : itemNumber 2718 4096 = 271800040965 ∧ numberField digits = some 271800040965 := by
  decide +kernel
theorem witness_NumbersLoadedAndIssued :
    let m : Items := { pool := [⟨0, 9, 5⟩, ⟨10, 19, 10⟩], issued := [(0, 4), (100, 199)] }
    (reset.takes 0 ∧ (0 < 1 ∨ 1000000 < 0) ∧ (1000001 < 1 ∨ 1000000 < 1000001) ∧ 1 ≤ 1000000 ∧
      9999999 < 9000001 + 1000000 - 1 ∧ 9000000 + 1000000 - 1 ≤ 9999999) ∧
    (4 ≤ (List.replicate 4 (⟨0, 9, 5⟩ : SerialBlock)).length ∧ m.pool.length < 4) ∧
    m.pool.find? (fun o => decide (19 ≤ o.last) && decide (o.first ≤ 30)) = some ⟨10, 19, 10⟩ ∧
    (∀ o ∈ m.pool, o.last < 20 ∨ 99 < o.first) ∧
    m.issued.find? (fun x => decide (199 ≤ x.2) && decide (x.1 ≤ 200)) = some (100, 199) ∧
    ((∀ x ∈ m.issued, x.2 < 20 ∨ 99 < x.1) ∧ m.issued.length + m.pool.length + 1 ≤ 64) ∧
    (∀ r ∈ m.issued, r.1 ≤ r.2) ∧ (2718 ≤ 9999 ∧ 4096 ≤ 9999999 ∧ 11 < 12 ∧ 4 ≤ 9 ∧ 4 ≠ digits.getD 11 0) :=
  ⟨⟨takes_of _ rfl rfl, by decide⟩, by decide⟩

/-! ## Belt drive and tracking: the worked sequence of position 4 -/

/-- The belt running at 560 mm/s at a coordinate, with a queue. -/
def beltAt (p : Coord) (queue : List Entry) : State :=
  { withEntry { entry with state := .released } with
    belt := { drive := .running, runTarget := 560, target := 560, setpoint := 56000, p := p, high := p
              queue := queue, nextId := 1 } }
/-- The reservation of position 4 granted at 100,000. -/
def reservation : Entry := ⟨0, 106700, 110300, none, .reservation .p4 100000 271800040965⟩
/-- The item of position 4 on the belt, inducted at 100,840. -/
def parcel (label : LabelState) (matched : Bool) : Entry :=
  ⟨0, 107840, 108250, none, .item 271800040965 .p4 (some 410) label matched false⟩

theorem test_default_vmax : HostFields.default.vmax = 560 := by decide +kernel
theorem test_induct_front : (run (beltAt 100840 [reservation]) [.inductEyeFrontEdge .p4]).map (fun t =>
    (t.belt.queue.map (fun e => (e.front, e.tail)), t.items.register.map (·.state))) =
    some ([(107840, 109340)], [.onBelt]) := by decide +kernel
theorem test_trailing_measures : (run ((beltAt 101250 [⟨0, 107840, 109340, none,
      .item 271800040965 .p4 none .notStarted false false⟩]).onBelt (fun b => { b with
        eyes := b.eyes.set .p4 ⟨true, 100840, some 0, false, false⟩ })) [.inductEyeTrailingEdge .p4]).map (fun t =>
    t.belt.queue.map (fun e => (e.tail, e.body))) =
    some [(108250, .item 271800040965 .p4 (some 410) .notStarted false false)] := by decide +kernel
theorem test_passing_at_eye_5 : (run (beltAt 103352 [parcel .notStarted false]) [.inductEyeFrontEdge .p5]).map
    (fun t => ((t.belt.eyes.get .p5).passing, t.belt.queue.length)) = some (true, 1) := by decide +kernel
theorem test_match_arms_tamp : (run { beltAt 107862 [parcel .presented false] with
      label := { printer := .presented, pad := .holding 0 } } [.applicatorEyeFrontEdge]).map (fun t => t.label.tamp) =
    some (.armed 0 108012) := by decide +kernel
theorem test_retires_labelled : (run ((beltAt 109550 [parcel .applied true]).onBelt (fun b => { b with sub := 3 }))
      [.beltEncoderCount true]).map (fun t => (t.items.labelled, t.items.register.length, t.belt.queue.length)) =
    some (1, 0, 0) := by decide +kernel
theorem test_creep_at_slowdown : (run ((beltAt 107438 [parcel .printing false]).onBelt (fun b => { b with sub := 3 }))
      [.beltEncoderCount true]).map (fun t => t.belt.drive) = some .running ∧
    (run { (beltAt 107439 [parcel .printing false]).onBelt (fun b => { b with sub := 3 }) with
      label := { printer := .printing } } [.beltEncoderCount true]).map (fun t => (t.belt.drive, t.belt.target)) =
      some (.creeping, 100) := by decide +kernel

theorem witness_BeltEncoderCounts :
    let at_ (p high : Coord) (sub : BitVec 2) : State := { reset with belt := { p := p, high := high, sub := sub } }
    (reset.running = true ∧ reset.belt.sub ≠ 3 ∧ (at_ 0 0 3).belt.sub = 3 ∧ (at_ 1000 1050 0).belt.sub = 0) ∧
    (at_ 1000 1050 0).atRest ∧ (at_ 1000 1050 0).release.lit = none ∧
    (¬(0 < ahead (1000 - 1) 1050) ∧ 50 < ahead 1050 (1000 - 1) ∧ ¬(50 < ahead 1050 1000)) ∧
    ((beltAt 0 [reservation, { parcel .printing false with id := 1 }]).belt.queue.map (·.id)).Nodup := by decide +kernel
theorem witness_RampAndSpeedWindow :
    let jam : Belt := { drive := .running, setpoint := 10000, jamCount := 9, windowCount := 19 }
    reset.running = true ∧ reset.belt.drive = .stopped ∧ jam.drive ≠ .stopped ∧ jam.drive ≠ .estopped ∧
    (10000 ≤ jam.setpoint ∧ (jam.windowCount * 5).tdiv 2 * 200 < jam.setpoint ∧ 10 ≤ jam.jamCount + 1) ∧
    ({ reset with belt := { drive := .starting } } : State).atRest := by decide
theorem witness_BeltRuns :
    let s (d : Drive) (r : StopReason) : State := { reset with belt := { drive := d, reason := r } }
    (∀ d r, (s d r).takes 0 ∧ (s d r).belt.drive = d) ∧ 583 * 583 ≤ 2 * 500 * (400 - 60) ∧
    2 * 500 * (400 - 60) < (583 + 1) * (583 + 1) ∧ 100 ≤ HostFields.default.vmax ∧ (s .running .none).atRest ∧
    (s .stopped .host).atRest :=
  ⟨fun _ _ => ⟨takes_of _ rfl rfl, rfl⟩, by decide +kernel⟩
theorem witness_BeltStops : ∀ d, ({ reset with belt := { drive := d } } : State).takes 0 := fun _ => takes_of _ rfl rfl
theorem witness_EmergencyStop :
    let s (input power : Bool) (d : Drive) : State :=
      { reset with pins := { estop := input, powerGood := power }, belt := { drive := d } }
    ((s true true .running).pins.estop = true ∧ (s false true .estopped).running = true ∧
      (s false true .running).belt.drive ≠ .estopped ∧ (s false true .running).belt.queue = [] ∧
      (s true false .stopped).running = false ∧ (s false false .stopped).running = false) ∧
    (s true true .estopped).takes 0 ∧ (s false true .estopped).takes 0 ∧ (s false true .running).takes 0 :=
  ⟨by decide, takes_of _ rfl rfl, takes_of _ rfl rfl, takes_of _ rfl rfl⟩
theorem test_estop_flags : (run (beltAt 107900 [parcel .printing false]) [.emergencyStopAsserted]).map (fun t =>
    (t.belt.drive, t.belt.setpoint, t.belt.queue.map (·.flag))) = some (.estopped, 0, [some .estop]) := by decide +kernel

/-- The belt with an eye blocked since 100,840 by entry 0. -/
def eyeBlocked (passing : Bool) : State :=
  (beltAt 101250 [parcel .notStarted false]).onBelt (fun b => { b with
    eyes := b.eyes.set .p4 ⟨true, 100840, some 0, passing, false⟩
    applicator := ⟨true, 100840, none, false, false⟩ })

theorem witness_EyeEdges :
    ((eyeBlocked false).running = true ∧ ((eyeBlocked false).belt.eyes.get .p4).blocked = true ∧
      ((eyeBlocked false).belt.eyes.get .p4).entry = some 0 ∧ ((eyeBlocked false).belt.eyes.get .p4).passing = false ∧
      ((eyeBlocked true).belt.eyes.get .p4).passing = true) ∧
    ((beltAt 103352 [parcel .notStarted false]).belt.queue.find? (fun e => e.origin.any (fun o => decide (o.number <
        Pos.p5.number)) && decide ((ahead e.front (103352 + BitVec.ofNat 32 4500)).natAbs ≤ 60)) =
      some (parcel .notStarted false)) ∧
    ((beltAt 100840 [reservation]).belt.queue =
        [⟨0, 106700, 110300, none, .reservation .p4 100000 271800040965⟩] ∧
      (beltAt 100840 [reservation]).label.pad = .empty) ∧
    (reset.belt.queue = [] ∧ (reset.belt.eyes.get .p1).blocked = false ∧ reset.belt.applicator.blocked = false) ∧
    (let s : State := { beltAt 107900 [parcel .presented false] with label := { printer := .presented, pad := .holding 0 } }
     s.belt.queue = [parcel .presented false] ∧
       (parcel .presented false).body = .item 271800040965 .p4 (some 410) .presented false false ∧
       s.label.pad = .holding (parcel .presented false).id ∧
       ¬(ahead ((parcel .presented false).front + BitVec.ofNat 32 60) s.belt.p < 0) ∧
       ahead (parcel .presented false).front s.belt.p ≤ 60) ∧
    ((eyeBlocked false).belt.applicator.blocked = true ∧ (eyeBlocked false).belt.applicator.entry = none) ∧
    (let stray : Entry := ⟨0, 101000, 102500, some .unknown, .stray none true⟩
     let s : State := (beltAt 101250 [stray]).onBelt (fun b => { b with applicator := ⟨true, 101000, some 0, false, false⟩ })
     s.findEntry 0 = some stray ∧ stray.body = .stray none stray.matched) := by decide +kernel
theorem witness_LineFollows :
    reset.atRest ∧
    (let s : State := { beltAt 101000 [parcel .notStarted false] with label := { printer := .ready } }
     s.label.pad = .empty ∧ s.label.job = none ∧ (parcel .notStarted false).unprinted = true ∧
       (parcel .notStarted false).itemNumber? = some 271800040965 ∧
       s.findItem 271800040965 = some { entry with state := .released }) ∧
    (let s := beltAt 107440 [parcel .printing false]
     s.belt.queue.find? (fun e => e.itemNumber?.isSome && e.flag.isNone && !e.matched) = some (parcel .printing false) ∧
       s.belt.drive = .running ∧ (parcel .printing false).label? ≠ some .presented ∧
       ahead (parcel .printing false).front s.belt.p ≤ 400 ∧ ¬(ahead (parcel .printing false).front 107439 ≤ 400)) ∧
    (let s := beltAt 109551 [parcel .applied true]
     s.belt.queue = [parcel .applied true] ∧ (parcel .applied true).isReservation = false ∧
       0 < ahead s.belt.p ((parcel .applied true).tail + BitVec.ofNat 32 (1200 + 100)) ∧
       s.label.tamp = .retracted) := by decide +kernel

/-! ## Induction release: the worked sequences -/

/-- Positions 2, 4 and 5 staffed with their requests, NEGOTIATING, the belt running. -/
def negotiating : State :=
  { beltAt 100000 [] with
    release := { state := .negotiating, negotiation := 1
                 places := ((Six.fill {}).set .p2 { staffed := true, treq := 12000 } |>.set .p4
                   { staffed := true, treq := 8000, x := 0 }).set .p5 { staffed := true, treq := 20000, x := 2 } } }
/-- The token at position 4 with a wait of 6,499 ms. -/
def atFour (e : RegEntry) : State :=
  { negotiating with
    items := { register := [e], confirmed := 1 }
    release := { negotiating.release with
      state := .rotating, negotiation := 0, ttrt := some 8000, token := some .p4, tht := 6499
      places := negotiating.release.places.set .p2 { staffed := true, treq := 12000, mode := .running, trt := 1 } } }

theorem test_ttrt_is_smallest : (run negotiating [.negotiationTimerExpiry]).map (fun t =>
    (t.release.state, t.release.ttrt, t.release.token, t.release.tht)) =
    some (.rotating, some 8000, some .p2, 8000) := by decide +kernel
theorem test_grant_reserves : ((atFour entry).settleRelease false).belt.queue.map (fun e => (e.front, e.tail)) =
    [(106700, 110300)] := by decide +kernel
theorem test_open_clamps_request : (run reset [.pOpen 1 2 (some 1999) none]).map (fun t =>
    ((t.release.places.get .p2).staffed, (t.release.places.get .p2).treq, t.release.state, t.release.negotiation)) =
    some (true, 2000, .negotiating, 100) := by decide +kernel

theorem witness_PositionRequests :
    (reset.takes 0 ∧ Pos.ofNumber 2 = some .p2 ∧ 3 < 4 ∧ reset.atRest ∧ (reset.release.places.get .p2).staffed = false) ∧
    (let lit : State := { atFour entry with release := { (atFour entry).release with
        lit := some ⟨.p4, 271800040965, .standard, 100000⟩ } }
     lit.takes 0 ∧ (lit.release.places.get .p4).staffed = true ∧
       lit.release.lit = some ⟨.p4, 271800040965, .standard, 100000⟩ ∧
       (lit.release.places.get .p2).staffed = true ∧ lit.release.lit.all (fun l => l.position != .p2) = true) ∧
    (let s : State := { reset with release := { places := (Six.fill {}).set .p2 { staffed := true } } }
     s.takes 0 ∧ (s.release.places.get .p2).staffed = true ∧
       s.release.lit.all (fun l => l.position != .p2) = true ∧ s.atRest) :=
  ⟨⟨takes_of _ rfl rfl, by decide⟩, ⟨takes_of _ rfl rfl, by decide⟩, takes_of _ rfl rfl, by decide⟩
theorem witness_ReleaseTimers :
    let lowest (k : Pos) : Bool := (negotiating.release.places.get k).staffed &&
      Pos.all.all (fun j => !(negotiating.release.places.get j).staffed || decide (k.number ≤ j.number))
    let away (j : Pos) : Nat := (j.number + 5 - Pos.p4.number) % 6
    (negotiating.running = true ∧ negotiating.release.state = .negotiating ∧ lowest .p2 = true ∧
      (negotiating.release.places.get .p4).treq = 8000 ∧ reset.release.state ≠ .negotiating ∧
      ∀ j ∈ Pos.all, (negotiating.release.places.get j).staffed = true → 8000 ≤ (negotiating.release.places.get j).treq) ∧
    (∀ k ∈ Pos.all, (reset.release.places.get k).staffed = false) ∧
    (let p := (atFour entry).release.places.get .p2
     p.staffed = true ∧ p.mode = .running ∧ p.late = false ∧ (atFour entry).release.state = .rotating) ∧
    ((atFour entry).release.token = some .p4 ∧ entry.position = .p4 ∧ entry.state = .awaitRelease ∧
      entry.number ∉ (atFour entry).release.visited ∧ 0 < (atFour entry).release.tht) ∧
    (let s := atFour { entry with position := .p2 }
     s.release.lit = none ∧ s.release.pendingMark = false ∧ (∀ e ∈ s.items.register, e.position ≠ .p4) ∧
       (s.release.places.get .p5).staffed = true ∧
       ∀ m ∈ Pos.all, (s.release.places.get m).staffed = true → away .p5 ≤ away m) ∧
    (let s : State := { atFour entry with release := { (atFour entry).release with candidate := some ⟨1, true, some 1⟩ } }
     s.release.candidate = some ⟨1, true, some 1⟩) := by decide +kernel
theorem witness_CandidateAndGrant :
    (atFour entry).windowFree .p4 = true ∧ (beltAt 100841 [parcel .notStarted false]).windowFree .p4 = false ∧
    ((atFour entry).release.token = some .p4 ∧ (atFour entry).release.state = .rotating ∧
      (atFour entry).release.lit = none ∧ (atFour entry).release.waitMark = false ∧
      (atFour entry).items.register = [] ++ entry :: [] ∧ entry.cls = .standard ∧
      (atFour entry).release.choice (atFour entry).items.register = some (entry, false) ∧
      (atFour entry).release.candidate = none) ∧
    (let e := { entry with cls := .express }
     let s : State := { atFour e with release := { (atFour e).release with
       places := (atFour e).release.places.set .p4 { staffed := true, mode := .held, x := 1 }
       candidate := some ⟨271800040965, true, some 1⟩ } }
     s.release.choice s.items.register = some (e, true) ∧
       s.release.candidate = some ⟨e.number, true, some 1⟩) ∧
    (∀ m ∈ reset.items.register, m.position ≠ .p4) ∧
    (atFour { entry with position := .p2 }).release.choice (atFour { entry with position := .p2 }).items.register =
      none := by decide +kernel

/-! ## Labels, applicator and diverter -/

/-- The part with a label unit. -/
def labelling (u : LabelUnit) : State := { beltAt 107900 [parcel .printing false] with label := u }
/-- The job of the item. -/
def job : Job := ⟨0, jobRecord entry, 1500, false, false⟩

theorem test_stroke_times : (run (labelling { tamp := .extend 0 1 }) [.tampExtendEnd]).map (fun t => t.label.tamp) =
    some (.dwell 0 50) := by decide +kernel
theorem test_job_sent : ((({ beltAt 101000 [parcel .notStarted false] with label := { printer := .ready } } : State).printOrder).label.job.map
    (fun j => (j.timer, j.record.number, j.record.total))) = some (1500, 271800040965, 2380) := by decide +kernel
theorem test_verdict_applied : (run (labelling { pad := .applying 0, tamp := .retract 0 1 }) [.tampRetractEnd .clear]).map
    (fun t => (t.label.stats.applied, t.label.pad, t.label.tamp)) = some (1, .empty, .retracted) := by decide +kernel
theorem test_open_span_diverts : (({ beltAt 108940 [{ parcel .skipped false with flag := some .voided }] with
    label := {} } : State).divert.label.diverter, ({ beltAt 108939 [{ parcel .skipped false with flag := some .voided }] with
    label := {} } : State).divert.label.diverter) = (.reject, .pass) := by decide +kernel

theorem witness_PrinterReports :
    ((labelling { printer := .ready }).running = true ∧ (labelling { printer := .ready }).label.printer = .ready) ∧
    (let s := labelling { printer := .printing, job := some job }
     s.label.printer = .printing ∧ s.label.job = some job ∧ job.waste = false ∧ s.labelOf job.entry = some .printing) ∧
    (let s := labelling { printer := .fault .jam, job := some { job with interrupted := true } }
     s.label.printer = .fault .jam ∧ s.label.job = some { job with interrupted := true } ∧
       .jam ≠ ReportedFault.headOpen.kind ∧ s.label.printer = .fault ReportedFault.jam.kind) ∧
    (let s : State := { beltAt 100000 [{ parcel .notStarted false with id := 1 }, parcel .presented false] with
        label := { printer := .presented, pad := .holding 0 } }
     s.label.pad = .holding 0 ∧ (∀ p, s.label.tamp ≠ .armed 0 p) ∧
       s.belt.queue = [{ parcel .notStarted false with id := 1 }] ++ parcel .presented false :: [] ∧
       ({ parcel .notStarted false with id := 1 } : Entry).unprinted = true ∧ s.labelOf 0 = some .presented ∧
       s.labelOf 2 = none) := by
  refine ⟨by decide, by decide +kernel, by decide, by decide, (by intro p h; cases h), ?_⟩
  decide +kernel
theorem witness_LabelTimers :
    let s (u : LabelUnit) := labelling u
    ((s {}).running = true ∧ (s {}).label.printer ≠ .printing ∧ (s {}).label.printer = .fault .unknown) ∧
    ((s { printer := .printing, job := some job }).label.job = some job) ∧
    (∀ k, (s { printer := .ready }).label.printer ≠ .fault k) ∧ (∀ e n, (s {}).label.tamp ≠ .extend e n) ∧
    (s { tamp := .extend 0 1 }).label.tamp = .extend 0 1 ∧ (s { tamp := .dwell 0 1 }).label.tamp = .dwell 0 1 ∧
    (s { tamp := .retract 0 1 }).label.tamp = .retract 0 1 := by
  refine ⟨by decide, by decide, ?_, ?_, by decide, by decide, by decide⟩
  · intro k h; cases h
  · intro e n h; cases h
theorem witness_LabelsFlagsAndDiverter :
    let s (l : LabelState) (u : LabelUnit) : State := { beltAt 107900 [parcel l false] with label := u }
    ((s .printing {}).findEntry 0 = some (parcel .printing false) ∧
      (parcel .printing false).itemNumber? = some 271800040965 ∧ (parcel .printing false).flag = none) ∧
    ((parcel .notStarted false).label? = some .notStarted ∧ (s .printing { job := some job }).label.job = some job ∧
      job.entry = 0 ∧ (s .presented { pad := .holding 0 }).label.pad = .holding 0 ∧
      (s .presented {}).label.pad ≠ .holding 0 ∧ ({ parcel .skipped false with flag := some .voided } : Entry).flag.isSome = true) ∧
    ((s .presented { tamp := .armed 0 107900 }).label.tamp = .armed 0 107900 ∧
      0 ≤ ahead (s .presented {}).belt.p 107900 ∧ ¬(0 ≤ ahead (s .presented {}).belt.p 107901)) ∧
    (let e : Entry := { parcel .skipped false with flag := some .voided }
     e.isReservation = false ∧ e.flag.isSome = true ∧
       ahead (e.front + BitVec.ofNat 32 1200 - 100) 108940 ≤ 0 ∧ ahead 108940 (e.tail + BitVec.ofNat 32 1300) ≤ 0) := by
  decide +kernel

/-! ## Host link, calendar and settings -/

/-- The frame of a request of one byte: tag 7, message code 1, with its check. -/
def frame : List Byte :=
  let body : List Byte := [0, 1, 1, 7, 1]
  body ++ [BitVec.ofNat 8 ((crc16 body).toNat / 256), BitVec.ofNat 8 (crc16 body).toNat]
/-- The receiver within a frame. -/
def receiving (bs : List Byte) : State :=
  { reset with link := { reset.link with receiver := .inFrame bs, gap := 5 } }

theorem test_frame_begins : (run reset [.byteReceived 0xA5]).map (fun t => (t.link.receiver, t.link.gap)) =
    some (.inFrame [], 10) := by decide +kernel
theorem test_bad_check_counted : (run (receiving [0, 1, 1, 7, 1, 0]) [.byteReceived 0]).map (fun t =>
    (t.link.receiver, t.link.frameErrors)) = some (.hunting, 1) := by decide +kernel
theorem test_notice_waits_for_replies : (run (reset.offer .queueFull) [.bQueue 7, .transmitFrameEnd]).map (fun t =>
    (t.link.transmitter, t.link.notices)) = some (.sending (.reply 0), [.queueFull]) := by decide +kernel

theorem witness_FramesReceivedAndSent :
    (reset.running = true ∧ reset.link.receiver = .hunting ∧
      (receiving (frame.take 6)).link.receiver = .inFrame (frame.take 6)) ∧
    (let n := (frame.getD 0 0).toNat * 256 + (frame.getD 1 0).toNat
     2 < frame.length ∧ frame.length = n + 6 ∧ n ≠ 0 ∧ frame.getD 2 0 = 1 ∧ (crc16 (frame.take (n + 4))).toNat =
       (frame.getD (n + 4) 0).toNat * 256 + (frame.getD (n + 5) 0).toNat) ∧
    (([4, 1] : List Byte).length = 2 ∧ 1024 < (4 : Byte).toNat * 256 + (1 : Byte).toNat) ∧
    ((receiving []).link.freeSlot = some 0 ∧ (Instr.wStatus 7 1).request = some (7, .wStatus 1)) ∧
    (∃ s, (run reset [.transmitFrameEnd]) = some s ∧ s.link.transmitter = .idle) ∧
    reset.link.transmitter = .sending (.notice 0 0 (.settingsDefaulted .marker .marker)) ∧
    (let l : Link := { transmitter := .sending (.reply 0), ready := [.slot 0] }
     l.transmitter = .sending (.reply 0) ∧ l.restartSlot ≠ some 0) ∧
    (let l : Link := { ready := [.busy 1 (.req .wStatus)], notices := [.queueFull] }
     l.transmitter = .idle ∧ l.ready = .busy 1 (.req .wStatus) :: []) ∧
    (({ notices := [.queueFull] } : Link).ready = [] ∧ ({ notices := [.queueFull] } : Link).notices = .queueFull :: []) ∧
    (full.link.slots[0] = some ⟨0, .req .wStatus, .serving⟩) := by
  refine ⟨by decide +kernel, by decide +kernel, by decide, by decide, ⟨_, rfl, rfl⟩, by decide, by decide, by decide,
    by decide, by decide⟩
theorem test_next_day : Clock.next ⟨⟨2031, 2, 28, 23, 59⟩, 59⟩ = some ⟨⟨2031, 3, 1, 0, 0⟩, 0⟩ ∧
    Clock.next ⟨⟨2032, 2, 28, 23, 59⟩, 59⟩ = some ⟨⟨2032, 2, 29, 0, 0⟩, 0⟩ ∧
    Clock.next ⟨⟨2099, 12, 31, 23, 59⟩, 59⟩ = none := by decide
theorem witness_CalendarKept :
    (reset.takes 0 ∧ ¬(2000 ≤ 2100 ∧ 2100 ≤ 2099) ∧ ¬(1 ≤ 13 ∧ 13 ≤ 12) ∧ ¬(1 ≤ 30 ∧ 30 ≤ 29) ∧ 23 < 24 ∧ 59 < 60) ∧
    (2000 ≤ 2099 ∧ 12 ≤ 12 ∧ 31 ≤ 31 ∧ 23 ≤ 23 ∧ 59 ≤ 59) ∧ reset.time.calendar = none ∧
    (rated4.time.calendar = some ⟨⟨2031, 3, 1, 0, 0⟩, 0⟩ ∧
      Clock.next ⟨⟨2031, 3, 1, 0, 0⟩, 59⟩ = some ⟨⟨2031, 3, 1, 0, 1⟩, 0⟩ ∧ rated4.link.part = .ready) :=
  ⟨⟨takes_of _ rfl rfl, by decide⟩, by decide⟩
theorem witness_SettingsStored :
    let storing : State := { reset with settings := { store := some ⟨.one, .default, 1, 3⟩ } }
    (reset.takes 0 ∧ storing.takes 0 ∧ (beltAt 0 []).takes 0) ∧ storing.settings.store = some ⟨.one, .default, 1, 3⟩ ∧
    HostFields.default.fault = none ∧ { HostFields.default with office := 10000 }.fault = some .office ∧
    ((beltAt 0 []).belt.drive ≠ .stopped ∧ { HostFields.default with applyMs := 300 }.fault = none ∧ reset.settings.store = none) :=
  ⟨⟨takes_of _ rfl rfl, takes_of _ rfl rfl, takes_of _ rfl rfl⟩, by decide +kernel⟩
theorem test_store_starts_with_copy_1 : (run reset [.sStore 1 { HostFields.default with office := 2718 }]).map (fun t =>
    (t.settings.host.office, t.settings.store.map (fun w => (w.copy, w.seq)))) = some (2718, some (.one, 1)) := by
  decide +kernel

/-! ## Resets and the laws -/

/-- `State.reset` is what a power-on of a part with blank non-volatile memories gives. -/
theorem test_power_on_gives_reset :
    next? (exec (.powerOnReset .clear) { ({} : State) with pins := { powerGood := false } }) = some State.reset := by
  decide +kernel
theorem witness_Resets :
    let s : State := { reset with link := { reset.link with transmitter := .sending (.reply 0), restartSlot := some 0 } }
    (reset.takes 0 ∧ reset.settings.store = none ∧ reset.port.current = none) ∧
    ({ reset with settings := { store := some ⟨.one, .default, 1, 3⟩ } } : State).settings.store.isSome = true ∧
    (s.running = true ∧ s.link.transmitter = .sending (.reply 0) ∧ s.link.restartSlot = some 0) :=
  ⟨⟨takes_of _ rfl rfl, by decide⟩, by decide⟩
/-- The part as it confirms an item. -/
def confirming : State := { rated4 with pending := [.iConfirm 1 4] }
theorem witness_StepKeepsMemoryAccountsAndSizes : Memory.wf confirming.flash.cells = true ∧
    confirming.items.accountLaw ∧ confirming.withinSizes ∧ confirming.belt.namesLaw ∧ ∃ t, step confirming = .next t :=
  ⟨by decide, by decide, by decide, by decide, _, rfl⟩
theorem witness_StepKeepsSpeedTokenAndBanks : confirming.settings.host.fault = none ∧
    confirming.belt.speedLaw confirming.settings.host.vmax ∧ confirming.release.tokenLaw ∧
    confirming.tariff.bankLaw ∧ ∃ t, step confirming = .next t :=
  ⟨by decide, by decide +kernel, by decide, by decide, _, rfl⟩

/-! ## Witnesses of the further clauses: one for each group of premises -/

/-- Position 3 with a settled capture and its rating queued or in progress. -/
def rating3 (ph : RatePhase) (current : Option RatingRun) : State :=
  { (reset.onChannel .p3 (fun _ => { settled with
      capture := some ⟨4312, 2, none⟩, disturb := some 4312, limit := some 4311 })).setOpenSlot .p3
        (.rating item3 ph 2) with
    rating := { current := current } }
/-- The rating of the worked case at position 3. -/
def own3 : RatingRun := { rating with req := { request4 with position := .p3 } }
/-- A capture that waits at position 3 for an item without dimensions, while another rating is in progress. -/
def waiting3 (window : List Int) (k : Int) (it : OpenItem) : State :=
  { (reset.onChannel .p3 (fun _ => { weigher with window := window, k := k, waiting := some 9 })).setOpenSlot .p3
      (.rating it .gathering 2) with rating := { current := some rating } }

theorem witness_SampleComparators_rating :
    ((rating3 .queued (some rating)).running = true ∧ ((rating3 .queued (some rating)).channel .p3).waiting = none ∧
      ((rating3 .queued (some rating)).channel .p3).capture ≠ none ∧
      (rating3 .queued (some rating)).openSlot .p3 = .rating item3 .queued 2 ∧ rating.req.position ≠ .p3) ∧
    ((rating3 .inProgress (some own3)).rating.current = some own3 ∧ own3.req.position = .p3 ∧
      (rating3 .inProgress (some own3)).rating.pendingList = []) ∧
    (run (rating3 .queued (some rating)) [sample3 2276000]).map (fun t =>
      ((t.channel .p3).limit, (t.openSlot .p3).state)) = some (none, .opened) := by decide +kernel
theorem witness_SampleComparators_waiting :
    let s := waiting3 weigher.window 500000 item3
    (s.running = true ∧ (s.channel .p3).waiting = some 9 ∧ (s.channel .p3).capture = none ∧
      (s.channel .p3).disturb = none ∧ (s.channel .p3).limit = none ∧ s.openSlot .p3 = .rating item3 .gathering 2 ∧
      s.rating.current ≠ none) ∧
    (run s [sample3 2276000]).map (fun t => ((t.channel .p3).state, (t.channel .p3).waiting, (t.channel .p3).capture)) =
      some (.stable, none, some ⟨4312, 2, none⟩) ∧
    (run s [sample3 2279000]).map (fun t => ((t.channel .p3).state, (t.channel .p3).waiting)) =
      some (.motion, some 9) ∧
    (run (waiting3 (List.replicate 9 125000) 500000 item3) [sample3 125000]).map (fun t =>
      (t.channel .p3).report.map (fun r => decide (r.net < 20))) = some (some true) ∧
    (run (waiting3 (List.replicate 9 7622500) 250000 item3) [sample3 7622500]).map (fun t =>
      (t.channel .p3).report.map (fun r => decide (30000 < r.net))) = some (some true) := by decide +kernel

/-- A bank that is VERIFYING while the last program of its session is in progress, and another behind it. -/
def lateProgram : State :=
  { reset with
    tariff := { banks := ⟨{ state := .verifying, description := some ⟨134, 0, none⟩ },
                  { state := .verifying, description := some ⟨146, 0, none⟩ }⟩
                queue := [⟨.b, 1, 4⟩, ⟨.a, 2, 5⟩], writes := [⟨1, .b, 3, 146, 1⟩] }
    port := { current := some (.program .b 0 (zeros 146) 1 3) } }

theorem witness_LoadAccessFails_verifying :
    let s := lateProgram
    s.running = true ∧ s.port.current = some (.program .b 0 (zeros 146) 1 3) ∧ s.tariff.session = none ∧
    s.tariff.queue.find? (fun w => w.session == 1) = some ⟨.b, 1, 4⟩ ∧
    s.tariff.queue.filter (fun o => o.session != 1) = ⟨.a, 2, 5⟩ :: [] ∧ s.tariff.verify = none ∧
    s.tariff.scanning = [] ∧ Bank.a ≠ .b ∧ (∀ y ∈ s.tariff.writes, y.session ≠ 2) ∧
    (s.tariff.banks.get .a).description = some ⟨134, 0, none⟩ := by decide +kernel
theorem witness_LoadTakesData_empty : (loading session none).takes 0 ∧
    (loading session none).tariff.session = some session ∧ ([] : List Byte) = [] := ⟨takes_of _ rfl rfl, by decide⟩

/-- A staged tariff about to take force while position 4 is rated under the old one and a walk is in progress. -/
def restarting (it : Summary) (waiting : Option Lookup) : State :=
  { ratingPart with
    tariff := { ratingPart.tariff with banks := ⟨{ state := .staged }, { state := .active }⟩, staged := some it }
    cache := { ratingPart.cache with waiting := waiting } }

theorem witness_StagedTariffActivated_restart :
    let s := restarting worked none
    let gone : Summary := { worked with services := [] }
    (s.takes 0 ∧ (s.tariff.banks.get .a).state = .staged ∧ (s.tariff.banks.get Bank.a.other).state ≠ .staged ∧
      s.tariff.staged = some worked ∧ s.rating.current = some rating ∧ s.cache.walk.isSome = true) ∧
    (∃ v, rating.req.start (some worked) 9 = .goesOn v) ∧
    ((∃ r, rating.req.start (some gone) 9 = .decided r) ∧ (restarting gone none).rating.pendingList = [] ∧
      (restarting gone none).openSlot rating.req.position = .rating item3 .inProgress 2) :=
  ⟨⟨takes_of _ rfl rfl, by decide⟩, ⟨_, rfl⟩, ⟨_, rfl⟩, by decide⟩

/-- The start-up scan at its last bank, recorded ACTIVE or STAGED. -/
def scanning (x : BankState) (rest : List Bank) (now : Option Clock) : State :=
  { verifier with
    tariff := { banks := ⟨{}, { state := x, description := some ⟨134, 0xA6025B4D, some (41, 4, ⟨2031, 3, 1, 0, 0⟩)⟩ }⟩
                scanning := .b :: rest, verify := some { verifying with startUp := true } }
    time := { calendar := now }
    link := { verifier.link with part := .starting } }

theorem witness_VerificationReadTaken_scan :
    let v : Verify := { verifying with startUp := true }
    let s := scanning .staged [] (some ⟨⟨2031, 3, 1, 0, 0⟩, 0⟩)
    (s.running = true ∧ s.port.current = some (.verification .b 119 15) ∧ s.tariff.verify = some v ∧
      v.startUp = true ∧ s.tariff.scanning = v.bank :: [] ∧ s.pins.estop = false ∧
      (s.tariff.banks.get v.bank).state = .staged ∧ (s.tariff.banks.get v.bank.other).state ≠ .staged ∧
      summary.header.effective.key ≤ (⟨2031, 3, 1, 0, 0⟩ : Minute).key ∧ v.feed ladder = .passed summary ∧
      v.feed (ladder.set 14 0) = .failed .recordCrc 4) ∧
    ((scanning .active [.a] none).tariff.scanning = v.bank :: [.a] ∧
      ((scanning .active [.a] none).tariff.banks.get v.bank).state = .active ∧
      (scanning .active [.a] none).time.calendar = none) := by decide +kernel
theorem witness_VerificationReadTaken_turn :
    (verifier.tariff.verify ≠ none ∧ reset.tariff.scanning = [] ∧ reset.tariff.queue = []) ∧
    (let s := (scanning .active [] none).onTariff (fun t => { t with verify := none })
     s.tariff.verify = none ∧ s.tariff.scanning = .b :: [] ∧ (s.tariff.banks.get .b).description ≠ none) ∧
    (lateProgram.tariff.verify = none ∧ lateProgram.tariff.scanning = [] ∧
      lateProgram.tariff.queue = ⟨.b, 1, 4⟩ :: [⟨.a, 2, 5⟩] ∧ (∃ x ∈ lateProgram.tariff.writes, x.session = 1) ∧
      (∀ x ∈ ([] : List DataWait), x.session ≠ 1)) := by decide +kernel
/-- The scan's activation leaves generation 1 (R59, R100). -/
theorem test_scan_generation : (run (scanning .staged [] (some ⟨⟨2031, 3, 1, 0, 0⟩, 0⟩))
    [.verificationReadComplete (some ladder)]).map (fun t =>
      (t.tariff.generation, t.tariff.banks.b.state, t.link.part)) = some (1, .active, .ready) := by decide +kernel

/-- A part that walks for an orphan while the rating of position 4 waits with its lookup. -/
def handOff : State :=
  { ratingPart with
    rating := { ratingPart.rating with orphan := some (.zone .p1 471) }
    cache := { ratingPart.cache with waiting := some rating.lookup } }
/-- The hand-off with the lookaside of position 4 filled, so that the lookup answers at once. -/
def handOffHit : State := handOff.onCache (fun c => { c with lookasides := c.lookasides.set .p4 lookaside })
/-- The rating of position 4 at its price. -/
def pricePart : State := { ratingPart with rating := { current := some pricing } }

theorem witness_WalkEnds_waiting :
    (handOff.rating.current = some rating ∧ handOff.rating.pendingList = [] ∧ handOff.rating.orphan.isSome = true ∧
      handOff.cache.waiting = some rating.lookup) ∧
    (let free (s : State) : State := { s with
       cache := { s.cache with walk := none, waiting := none }, rating := { s.rating with orphan := none } }
     (∃ x, (free handOff).takeLookup rating.lookup = (x, none)) ∧
     (∃ x b, (free handOffHit).takeLookup rating.lookup = (x, some b) ∧ b ≠ .restart ∧
       ∃ v, rating.answered b = .goesOn v)) := by
  refine ⟨by decide, ⟨_, rfl⟩, ⟨_, _, rfl, ?_, ⟨_, rfl⟩⟩⟩
  decide
theorem witness_WalkEnds_rated :
    (pricePart.rating.current = some pricing ∧ pricePart.rating.pendingList = [] ∧ pricePart.rating.orphan = none ∧
      pricePart.cache.waiting = none ∧ Answer.step 1480 2000 5000 ≠ .restart ∧
      pricePart.openSlot pricing.req.position = .rating item3 .inProgress 2) ∧
    (∃ r, pricing.answered (.step 1480 2000 5000) = .decided r ∧ r.failure = none) ∧
    (trading.rating.current = none ∧ trading.rating.pendingList = [] ∧ trading.cache.walk = none ∧
      (trading.setOpenSlot .p4 (.rating item3 .queued 2)).openSlot request4.position = .rating item3 .queued 2) :=
  ⟨by decide, ⟨_, rfl, by decide +kernel⟩, by decide +kernel⟩

theorem witness_ItemCancelled_waiting :
    handOff.openSlot .p4 = .rating item3 .inProgress 2 ∧ handOff.rating.current = some rating ∧
    rating.req.position = .p4 ∧ handOff.rating.pendingList = [] ∧ handOff.cache.waiting ≠ none := by decide

/-- A parcel of position 4 that has stood at eye 4 for 1,501 mm, with a later parcel close behind. -/
def standing : State :=
  (beltAt 102341 [⟨0, 107840, 109340, none, .item 271800040965 .p4 none .notStarted false false⟩,
      ⟨1, 107000, 107839, none, .stray (some .p3) false⟩]).onBelt (fun b => { b with
    eyes := b.eyes.set .p4 ⟨true, 100840, some 0, false, false⟩
    applicator := ⟨true, 100839, some 1, false, false⟩ })

theorem witness_BeltEncoderCounts_growth :
    let r := standing.belt.eyes.get .p4
    (r.blocked = true ∧ r.passing = false ∧ 1500 < ahead standing.belt.p r.front ∧
      ∃ e, r.entry = some e.id ∧ standing.findEntry e.id = some e ∧ e.itemNumber?.isSome = true) ∧
    ((standing.belt.queue.map (·.id)).Nodup ∧ standing.belt.applicator.blocked = true ∧
      standing.belt.applicator.entry = some 1 ∧ ∃ e, standing.findEntry 1 = some e ∧ e.origin.isSome = true) ∧
    (let l : LitRelease := ⟨.p4, 271800040965, .standard, 100000⟩
     let s (p : Coord) : State := { beltAt p [reservation] with release := { lit := some l } }
     let ends := l.p0 + BitVec.ofNat 32 (s 0).settings.host.geo.lres
     ahead (s 101499).belt.p ends < 0 ∧ 0 ≤ ahead (s 101500).belt.p ends) := by
  refine ⟨⟨by decide +kernel, by decide +kernel, by decide +kernel, ?_⟩, ⟨by decide +kernel, by decide +kernel,
    by decide +kernel, ?_⟩, by decide +kernel⟩
  · exact ⟨⟨0, 107840, 109340, none, .item 271800040965 .p4 none .notStarted false false⟩, rfl, rfl, rfl⟩
  · exact ⟨⟨1, 107000, 107839, none, .stray (some .p3) false⟩, rfl, rfl⟩
theorem test_overlength_and_overlap : (run (standing.onBelt (fun b => { b with
      p := 102340, high := 102340, sub := 3, eyes := b.eyes.set .p4 ⟨true, 100840, some 0, false, false⟩
      queue := b.queue.map (fun e => if e.id = 1 then { e with front := 106339, tail := 109341, flag := none } else e) }))
    [.beltEncoderCount true]).map (fun t => t.belt.queue.map (fun e => (e.tail, e.flag))) =
    some [(109341, some .overlength), (109341, none)] := by decide +kernel

theorem witness_EmergencyStop_flags :
    let s : State := { beltAt 107900 [reservation, { parcel .printing false with id := 1 }] with
      label := { tamp := .dwell 1 9 } }
    s.pins.estop = false ∧ s.running = true ∧ s.belt.drive ≠ .estopped ∧ (s.belt.queue.map (·.id)).Nodup ∧
    s.label.tamp = .dwell 1 9 ∧ s.belt.queue.any (fun e => !e.isReservation) = true ∧
    (run s [.emergencyStopAsserted]).map (fun t => (t.label.tamp, t.belt.queue.map (fun e => (e.id, e.flag)))) =
      some (.retract 1 100, [(1, some .estop)]) := by decide +kernel

/-- The entries of a full queue: 24 strays, the first of them at the due coordinate of eye 4. -/
def crowded : List Entry :=
  (List.range 24).map (fun n => ⟨n, BitVec.ofNat 32 (107840 + 1700 * n), BitVec.ofNat 32 (108250 + 1700 * n), none,
    .stray (some .p6) false⟩)

theorem witness_EyeEdges_stray :
    let hits (q : List Entry) : State := { beltAt 100840 q with belt := { (beltAt 100840 q).belt with nextId := 24 } }
    let s := hits (crowded.take 2)
    (s.running = true ∧ (s.belt.eyes.get .p4).blocked = false ∧
      s.belt.queue.find? (fun e => e.origin.any (fun o => decide (o.number < Pos.p4.number)) &&
        decide ((ahead e.front (s.belt.p + BitVec.ofNat 32 (s.settings.host.geo.d.get .p4))).natAbs ≤
          s.settings.host.geo.tol)) = none ∧
      (s.belt.queue.all (fun e => !e.isReservation)) = true ∧ (s.belt.queue.map (·.id)).Nodup ∧
      s.belt.queue.length < 24) ∧
    (24 ≤ (hits crowded).belt.queue.length ∧ ((hits crowded).belt.queue.map (·.id)).Nodup) ∧
    (run s [.inductEyeFrontEdge .p4]).map (fun t => t.belt.queue.map (fun e => (e.id, e.flag))) =
      some [(0, some .overlap), (24, some .unknown), (1, none)] ∧
    (run (hits crowded) [.inductEyeFrontEdge .p4]).map (fun t => t.link.notices.head?) = some (some .queueFull) := by
  decide +kernel

/-- A parcel that should have reached the applicator eye, and one at it. -/
def late (label : LabelState) (u : LabelUnit) : State :=
  let s := beltAt 107840 [{ parcel label false with id := 2, front := 107700, tail := 107800 },
    { parcel .applied false with id := 3, body := .stray (some .p2) false }]
  { s with
    belt := { s.belt with nextId := 9 }
    items := { register := [{ entry with state := .onBelt, track := some 2, label := some label }], confirmed := 1 }
    label := u }

theorem witness_EyeEdges_removed :
    let s := late .printing { job := some { job with entry := 2 } }
    let e : Entry := ⟨2, 107700, 107800, none, .item 271800040965 .p4 (some 410) .printing false false⟩
    (s.running = true ∧ s.belt.applicator.blocked = false ∧ s.head = some e ∧
      ahead (e.front + BitVec.ofNat 32 s.settings.host.geo.tol) s.belt.p < 0 ∧
      e.itemNumber? = some 271800040965 ∧ s.findEntry e.id = some e ∧ (s.findItem 271800040965).isSome = true ∧
      e.label? = some .printing ∧ s.label.job = some { job with entry := 2 }) ∧
    ((State.removeMissing s.belt.queue.length s).head.all (fun h => decide (ahead h.front s.belt.p ≤ 60)) = true ∧
      (State.removeMissing s.belt.queue.length s).head.all (fun h => h.itemNumber?.isNone) = true) ∧
    (let p := late .presented { printer := .presented, pad := .holding 2, tamp := .armed 2 107900 }
     (p.findEntry 2).map (·.label?) = some (some .presented) ∧ p.label.pad = .holding 2) ∧
    ((late .notStarted {}).findEntry 2).map (·.label?) = some (some .notStarted) ∧
    ((late .wasted {}).findEntry 2).map (·.label?) = some (some .wasted) ∧
    ((late .wasted {}).findEntry 3).map (·.itemNumber?) = some none := by decide +kernel
/-- What the removal of R147 leaves: the item closed MISSING, its label wasted, and the stray behind it matched. -/
theorem test_missing_removed : (run (late .printing { job := some { job with entry := 2 } })
      [.applicatorEyeFrontEdge]).map (fun t => ([t.items.missing, t.items.register.length, t.label.stats.wasted],
        t.belt.queue.map (fun e => (e.id, e.matched)), t.belt.applicator.entry)) =
    some ([1, 0, 1], [(3, true)], some 3) := by decide +kernel

theorem witness_LineFollows_retired :
    let s (e : Entry) (t : Tamp) : State := { beltAt 109551 [e] with label := { tamp := t } }
    let flagged : Entry := { parcel .applied true with flag := some .overlap }
    (∀ e ∈ [parcel .applied true, parcel .printing true, flagged, parcel .printing false],
      (s e .retracted).findEntry e.id = some e ∧ e.isReservation = false ∧
      0 < ahead (s e .retracted).belt.p (e.tail + BitVec.ofNat 32 (1200 + 100)) ∧
      e.itemNumber? = some 271800040965 ∧ ((s e .retracted).findItem 271800040965).isSome = true) ∧
    ((parcel .applied true).matched = true ∧ (parcel .printing false).matched = false ∧
      flagged.flag = some .overlap ∧ (parcel .printing true).label? ≠ some .applied) ∧
    (s (parcel .applied true) (.dwell 0 1)).label.tamp = .dwell (parcel .applied true).id 1 ∧
    (let stray : Entry := ⟨0, 107840, 108250, some .unknown, .stray none true⟩
     (s stray .retracted).findEntry 0 = some stray ∧ stray.itemNumber? = none) := by decide +kernel
theorem test_retires_rejected : (run ((beltAt 109550 [{ parcel .wasted true with flag := some .overlap }]).onBelt
      (fun b => { b with sub := 3 })) [.beltEncoderCount true]).map (fun t => (t.items.rejected, t.belt.queue.length)) =
    some (1, 0) := by decide +kernel

/-- The bytes of a request frame with a tag and a message code, after its sync byte. -/
def frameOf (tag code : Byte) : List Byte :=
  let body : List Byte := [0, 1, 1, tag, code]
  body ++ [BitVec.ofNat 8 ((crc16 body).toNat / 256), BitVec.ofNat 8 (crc16 body).toNat]

theorem frameOf_passes (tag code : Byte) :
    let bs := frameOf tag code
    bs.length = 7 ∧ (bs.getD 0 0).toNat * 256 + (bs.getD 1 0).toNat = 1 ∧ bs.getD 2 0 = 1 ∧ bs.getD 4 0 = code ∧
    (crc16 (bs.take 5)).toNat = (bs.getD 5 0).toNat * 256 + (bs.getD 6 0).toNat := by
  refine ⟨by simp [frameOf], by simp [frameOf], by simp [frameOf], by simp [frameOf], ?_⟩
  show (crc16 [0, 1, 1, tag, code]).toNat = _
  simp only [frameOf, List.cons_append, List.nil_append, List.getD_cons_succ, List.getD_cons_zero, BitVec.toNat_ofNat]
  generalize crc16 [0, 1, 1, tag, code] = c
  have := c.isLt
  omega
/-- A code that is no request's, and one that is, read as such whatever the codes are. -/
theorem witness_FramesReceived_codes :
    (∃ code, readPayload code [] = .unknown) ∧
    (∀ n fs, readPayload (Config.messageCode n) fs = .badLength n ∨
      ∃ r, readPayload (Config.messageCode n) fs = .request r ∧ r.name = n) := by
  refine ⟨⟨Config.codeOrder 200, ?_⟩, fun n fs => ?_⟩
  · have : requestOfCode (Config.codeOrder 200) = none := by
      unfold requestOfCode
      rw [List.find?_eq_none]
      intro n _ h
      have e := Config.codeOrder.injective (of_decide_eq_true h)
      cases n <;> exact absurd e (by decide)
    unfold readPayload; rw [this]
  · unfold readPayload
    rw [requestOfCode_messageCode]
    dsimp only
    cases h : readRequest n fs with
    | none => exact .inl rfl
    | some r => exact .inr ⟨r, rfl, readRequest_name h⟩
theorem witness_FramesSent :
    let l : Link := { transmitter := .sending (.reply 0) }
    l.transmitter = .sending (.reply 0) ∧
    (l.hold 0 7 (.req .bStatus)).slots[0] = some ⟨7, .req .bStatus, .serving⟩ := by decide

theorem witness_SettingsStored_copies (q : BitVec 32) (h : SettingsRecord.default.ok = true) :
    (Copy.written q .default).valid = some (q, .default) ∧ (Copy.written q .default).marker = .right :=
  ⟨Copy.written_valid q .default h, rfl⟩
theorem test_default_record_ok : SettingsRecord.default.ok = true := by decide +kernel

/-- A scan that reads both records ACTIVE, the older of bank A, and one that reads bank B LOADING. -/
theorem test_scan_drops_losing_record :
    let r (q : BitVec 32) (x : RecordedState) : StateRecord := { emptyRecord with seq := q, state := x, length := 134 }
    let found (a b : StateRecord) :=
      let t := State.scanFrom {} (some a) (some b)
      ([t.tariff.banks.a.state, t.tariff.banks.b.state], t.tariff.scanning, t.port.current)
    found (r 4 .active) (r 5 .active) = ([.empty, .active], [.b], some (.recordErase .a)) ∧
    found (r 4 .staged) (r 5 .loading) = ([.staged, .empty], [.a], some (.recordErase .b)) := by
  constructor <;> decide +kernel
/-- A sector reads as its record only with a right marker and a right CRC-16 (R38). -/
theorem test_state_record_reads (f : RecordFields) :
    readStateRecord (some (writtenStateRecord f)) = some (writtenStateRecord f) ∧
    readStateRecord (some { writtenStateRecord f with marker := .wrong }) = none ∧
    readStateRecord (some { writtenStateRecord f with check := ~~~ stateRecordCheck f }) = none := by
  refine ⟨readStateRecord_written f, rfl, ?_⟩
  simp [readStateRecord, stateRecordGood, writtenStateRecord]
theorem test_frame_bytes : frameBytes 1 7 [1] = 0xA5 :: frame := by decide +kernel
/-- The release timers of a millisecond come before the end of its speed window (R153, R170). -/
theorem test_release_timers_before_window : ((next? (step ticking)).map (fun t =>
    decide (t.pending.idxOf (.rotationTimerExpiry .p4) < t.pending.idxOf .speedWindowEnd))) = some true := by
  decide +kernel

/-! ## Witnesses of the clauses over any queue, any read and any release -/

theorem witness_PassedImageIsWhole_more : ∃ v, verifying.feed [] = .more v := ⟨_, rfl⟩
theorem witness_AmendFields :
    let f := { amendFields with service := some 16, tier := some 3, keyed := ⟨some 1, some 150, some 20⟩ }
    f.fault = none ∧ f.keyed.l = some 1 ∧ f.keyed.w = some 150 ∧ f.keyed.h = some 20 ∧
    ({ amendFields with service := some 17 }).fault = some .service := by decide

/-- A parcel ahead and the released item's RESERVATION behind it, on the running belt. -/
def releasing (flag : Option RejectReason) : State :=
  let s := beltAt 100840 [{ parcel .printing false with id := 1, body := .stray (some .p6) false },
    { reservation with flag := flag }]
  { s with release := { state := .rotating, token := some .p4, lit := some ⟨.p4, 271800040965, .standard, 100000⟩ } }

theorem witness_ReleasedItemReturns :
    ((releasing none).belt.queue.map (·.id)).Nodup ∧
    (releasing none).release.lit = some ⟨.p4, 271800040965, .standard, 100000⟩ ∧
    (releasing none).reverse.items.register.map (fun q => (q.state, q.attempts)) = [(.awaitRelease, 1)] ∧
    (releasing none).reverse.belt.queue.map (fun e => (e.id, e.flag)) = [(1, some .reversed)] ∧
    (run (releasing none) [.emergencyStopAsserted]).map (fun t =>
      (t.items.register.map (fun q => (q.state, q.attempts)), t.belt.queue.map (·.id))) =
      some ([(.awaitRelease, 1)], [1]) := by decide +kernel
theorem witness_EyeEdges_inducted :
    (∀ flag ∈ [none, some RejectReason.voided],
      let s := releasing flag
      s.running = true ∧ (s.belt.eyes.get .p4).blocked = false ∧ (s.belt.queue.map (·.id)).Nodup ∧
      s.belt.queue = [{ parcel .printing false with id := 1, body := .stray (some .p6) false }] ++
        ⟨0, 106700, 110300, flag, .reservation .p4 100000 271800040965⟩ :: [] ∧
      s.belt.queue.find? (fun e => e.origin.any (fun o => decide (o.number < Pos.p4.number)) &&
        decide ((ahead e.front (s.belt.p + BitVec.ofNat 32 (s.settings.host.geo.d.get .p4))).natAbs ≤
          s.settings.host.geo.tol)) = none ∧ s.label.pad = .empty) ∧
    (run (releasing (some .voided)) [.inductEyeFrontEdge .p4]).map (fun t =>
      (t.items.register.map (fun q => (q.state, q.label)), t.release.lit.isNone)) =
      some ([(.onBelt, some .skipped)], true) := by decide +kernel

/-- A stray ahead of a parcel without its label, and a printer that is READY. -/
def second : State :=
  { beltAt 101000 [⟨1, 109000, 109400, none, .stray (some .p6) false⟩, parcel .notStarted false] with
    label := { printer := .ready } }

theorem witness_LineFollows_order :
    (second.label.printer = .ready ∧ second.label.pad = .empty ∧ second.label.job = none ∧
      second.belt.queue = [⟨1, 109000, 109400, none, .stray (some .p6) false⟩] ++ parcel .notStarted false :: [] ∧
      (second.belt.queue.map (·.id)).Nodup ∧
      (⟨1, 109000, 109400, none, .stray (some .p6) false⟩ : Entry).unprinted = false ∧
      (parcel .notStarted false).unprinted = true ∧ (second.findItem 271800040965).isSome = true) ∧
    (reset.label.printer ≠ .ready ∧ ∀ e ∈ reset.belt.queue, e.unprinted = false) ∧
    (entry.result.service = some (1, [0x53]) ∧ entry.result.zone = some (4, (0x4B, 0x34)) ∧
      entry.result.cw = some 4312 ∧ entry.result.total = some 2380) ∧
    second.printOrder.belt.queue.map (·.label?) = [none, some .printing] := by decide +kernel
theorem witness_LineFollows_waits :
    let waits (l : LabelState) : State := (beltAt 107440 [parcel l false]).onBelt (fun b => { b with
      drive := .stopped, reason := .labelWait, waitEntry := some 0 })
    ((waits .presented).belt.reason = .labelWait ∧ (waits .presented).belt.waitEntry = some 0 ∧
      (waits .presented).findEntry 0 = some (parcel .presented false) ∧
      (parcel .presented false).label? = some .presented) ∧
    (waits .presented).labelWaitRestart.belt.drive = .starting ∧
    (reset.belt.reason ≠ .labelWait ∧ (waits .printing).labelWaitRestart = waits .printing) ∧
    (let kept (e : RegEntry) : State := { withEntry e with
       release := { state := .suspended, candidate := some ⟨271800040965, false, none⟩ } }
     (∃ e ∈ (kept entry).items.register, e.number = 271800040965 ∧ e.state = .awaitRelease) ∧
     (∀ e ∈ (kept { entry with state := .onBelt }).items.register, e.number = 271800040965 → e.state ≠ .awaitRelease)) ∧
    (State.asksAgain (beltAt 0 []) (beltAt 1 []) = true ∧ State.asksAgain (beltAt 0 []) (beltAt 0 []) = false) := by
  decide +kernel

/-- An interrupted job whose entry leaves the queue during the fault is given up: READY sends nothing (R176). -/
theorem test_interrupted_job_given_up :
    let s : State := { (beltAt 109550 [{ parcel .wasted true with flag := some .overlap }]).onBelt
      (fun b => { b with sub := 3 }) with
        label := { printer := .fault .jam, sent := none
                   job := some { job with interrupted := true, waste := true } } }
    (run s [.beltEncoderCount true]).map (fun t => (t.label.job, t.belt.queue.length)) = some (none, 0) ∧
    (run s [.beltEncoderCount true, .printerReadyReport]).map (fun t => (t.label.job, t.label.printer, t.label.sent)) =
      some (none, .ready, none) := by decide +kernel
/-- A request without fields is its message code alone (R191, R193). -/
theorem test_bare_request_length (b : Byte) :
    readPayload (Config.messageCode .tClose) [] = .request .tClose ∧
    readPayload (Config.messageCode .tClose) [b] = .badLength .tClose := by
  constructor <;> simp [readPayload_bare (n := .tClose) (r := .tClose) rfl]
/-- A BUSY frame is 9 bytes long (R195). -/
theorem test_busy_frame_length (tag : Byte) (c : MsgCode) : (frameBytes 2 tag (busyPayload c)).length = 9 := by
  simp [frameBytes, busyPayload, checkedBytes, payloadOf, bytes16, Config.payloadBytes]

/-! ## Witnesses of the clauses on slots, records, the scan and creep -/

/-- Channel 3 one missed sample before OFFLINE with its capture armed, its slot as given. -/
def offline3 (o : OpenSlot) (current : Option RatingRun) : State :=
  { (armedCapture.setOpenSlot .p3 o) with rating := { current := current, pendingList := [request4] } }

theorem witness_SampleAndCaptureTimers_slots :
    (∀ o ∈ [OpenSlot.idle, .opened item3, .rating item3 .gathering 2, .rated item3 result false,
        .rating item3 .queued 2, .rating item3 .inProgress 2],
      (offline3 o (some own3)).running = true ∧ (offline3 o (some own3)).openSlot .p3 = o) ∧
    (own3.req.position = .p3 ∧ rating.req.position ≠ .p3 ∧
      (offline3 (.rating item3 .inProgress 2) (some own3)).rating.current = some own3) ∧
    (run (offline3 (.rating item3 .queued 2) (some rating)) [.sampleTimerExpiry .p3]).map (fun t =>
      ((t.openSlot .p3).state, t.rating.current.isSome, t.rating.pendingList.length)) =
      some (.opened, true, 1) := by decide +kernel
/-- The button latches while the part starts and while every request slot is held (R30). -/
theorem witness_LatchesByButton_anywhere :
    (∀ s ∈ [starting, full], s.running = true ∧ (s.gauges.get .p2).button = .released ∧
      (s.gauges.get .p2).record = none) ∧
    starting.link.part ≠ .ready ∧ full.link.freeSlot = none ∧
    (run { measuring with link := full.link } [.buttonPress .p2]).map (fun t =>
      (t.gauges.get .p2).record.map (·.cm)) = some (some ⟨41, 26, 18⟩) := by decide +kernel
theorem witness_LoadAccessSucceeds_verifying :
    let last := lateProgram.onTariff (fun t => { t with writes := [⟨1, .b, 3, 146, 1⟩] })
    (last.tariff.writes.find? (fun w => w.session == 1 && w.slot == 3) = some ⟨1, .b, 3, 146, 1⟩ ∧
      last.tariff.verify = none ∧ last.tariff.scanning = [] ∧ last.tariff.queue = ⟨.b, 1, 4⟩ :: [⟨.a, 2, 5⟩] ∧
      (∀ y ∈ last.tariff.writes.filter (fun o => !(o.session == 1 && o.slot == 3)), y.session ≠ 1) ∧
      (last.tariff.banks.get .b).description = some ⟨146, 0, none⟩) ∧
    (last.tariff.writes.find? (fun w => w.session == 2 && w.slot == 3)) = none ∧
    (run last [.programmingAccessComplete true]).map (fun t => (t.tariff.verify.map (·.bank), t.port.current)) =
      some (some .b, some (.verification .b 0 146)) := by decide +kernel
theorem witness_RecordRewriteCompletes_reads (f : RecordFields) :
    readStateRecord (some (writtenStateRecord f)) = some (writtenStateRecord f) ∧
    recordSays (writtenStateRecord { f with seq := 1, state := .empty }) 1 .empty none :=
  ⟨readStateRecord_written _, rfl, rfl, rfl, rfl, fun y h => by cases h⟩
/-- The scan ends with the emergency stop input asserted: the part is READY and ESTOPPED (R132, R152). -/
theorem witness_VerificationReadTaken_estop :
    let s := (scanning .staged [] (some ⟨⟨2031, 3, 1, 0, 0⟩, 0⟩)).onPins (fun p => { p with estop := true })
    (s.running = true ∧ s.pins.estop = true ∧ s.belt.drive ≠ .estopped ∧ s.tariff.scanning = .b :: []) ∧
    (∀ bs ∈ [ladder, ladder.set 14 0], (run s [.verificationReadComplete (some bs)]).map (fun t =>
      (t.link.part, t.belt.drive, t.belt.reason)) = some (.ready, .estopped, .estop)) := by decide +kernel
theorem witness_ItemCancelled_others :
    let s : State := { ratingPart with rating := { ratingPart.rating with pendingList := [{ request4 with position := .p2 }] } }
    s.openSlot .p4 = .rating item3 .inProgress 2 ∧ s.rating.current = some rating ∧ rating.req.position = .p4 ∧
    s.rating.pendingList ≠ [] ∧ s.cache.waiting = none := by decide +kernel
theorem witness_LineFollows_creep :
    let creeping (setpoint : Nat) (q : List Entry) : State := ((beltAt 107440 q).onBelt (fun b => { b with
      drive := .creeping, target := 100, setpoint := setpoint })).onLabel (fun u => { u with printer := .ready })
    (creeping 10000 [parcel .printing false]).judgeCreep = creeping 10000 [parcel .printing false] ∧
    (creeping 10000 []).judgeCreep.belt.drive = .starting ∧ (creeping 56000 []).judgeCreep.belt.drive = .running ∧
    ((creeping 10000 []).belt.setpoint ≠ (creeping 10000 []).belt.runTarget * 100 ∧
      (creeping 56000 []).belt.setpoint = (creeping 56000 []).belt.runTarget * 100) := by decide +kernel

/-! ## The checks of R51 on records at the limits of R41 to R45 -/

/-- A record with its CRC-16 after it. -/
def crced (bs : List Byte) : List Byte := bs ++ w2 (crc16 bs).toNat
/-- How a verifier judges a record: `none` where it takes it. -/
def judged (v : Verify) (bs : List Byte) : Option VerifyCheck :=
  match v.takeOne (crced bs) with
  | .error c => some c
  | .ok _ => none
/-- A verifier at the record numbered n, the records before it being of group g. -/
def at_ (n g : Nat) : Verify := { verifying with record := n, group := g, at_ := 119 }
/-- A surcharge record without its CRC-16: kind 1, a fixed amount, on service 1. -/
def surcharge (threshold amount : Nat) : List Byte :=
  [5, 0, 22, 1, 1] ++ w4 threshold ++ [0] ++ w4 amount ++ w4 0 ++ w2 1
/-- What such a surcharge says, under another code. -/
def levied (code : Nat) : Surcharge := ⟨code, .lengthOver, 150, false, 1, 0, 1⟩

theorem witness_PassedImage_sequence :
    (let bs := crced header
     (crc16 (bs.take (bs.length - 2))).toNat = (bs.getD 31 0).toNat * 256 + (bs.getD 32 0).toNat) ∧
    (at_ 1 0).takeOne (header ++ [0, 0]) = .error .recordCrc ∧
    judged (at_ 2 1) header = some .sequence ∧ judged (at_ 1 0) service = some .sequence ∧
    judged (at_ 3 3) service = some .sequence ∧ judged (at_ 1 0) header = none := by decide +kernel
/-- Tax 2,500 and 2,501; 29 February of 2028 and of 2031. -/
theorem witness_PassedImage_header :
    judged (at_ 1 0) (header.set 12 9 |>.set 13 0xC4) = none ∧
    judged (at_ 1 0) (header.set 12 9 |>.set 13 0xC5) = some .fieldRange ∧
    judged (at_ 1 0) (header.set 7 28 |>.set 8 2 |>.set 9 29) = none ∧
    judged (at_ 1 0) (header.set 7 31 |>.set 8 2 |>.set 9 29) = some .fieldRange := by decide +kernel
/-- Longest side 150 and 151; an offset for a zone that is not offered; the same service again. -/
theorem witness_PassedImage_service :
    judged { at_ 2 1 with services := [] } service = none ∧
    judged { at_ 2 1 with services := [] } (service.set 14 151) = some .fieldRange ∧
    judged { at_ 2 1 with services := [] } (service.set 27 1) = some .fieldRange ∧
    judged (at_ 3 2) service = some .duplicate := by decide +kernel
/-- Prefixes from 450 on, after 449 and after 450; zone 13. -/
theorem witness_PassedImage_zone :
    judged { at_ 3 2 with lastHigh := some 449 } (zoneRange.take 10) = none ∧
    judged { at_ 3 2 with lastHigh := some 450 } (zoneRange.take 10) = some .order ∧
    judged { at_ 3 2 with lastHigh := none } (zoneRange.take 10 |>.set 7 13) = some .fieldRange := by decide +kernel
/-- A bound of 30,000 and of 30,001; a second step with the same bound; a ladder twice, of a zone not offered, and
one byte from its offset. -/
theorem witness_PassedImage_ladder :
    let l (bound : Nat) := [4, 0, 15, 1, 4, 1] ++ w2 bound ++ w4 1480 ++ [0]
    judged (at_ 4 3) (l 30000) = none ∧ judged (at_ 4 3) (l 30001) = some .fieldRange ∧
    judged (at_ 4 3) ([4, 0, 21, 1, 4, 2] ++ w2 5000 ++ w4 1480 ++ w2 5000 ++ w4 1480 ++ [0]) = some .order ∧
    judged { at_ 4 3 with services := [laddered] } (l 30000) = some .duplicate ∧
    judged (at_ 4 3) ((l 30000).set 4 5) = some .ladderUnoffered ∧
    judged { at_ 4 3 with at_ := 120 } (l 30000) = some .ladderOffset ∧
    (at_ 4 3).services.find? (fun y => y.code == 1) = some standard := by decide +kernel
/-- A threshold of 150 and of 151; the same code again; an eighth and a ninth surcharge of one service. -/
theorem witness_PassedImage_surcharge :
    let held (n : Nat) : Verify := { at_ 5 4 with surcharges := (List.range n).map (fun i => levied (i + 2)) }
    judged (held 0) (surcharge 150 99999999) = none ∧ judged (held 0) (surcharge 151 1) = some .fieldRange ∧
    judged (held 0) (surcharge 150 100000000) = some .fieldRange ∧
    judged { at_ 5 4 with surcharges := [levied 1] } (surcharge 150 1) = some .duplicate ∧
    judged (held 7) (surcharge 150 1) = none ∧ judged (held 8) (surcharge 150 1) = some .surchargeLimit := by
  decide +kernel
theorem witness_PassedImage_form :
    takeRecord (ladder.take 2) 2 = .malformed ∧ takeRecord (ladder.take 2) 3 = .more ∧
    takeRecord (ladder.take 3) 14 = .malformed ∧ takeRecord (ladder.take 14) 15 = .more ∧
    takeRecord ladder 15 = .record ladder ∧ takeRecord (ladder.set 12 1) 15 = .malformed ∧
    takeRecord (header.set 2 34) 100 = .malformed ∧ takeRecord [6, 0, 22] 100 = .malformed := by decide +kernel
theorem witness_PassedImage_close :
    let v : Verify := { verifying with services := [laddered], ladders := 1 }
    (({ v with header := none } : Verify).close = .failed .sequence 4 ∧
      ({ v with zones := 2 } : Verify).close = .failed .countMismatch 0 ∧
      ({ v with ladders := 0 } : Verify).close = .failed .countMismatch 0 ∧
      ({ v with services := [standard] } : Verify).close = .failed .ladderMissing 2 ∧
      v.close = .failed .imageCrc 0 ∧ ({ v with crc := ~~~ v.sum } : Verify).close = .passed summary) ∧
    (Verify.advance 1 { v with at_ := v.length } = .failed .imageCrc 0 ∧
      Verify.advance 2 { verifying with buf := ladder.set 14 0 } = .failed .recordCrc 4) := by decide +kernel

/-- R66: a service record, a ladder and a zone range judged by their CRC-16, kind, length and identifying fields. -/
theorem test_walk_reads_judged :
    let sealed (bs : List Byte) : List Byte := bs ++ w2 (crc16 bs).toNat
    let serviceSearch := rateWalk summary laddered .b 8 4 5000
    let range (low high : Nat) := sealed ([3, 0, 12] ++ w2 low ++ w2 high ++ [4, 0x4B, 0x34])
    (serviceSearch.good (sealed service) = true ∧ serviceSearch.good (service ++ [0, 0]) = false ∧
      serviceSearch.good (sealed (service.set 3 2)) = false ∧ serviceSearch.good zoneRange = false) ∧
    ((ladderSearch 5000).good tailed = true ∧ (ladderSearch 5000).good (sealed ((tailed.take 19).set 4 5)) = false ∧
      (ladderSearch 5000).good (sealed ((tailed.take 19).set 12 0)) = false) ∧
    (zoneSearch.good (range 450 450) = true ∧ zoneSearch.good (range 451 450) = false) := by decide +kernel

/-- A rating of position 4 whose price is awaited, with the request of position 2 waiting. -/
def pricedNext : State :=
  { pricePart.setOpenSlot .p2 (.rating item3 .queued 3) with
    rating := { pricePart.rating with pendingList := [{ request4 with position := .p2 }] } }
theorem witness_WalkEnds_next :
    (pricedNext.rating.current = some pricing ∧ pricedNext.rating.orphan = none ∧ pricedNext.cache.waiting = none ∧
      pricedNext.openSlot pricing.req.position = .rating item3 .inProgress 2) ∧
    (let s := { queued with cache := {} }
     s.rating.current = none ∧ s.nextRequest = some request4 ∧ s.cache.walk = none ∧
       s.openSlot request4.position = .rating item3 .queued 2 ∧
       ∃ v, request4.start (s.tariffInForce.map (·.2)) s.tariff.generation = .goesOn v ∧
         ({ s with rating := { s.rating with current := some v } } : State).takeLookup v.lookup =
           ((({ s with rating := { s.rating with current := some v } } : State).takeLookup v.lookup).1, none)) :=
  ⟨by decide, by decide, by decide, by decide, by decide, _, rfl, rfl⟩
theorem test_next_rating_begins :
    (pricedNext.endWalk (.step 1480 2000 5000)).rating.current.map (·.req.position) = some .p2 := by decide +kernel

/-- The tariff of 1 March 2031 00:00 staged in bank B, while the calendar stands at a minute. -/
def awaiting (m : Minute) : State :=
  { reset with tariff := { banks := ⟨{ state := .active }, { state := .staged }⟩, staged := some summary }
               time := { calendar := some ⟨m, 0⟩ } }
theorem witness_CalendarKept_check :
    reset.time.calendar = none ∧ reset.tariff.staged = none ∧
    (let s := awaiting ⟨2031, 2, 28, 23, 59⟩
     s.time.calendar = some ⟨⟨2031, 2, 28, 23, 59⟩, 0⟩ ∧ s.tariff.staged = some summary ∧
       (⟨2031, 2, 28, 23, 59⟩ : Minute).key < summary.header.effective.key) ∧
    (let s := awaiting ⟨2031, 3, 1, 0, 0⟩
     summary.header.effective.key ≤ (⟨2031, 3, 1, 0, 0⟩ : Minute).key ∧ (s.tariff.banks.get .b).state = .staged ∧
       (s.tariff.banks.get Bank.b.other).state ≠ .staged ∧ s.rating.current = none) := by decide
theorem test_staged_by_time :
    let states (m : Minute) : BankState × BankState :=
      let b := (awaiting m).effectiveCheck.tariff.banks
      (b.a.state, b.b.state)
    states ⟨2031, 2, 28, 23, 59⟩ = (.active, .staged) ∧ states ⟨2031, 3, 1, 0, 0⟩ = (.empty, .active) := by
  decide +kernel

/-- R36: a button held at a pin reset is no press, and the latch record is lost. -/
theorem test_reset_loses_latch :
    ((run (measuring.onGauge .p2 (fun g => { g with button := .pressed, record := some claimed })) [.pinReset .clear]).map
      (fun t => ((t.gauges.get .p2).record, (t.gauges.get .p2).button))) = some (none, .pressed) := by decide +kernel
theorem witness_ItemRated_free : measuring.rating.current = none ∧ (measuring.gauges.get .p2).record = none ∧
    ∀ a ∈ Axis.all, ((measuring.gauges.get .p2).axes.get a).state = .ready := by decide
theorem witness_CalendarKept_restart :
    let s := (restarting worked none).onTime (fun t => { t with calendar := some ⟨worked.header.effective, 0⟩ })
    let gone : Summary := { worked with services := [] }
    (s.time.calendar = some ⟨worked.header.effective, 0⟩ ∧ s.tariff.staged = some worked ∧
      (s.tariff.banks.get .a).state = .staged ∧ (s.tariff.banks.get Bank.a.other).state ≠ .staged ∧
      s.rating.current = some rating ∧ s.cache.walk.isSome = true ∧ s.rating.pendingList = [] ∧
      s.openSlot rating.req.position = .rating item3 .inProgress 2) ∧
    (∃ v, rating.req.start (some worked) 9 = .goesOn v) ∧ (∃ r, rating.req.start (some gone) 9 = .decided r) :=
  ⟨by decide, ⟨_, rfl⟩, _, rfl⟩

end Sys2Proof.Tests
end

section
/-! PROOFS of 02_dimension_gauges.md: the check of a channel, gauge or position field (R7 to R155), the lines of a
gauge (R24 to R28, R30) and its latches (R29 to R31, R33). -/

namespace Sys2Proof.Machine.DimensionGauges

/-! ## A field that names a position -/

/-- The six positions have the numbers 1 to 6. -/
theorem ofNumber_eq_none {n : Nat} (outside : n < 1 ∨ 6 < n) : Pos.ofNumber n = none := by
  obtain rfl | beyond : n = 0 ∨ 7 ≤ n := by omega
  · rfl
  · obtain ⟨m, rfl⟩ := Nat.exists_eq_add_of_le' beyond
    rfl

/-- A request served at the position its field names is refused BAD_FIELD, the field named, when the field names
none: the shape that all such requests share. -/
theorem request_position_outside {s : State} {i : SlotId} (takes : s.takes i) {n : Nat} (outside : n < 1 ∨ 6 < n)
    (tag : Byte) (name : ReqName) (f : FieldName) (serve : SlotId → State → Pos → State) :
    (.next (s.request tag name fun j t => atPosition n f j t (serve j t)) : Host.Outcome State Fault Refusal) =
      s.refuses i tag name .badField (.field f) := by
  rw [s.request_takes takes, atPosition, ofNumber_eq_none outside]
  exact congrArg _ (s.answer_held i tag name _)

/-- Settles O5: each of the requests begins with the same check of its position. -/
theorem positionFieldChecked : Obligations.PositionFieldChecked := by
  intro s i tag n takes outside
  have refused := request_position_outside takes outside tag
  exact ⟨fun _ _ _ => refused _ _ _, refused _ _ _, refused _ _ _, refused _ _ _, refused _ _ _,
    fun _ => refused _ _ _, refused _ _ _, refused _ _ _, refused _ _ _, refused _ _ _, refused _ _ _,
    refused _ _ _, refused _ _ _, fun _ _ => refused _ _ _, refused _ _ _⟩

/-! ## One axis -/

/-- The held pair and the new one in the forward order (R24). -/
def forwardTurns : List (BitVec 2 × BitVec 2) := [(0#2, 1#2), (1#2, 3#2), (3#2, 2#2), (2#2, 0#2)]

/-- The held pair and the new one against that order (R24). -/
def backwardTurns : List (BitVec 2 × BitVec 2) := [(2#2, 3#2), (3#2, 1#2), (1#2, 0#2), (0#2, 2#2)]

/-- The held pair and the new one where both bits change at once (R25). -/
def doubleTurns : List (BitVec 2 × BitVec 2) := [(0#2, 3#2), (1#2, 2#2), (3#2, 0#2), (2#2, 1#2)]

theorem phaseStep_forward : ∀ {held new : BitVec 2}, (held, new) ∈ forwardTurns → phaseStep held new = .forward := by
  decide

theorem phaseStep_backward : ∀ {held new : BitVec 2}, (held, new) ∈ backwardTurns → phaseStep held new = .backward := by
  decide

theorem phaseStep_error : ∀ {held new : BitVec 2}, (held, new) ∈ doubleTurns → phaseStep held new = .error := by
  decide

/-- A step in either direction is one count, reported when it meets the limit (R24, R26). -/
theorem step_turn {x : AxisRec} {new : BitVec 2} {d : Int}
    (turn : (x.pair, new) ∈ forwardTurns ∧ d = 1 ∨ (x.pair, new) ∈ backwardTurns ∧ d = -1) :
    x.step new = ((x.count1 new d).1, if (x.count1 new d).2 then some .countLimit else none) := by
  obtain ⟨forward, rfl⟩ | ⟨backward, rfl⟩ := turn
  · rw [AxisRec.step, phaseStep_forward forward]
  · rw [AxisRec.step, phaseStep_backward backward]

theorem step_same (x : AxisRec) : x.step x.pair = (x, none) := by simp [AxisRec.step, phaseStep]

theorem count1_beyond {x : AxisRec} {d : Int} (new : BitVec 2)
    (beyond : x.count + d < -32768 ∨ 32767 < x.count + d) :
    x.count1 new d = ({ x with pair := new, state := .unreferenced }, x.referenced) := if_pos beyond

theorem count1_within {x : AxisRec} {d : Int} (new : BitVec 2) (low : -32768 ≤ x.count + d)
    (high : x.count + d ≤ 32767) :
    x.count1 new d = ({ x with
      pair := new, count := x.count + d
      state := if x.referenced then rangeState (x.count + d) else .unreferenced }, false) :=
  if_neg (by omega)

theorem referenced_eq_false {x : AxisRec} : x.referenced = false ↔ x.state = .unreferenced := by
  simp [AxisRec.referenced]

theorem referenced_eq_true {x : AxisRec} : x.referenced = true ↔ x.state ≠ .unreferenced := by
  simp [AxisRec.referenced]

theorem home_unreferenced {x : AxisRec} (offset : Nat) (h : x.state = .unreferenced) :
    x.home offset = ({ x with closed := true, count := offset, state := .ready }, [.referenced]) := by
  simp [AxisRec.home, referenced_eq_false.mpr h]

/-- A referenced axis keeps its correction, which is reported beyond 4 counts either way (R27). -/
theorem home_referenced {x : AxisRec} (offset : Nat) (h : x.state ≠ .unreferenced) :
    x.home offset =
      ({ x with closed := true, count := offset, state := .ready, correction := some (offset - x.count) },
        if (offset : Int) - x.count < -4 ∨ 4 < (offset : Int) - x.count then [.homeSlip (offset - x.count)]
        else []) := by
  have slip : ((offset : Int) - x.count).natAbs > 4 ↔
      (offset : Int) - x.count < -4 ∨ 4 < (offset : Int) - x.count := by omega
  simp only [AxisRec.home, referenced_eq_true.mpr h, if_true, slip]

/-! ## One axis of the part -/

/-- An axis written back as it stands. -/
theorem setAxis_self (s : State) (g : Pos) (a : Axis) : s.setAxis g a ((s.gauges.get g).axes.get a) = s := by
  have axes : ∀ v : Three AxisRec, v.set a (v.get a) = v := fun v => by cases a <;> rfl
  calc s.setAxis g a ((s.gauges.get g).axes.get a)
      = { s with gauges := s.gauges.set g (s.gauges.get g) } := by simp only [State.setAxis, State.onGauge, axes]
    _ = s := by rw [Six.set_get]

/-- The notice of an axis just written tells what was written. -/
theorem axisNotice_setAxis (s : State) (g : Pos) (a : Axis) (y : AxisRec) (e : GaugeEvent) :
    (s.setAxis g a y).axisNotice g a e =
      (s.setAxis g a y).offer (.gaugeFault g e (some (a, y.state, y.count))) := by
  simp [State.axisNotice, State.setAxis]

theorem phasePair_silent {s : State} {g : Pos} {a : Axis} {new : BitVec 2} {y : AxisRec}
    (step : ((s.gauges.get g).axes.get a).step new = (y, none)) : s.phasePair g a new = s.setAxis g a y := by
  simp only [State.phasePair, step]

/-- An axis that a phase pair leaves UNREFERENCED is reported where it was referenced before (R25, R26). -/
theorem phasePair_lost {s : State} {g : Pos} {a : Axis} {new : BitVec 2} {y : AxisRec} {e : GaugeEvent}
    (step : ((s.gauges.get g).axes.get a).step new =
      (y, if ((s.gauges.get g).axes.get a).referenced then some e else none)) :
    s.phasePair g a new = if ((s.gauges.get g).axes.get a).state = .unreferenced then s.setAxis g a y
      else (s.setAxis g a y).offer (.gaugeFault g e (some (a, y.state, y.count))) := by
  by_cases before : ((s.gauges.get g).axes.get a).state = .unreferenced
  · rw [referenced_eq_false.mpr before] at step
    rw [if_pos before, phasePair_silent step]
  · rw [referenced_eq_true.mpr before] at step
    rw [if_neg before, ← axisNotice_setAxis]
    simp only [State.phasePair, step, if_true]

theorem homeEvent_unreferenced {s : State} {g : Pos} {a : Axis}
    (h : ((s.gauges.get g).axes.get a).state = .unreferenced) :
    let offset := (s.settings.host.homeOffsets.get g).get a
    s.homeEvent g a = (s.setAxis g a { (s.gauges.get g).axes.get a with
      closed := true, count := offset, state := .ready }).offer
        (.gaugeFault g .referenced (some (a, .ready, offset))) := by
  simp only [State.homeEvent, home_unreferenced _ h, List.foldl_cons, List.foldl_nil, axisNotice_setAxis]

theorem homeEvent_referenced {s : State} {g : Pos} {a : Axis}
    (h : ((s.gauges.get g).axes.get a).state ≠ .unreferenced) :
    let offset := (s.settings.host.homeOffsets.get g).get a
    let correction : Int := offset - ((s.gauges.get g).axes.get a).count
    let corrected := s.setAxis g a { (s.gauges.get g).axes.get a with
      closed := true, count := offset, state := .ready, correction := some correction }
    s.homeEvent g a = if correction < -4 ∨ 4 < correction then
      corrected.offer (.gaugeFault g (.homeSlip correction) (some (a, .ready, offset))) else corrected := by
  simp only [State.homeEvent, home_referenced _ h]
  split
  · simp only [List.foldl_cons, List.foldl_nil, axisNotice_setAxis]
  · rfl

/-! ## The lines of a gauge -/

theorem exec_encoderStep {s : State} (running : s.running = true) (g : Pos) (a : Axis) (new : BitVec 2) :
    exec (.encoderStep g a new) s = .next (s.phasePair g a new) := congrArg _ (if_pos running)

theorem exec_homeEvent {s : State} (running : s.running = true) (g : Pos) (a : Axis) :
    exec (.homeEvent g a) s = .next (s.homeEvent g a) := congrArg _ (if_pos running)

theorem exec_buttonPress {s : State} (running : s.running = true) (g : Pos) :
    exec (.buttonPress g) s = .next (s.buttonPress g) := congrArg _ (if_pos running)

/-- Settles O13: a phase pair is the pair held, a counted step or an error; a home event finds the axis referenced
or not. -/
theorem gaugeLinesFollowed : Obligations.GaugeLinesFollowed := by
  refine ⟨fun s g a new running => ⟨?same, fun d turn => ⟨?beyond, ?within⟩, ?error⟩,
    fun s g a => ⟨?first, ?again, rfl, rfl⟩⟩
  case same =>
    rintro rfl
    rw [exec_encoderStep running, phasePair_silent (step_same _), setAxis_self]
  case beyond =>
    intro beyond
    rw [exec_encoderStep running, phasePair_lost ((step_turn turn).trans (by rw [count1_beyond new beyond]))]
    rfl
  case within =>
    intro low high
    rw [exec_encoderStep running, phasePair_silent ((step_turn turn).trans (by rw [count1_within new low high]; rfl))]
    simp only [rangeState, referenced_eq_true, ite_not]
    rfl
  case error =>
    intro error
    rw [exec_encoderStep running, phasePair_lost (e := .phaseError) (by rw [AxisRec.step, phaseStep_error error]; rfl)]
    rfl
  case first =>
    intro running unreferenced
    rw [exec_homeEvent running, homeEvent_unreferenced unreferenced]
    rfl
  case again =>
    intro running referenced
    rw [exec_homeEvent running, homeEvent_referenced referenced]
    rfl

/-! ## The latch -/

/-- The record of three READY axes: the counts, and centimetres rounded up (R29, R33). -/
def recordOf (u : Gauge) (source : LatchSource) : LatchRecord :=
  let cm (a : Axis) : Nat := ((u.axes.get a).count.toNat + 19) / 20
  ⟨u.axes.map (·.count), ⟨cm .length, cm .width, cm .height⟩, source, false⟩

/-- The first axis that is not READY, in the order L, W, H (R29). -/
def failsLatch (u : Gauge) (a : Axis) : Prop :=
  (u.axes.get a).state ≠ .ready ∧ (a ≠ .length → u.axes.l.state = .ready) ∧ (a = .height → u.axes.w.state = .ready)

theorem notReady_eq_none {u : Gauge} (ready : ∀ a, (u.axes.get a).state = .ready) : u.notReady = none := by
  simp [Gauge.notReady, ready]

theorem notReady_eq_some {u : Gauge} {a : Axis} (failed : failsLatch u a) : u.notReady = some a := by
  obtain ⟨here, length_ready, width_ready⟩ := failed
  cases a with
  | length => simp [Gauge.notReady, Axis.all, here]
  | width => simpa [Gauge.notReady, Axis.all, Three.get, length_ready] using here
  | height => simpa [Gauge.notReady, Axis.all, Three.get, length_ready, width_ready] using here

theorem claimed_iff {u : Gauge} : u.claimed = true ↔ ∃ r, u.record = some r ∧ r.claimed = true := by
  cases h : u.record <;> simp [Gauge.claimed, h]

theorem record_unclaimed {u : Gauge} {r : LatchRecord} (record : u.record = some r) (unclaimed : ¬u.claimed = true) :
    r.claimed = false := by simpa [Gauge.claimed, record] using unclaimed

/-- Three READY axes give a new record, unclaimed where the latch is not a rating's (R29). -/
theorem latch_ready {u : Gauge} (ready : ∀ a, (u.axes.get a).state = .ready) {source : LatchSource}
    (unclaimed : source ≠ .rating) :
    u.latch source = ({ u with record := some (recordOf u source) }, none) := by
  simp [Gauge.latch, notReady_eq_none ready, recordOf, Three.map, Three.get, centimetres, ceilDiv, unclaimed]

/-- A failed latch drops a record that no item has claimed (R29). -/
theorem latch_failed {u : Gauge} {a : Axis} (failed : failsLatch u a) (unclaimed : ¬u.claimed = true)
    (source : LatchSource) : u.latch source = ({ u with record := none }, some a) := by
  cases h : u.record with
  | none =>
    simp only [Gauge.latch, notReady_eq_some failed, h]
    rw [← h]
  | some r => simp [Gauge.latch, notReady_eq_some failed, h, record_unclaimed h unclaimed]

/-! ## The button (R30) -/

theorem buttonPress_pressed {s : State} {g : Pos} (held : (s.gauges.get g).button = .pressed) :
    s.buttonPress g = s := if_pos held

theorem buttonPress_claimed {s : State} {g : Pos} (released : (s.gauges.get g).button = .released)
    (claimed : (s.gauges.get g).claimed = true) :
    s.buttonPress g = s.onGauge g fun u => { u with button := .pressed } := by
  simp [State.buttonPress, released, claimed]

theorem buttonPress_ready {s : State} {g : Pos} (released : (s.gauges.get g).button = .released)
    (unclaimed : ¬(s.gauges.get g).claimed = true) (ready : ∀ a, ((s.gauges.get g).axes.get a).state = .ready) :
    s.buttonPress g = s.onGauge g fun u => { u with button := .pressed, record := some (recordOf u .button) } := by
  simp [State.buttonPress, released, unclaimed, latch_ready ready, State.onGauge]

theorem buttonPress_failed {s : State} {g : Pos} {a : Axis} (released : (s.gauges.get g).button = .released)
    (unclaimed : ¬(s.gauges.get g).claimed = true) (failed : failsLatch (s.gauges.get g) a) :
    s.buttonPress g = (s.onGauge g fun u => { u with button := .pressed, record := none }).offer
      (.gaugeFault g .latchFailed (some (a, ((s.gauges.get g).axes.get a).state,
        ((s.gauges.get g).axes.get a).count))) := by
  simp [State.buttonPress, released, unclaimed, latch_failed failed unclaimed, State.onGauge, State.axisNotice]

/-! ## G_LATCH (R31) -/

theorem serveGLatch_claimed {s : State} {n : Nat} {g : Pos} (named : Pos.ofNumber n = some g) (i : SlotId)
    {r : LatchRecord} (record : (s.gauges.get g).record = some r) (claimed : r.claimed = true) :
    serveGLatch n i s = s.refuse i .latchHeld (.latch r) := by
  simp [serveGLatch, atPosition, named, record, claimed]

theorem serveGLatch_unclaimed {s : State} {n : Nat} {g : Pos} (named : Pos.ofNumber n = some g) (i : SlotId)
    (unclaimed : ¬(s.gauges.get g).claimed = true) :
    serveGLatch n i s = serveGLatch.serveLatch i s g (s.gauges.get g) := by
  cases h : (s.gauges.get g).record with
  | none => simp [serveGLatch, atPosition, named, h]
  | some r => simp [serveGLatch, atPosition, named, h, record_unclaimed h unclaimed]

theorem serveGLatch_ready {s : State} {n : Nat} {g : Pos} (named : Pos.ofNumber n = some g) (i : SlotId)
    (unclaimed : ¬(s.gauges.get g).claimed = true) (ready : ∀ a, ((s.gauges.get g).axes.get a).state = .ready) :
    serveGLatch n i s =
      (s.onGauge g fun u => { u with record := some (recordOf u .request) }).ok i
        (.latch (recordOf (s.gauges.get g) .request)) := by
  rw [serveGLatch_unclaimed named i unclaimed]
  simp [serveGLatch.serveLatch, latch_ready ready, State.onGauge]

theorem serveGLatch_failed {s : State} {n : Nat} {g : Pos} {a : Axis} (named : Pos.ofNumber n = some g) (i : SlotId)
    (unclaimed : ¬(s.gauges.get g).claimed = true) (failed : failsLatch (s.gauges.get g) a) :
    serveGLatch n i s =
      (s.onGauge g fun u => { u with record := none }).refuse i .gaugeNotReady
        (.latchFailed a (s.gauges.get g).states) := by
  rw [serveGLatch_unclaimed named i unclaimed]
  simp [serveGLatch.serveLatch, latch_failed failed unclaimed, State.onGauge, Gauge.states]

/-- G_LATCH that takes a slot is served there (R193). -/
theorem exec_gLatch {s : State} {i : SlotId} (takes : s.takes i) (tag : Byte) (n : Nat) :
    exec (.gLatch tag n) s = .next (serveGLatch n i (s.held i tag .gLatch)) :=
  congrArg _ (s.request_takes takes tag .gLatch _)

/-- Settles O14: each latch by whether the record is claimed, then whether the axes are READY. -/
theorem latchesByButtonAndRequest : Obligations.LatchesByButtonAndRequest := by
  intro s g running
  dsimp only
  refine ⟨?pressed, ?claimed, fun released unclaimed => ⟨?ready, fun a => ?failed⟩,
    fun i tag n takes named => ⟨?refused, fun unclaimed => ⟨?answered, fun a => ?notReady⟩⟩⟩
  case pressed =>
    intro held
    rw [exec_buttonPress running, buttonPress_pressed held]
  case claimed =>
    intro released claimed
    rw [exec_buttonPress running, buttonPress_claimed released (claimed_iff.mpr claimed)]
    rfl
  case ready =>
    intro ready
    rw [exec_buttonPress running, buttonPress_ready released (mt claimed_iff.mp unclaimed) ready]
    rfl
  case failed =>
    intro failed
    rw [exec_buttonPress running, buttonPress_failed released (mt claimed_iff.mp unclaimed) failed]
    rfl
  case refused =>
    intro r record claimed
    rw [exec_gLatch takes, serveGLatch_claimed (s := s.held i tag .gLatch) named i record claimed]
    rfl
  case answered =>
    intro ready
    rw [exec_gLatch takes, serveGLatch_ready (s := s.held i tag .gLatch) named i (mt claimed_iff.mp unclaimed) ready]
    rfl
  case notReady =>
    intro failed
    rw [exec_gLatch takes, serveGLatch_failed (s := s.held i tag .gLatch) named i (mt claimed_iff.mp unclaimed) failed]
    rfl

end Sys2Proof.Machine.DimensionGauges
end

section
/-! PROOFS of 95_what_each_step_holds.md: every step keeps the host fields of the settings within their conditions
(R138, R200), the speed law (R128), the token law (R161) and the bank law (R39), and the laws hold at a reset. Each
operation keeps them, by its frame or by what it does to the drive, the token or the banks; a step is one operation. -/

namespace Sys2Proof.Machine.StepLaws

/-- The laws at a state. -/
structure Lawful (s : State) : Prop where
  host : s.settings.host.fault = none
  speed : s.belt.speedLaw s.settings.host.vmax
  token : s.release.tokenLaw
  banks : s.tariff.bankLaw

/-- From `s` to `t` the laws are kept. -/
def Keeps (s t : State) : Prop := Lawful s → Lawful t

namespace Keeps
variable {s t u : State}

theorem refl (s : State) : Keeps s s := id

theorem andThen (a : Keeps s t) (b : Keeps t u) : Keeps s u := b ∘ a

theorem ite {c : Prop} [Decidable c] (a : Keeps s t) (b : Keeps s u) : Keeps s (if c then t else u) := by
  split <;> assumption

/-- What the laws speak of is as it was. -/
theorem same (host : t.settings.host = s.settings.host) (belt : t.belt = s.belt) (release : t.release = s.release)
    (tariff : t.tariff = s.tariff) : Keeps s t := fun l =>
  ⟨host ▸ l.host, host ▸ belt ▸ l.speed, release ▸ l.token, tariff ▸ l.banks⟩

theorem ofLine (a : LineFrame s t) : Keeps s t := fun l =>
  ⟨a.settings ▸ l.host, a.settings ▸ a.speed _ (HostFields.vmax_ge_creep l.host) l.speed, a.token l.token,
    a.tariff ▸ l.banks⟩

theorem ofTariff (a : TariffFrame s t) : Keeps s t := fun l =>
  ⟨a.settings ▸ l.host, a.settings ▸ a.belt ▸ l.speed, a.release ▸ l.token, a.banks l.banks⟩

theorem ofCounter (a : CounterFrame s t) : Keeps s t := ofTariff (.ofCounter a)

theorem viaBelt (s : State) (f : Belt → Belt) (h : ∀ v, 100 ≤ v → s.belt.speedLaw v → (f s.belt).speedLaw v) :
    Keeps s (s.onBelt f) := fun l =>
  ⟨l.host, h _ (HostFields.vmax_ge_creep l.host) l.speed, l.token, l.banks⟩

theorem viaRelease (s : State) (f : Release → Release) (h : s.release.tokenLaw → (f s.release).tokenLaw) :
    Keeps s (s.onRelease f) := fun l => ⟨l.host, l.speed, h l.token, l.banks⟩

/-- An answer given in the end. -/
theorem answer (a : Keeps s t) (i : SlotId) (r : Reply) : Keeps s (t.answer i r) :=
  a.andThen (ofCounter (.viaAnswer t i r))

/-- A request answered, and nothing else done. -/
theorem answered (s : State) (i : SlotId) (r : Reply) : Keeps s (s.answer i r) := (refl s).answer i r

/-- A notice offered in the end. -/
theorem offer (a : Keeps s t) (n : Notice) : Keeps s (t.offer n) := a.andThen (ofCounter (.viaOffer t n))

/-- What follows on the line in the end (log 11). -/
theorem settle (a : Keeps s t) (before : State) : Keeps s (State.settle before t) :=
  a.andThen (ofLine (t.settle_frame before))

theorem onLink (s : State) (f : Link → Link) : Keeps s (s.onLink f) := same rfl rfl rfl rfl

theorem onItems (s : State) (f : Items → Items) : Keeps s (s.onItems f) := same rfl rfl rfl rfl

theorem onWeighing (s : State) (f : Weighing → Weighing) : Keeps s (s.onWeighing f) := same rfl rfl rfl rfl

theorem onTime (s : State) (f : Time → Time) : Keeps s (s.onTime f) := same rfl rfl rfl rfl

theorem onPins (s : State) (f : Pins → Pins) : Keeps s (s.onPins f) := same rfl rfl rfl rfl

theorem onLabel (s : State) (f : LabelUnit → LabelUnit) : Keeps s (s.onLabel f) := same rfl rfl rfl rfl

/-- A request that names a position (R193). -/
theorem named (n : Nat) (f : FieldName) (i : SlotId) {serve : Pos → State} (h : ∀ k, Keeps s (serve k)) :
    Keeps s (atPosition n f i s serve) := by
  unfold atPosition
  split
  · exact answered s i _
  · exact h _

/-- The same operation made for each of a list. -/
theorem foldl {α : Type} {f : State → α → State} (h : ∀ t a, Keeps t (f t a)) (l : List α) (s : State) :
    Keeps s (l.foldl f s) := by
  induction l generalizing s with
  | nil => exact refl s
  | cons a rest ih => exact (h s a).andThen (ih _)

/-- An operation that a part without power or held in reset leaves undone. -/
theorem whenRunning {f : State → State} (h : Keeps s (f s)) : Keeps s (s.whenRunning f) := ite h (refl s)

end Keeps


open Keeps (ofLine ofCounter ofTariff answered)

/-! ## Weighing, gauges and the cache -/

theorem serveWSet_keeps (c n b : Nat) (e : Enables) (i : SlotId) (s : State) : Keeps s (serveWSet c n b e i s) :=
  .named _ _ _ fun k =>
    .answer (ofCounter ((CounterFrame.viaChannel s k _).andThen (State.changeNotice_counter _ _ _))) _ _

theorem serveWTimeout_keeps (ms : Nat) (i : SlotId) (s : State) : Keeps s (serveWTimeout ms i s) :=
  .answer (.onWeighing s _) _ _

/-- A channel changed and the request answered, or the request refused. -/
theorem channelRequest_keeps (s : State) (k : Pos) (r : Option Reason) (f : Channel → Channel) (i : SlotId) :
    Keeps s (match r with | some r => s.refuse i r | none => (s.onChannel k f).ok i) := by
  split
  · exact answered s _ _
  · exact (ofCounter (.viaChannel s k f)).answer _ _

theorem serveWZero_keeps (c : Nat) (i : SlotId) (s : State) : Keeps s (serveWZero c i s) :=
  .named _ _ _ fun k => channelRequest_keeps s k _ _ i

theorem serveWTare_keeps (c : Nat) (i : SlotId) (s : State) : Keeps s (serveWTare c i s) :=
  .named _ _ _ fun k => channelRequest_keeps s k _ _ i

theorem serveWClearTare_keeps (c : Nat) (i : SlotId) (s : State) : Keeps s (serveWClearTare c i s) :=
  .named _ _ _ fun k => .ite (answered s _ _) ((ofCounter (.viaChannel s k _)).answer _ _)

theorem serveWCalibrateZero_keeps (c : Nat) (i : SlotId) (s : State) : Keeps s (serveWCalibrateZero c i s) := by
  refine .named _ _ _ fun k => ?_
  split
  · exact answered s _ _
  · exact .answer (ofCounter ((CounterFrame.viaChannel s k _).andThen (State.changeNotice_counter _ _ _))) _ _

theorem serveWCalibrateSpan_keeps (c g : Nat) (i : SlotId) (s : State) : Keeps s (serveWCalibrateSpan c g i s) :=
  .named _ _ _ fun k => .ite (answered s _ _) (channelRequest_keeps s k _ _ i)

theorem serveWStatus_keeps (c : Nat) (i : SlotId) (s : State) : Keeps s (serveWStatus c i s) :=
  .named _ _ _ fun _ => answered s _ _

theorem serveLatch_keeps (i : SlotId) (s : State) (g : Pos) (u : Gauge) : Keeps s (serveGLatch.serveLatch i s g u) := by
  unfold serveGLatch.serveLatch
  split
  · exact (ofCounter (.viaGauge s g _)).answer _ _
  · split <;> exact (ofCounter (.viaGauge s g _)).answer _ _

theorem serveGLatch_keeps (g : Nat) (i : SlotId) (s : State) : Keeps s (serveGLatch g i s) := by
  refine .named _ _ _ fun k => ?_
  dsimp only
  split
  · exact .ite (answered s _ _) (serveLatch_keeps i s k _)
  · exact serveLatch_keeps i s k _

theorem serveGStatus_keeps (g : Nat) (i : SlotId) (s : State) : Keeps s (serveGStatus g i s) :=
  .named _ _ _ fun _ => answered s _ _

theorem serveCPurge_keeps (i : SlotId) (s : State) : Keeps s (serveCPurge i s) :=
  (ofCounter (.viaCache s _)).answer _ _

theorem serveCStats_keeps (c : Bool) (i : SlotId) (s : State) : Keeps s (serveCStats c i s) :=
  .answer (.ite (ofCounter (.viaCache s _)) (.refl s)) _ _

theorem serveCRead_keeps (k : CacheKind) (n : Nat) (i : SlotId) (s : State) : Keeps s (serveCRead k n i s) := by
  cases k with
  | point | band | lookaside => unfold serveCRead; dsimp only; split <;> exact answered s _ _
  | other => exact answered s _ _

/-! ## Items -/

theorem serveIOpen_keeps (f : OpenFields) (i : SlotId) (s : State) : Keeps s (serveIOpen f i s) := by
  unfold serveIOpen
  split
  · exact answered s _ _
  · exact .named _ _ _ fun k => .ite (answered s _ _)
      (.ite (answered s _ _) ((ofCounter (.viaSlot s k _)).answer _ _))

theorem serveIAmend_keeps (f : AmendFields) (i : SlotId) (s : State) : Keeps s (serveIAmend f i s) := by
  unfold serveIAmend
  split
  · exact answered s _ _
  · refine .named _ _ _ fun k => ?_
    dsimp only
    split
    · exact answered s _ _
    · exact answered s _ _
    · exact .ite (answered s _ _) ((ofCounter (State.amend_counter s _ _ _)).answer _ _)
    · exact .ite (answered s _ _)
        ((ofCounter ((State.unloadLimit_counter s k).andThen (State.amend_counter _ _ _ _))).answer _ _)

theorem serveIRate_keeps (p : Nat) (i : SlotId) (s : State) : Keeps s (serveIRate p i s) := by
  refine .named _ _ _ fun k => ?_
  split
  · exact answered s _ _
  · exact answered s _ _
  · exact ofCounter (State.beginRate_counter s _ _ _)
  · exact ofCounter ((State.unloadLimit_counter s k).andThen (State.beginRate_counter _ _ _ _))

theorem crossLow_keeps (s : State) : Keeps s s.crossLow :=
  .ite (.offer (.onItems s _) _) (.refl s)

theorem register_keeps (s : State) (k : Pos) (it : OpenItem) (e : RegEntry) : Keeps s (s.register k it e) := by
  have joined : Keeps s (s.onItems fun m => { m with register := m.register ++ [e], confirmed := m.confirmed + 1 }) :=
    .onItems s _
  have weighed (t : State) := (CounterFrame.viaChannel t k (fun c => { c with interlock := true })).andThen
    (State.releaseCapture_counter _ k)
  have latched (t : State) := CounterFrame.ite (c := it.latched.isSome = true)
    ((weighed t).andThen (State.releaseLatch_counter _ k)) (weighed t)
  exact joined.andThen (ofCounter ((latched _).andThen (.viaSlot _ k _)))

theorem serveIConfirm_keeps (p : Nat) (i : SlotId) (s : State) : Keeps s (serveIConfirm p i s) := by
  have refused (r : Reason) : Keeps s (s.refuse i r) := answered s _ _
  refine .named _ _ _ fun k => ?_
  split
  · exact refused _
  · exact refused _
  · exact refused _
  · refine .ite (refused _) ?_
    split
    · exact refused _
    · refine .ite (refused _) ?_
      split
      · exact refused _
      · have issued (n : Nat) (pool : List SerialBlock) : Keeps s (s.issued n pool) :=
          .andThen (.onItems s _) (crossLow_keeps _)
        exact (((issued _ _).andThen (register_keeps _ _ _ _)).settle s).answer _ _

theorem serveICancel_keeps (p : Nat) (i : SlotId) (s : State) : Keeps s (serveICancel p i s) := by
  refine .named _ _ _ fun k => ?_
  have idled (it : OpenItem) := (State.giveBack_counter s k it).andThen (.viaSlot _ k .idle)
  split
  · exact answered s _ _
  · exact (ofCounter (idled _)).answer _ _
  · exact (ofCounter (idled _)).answer _ _
  · exact ((ofCounter ((idled _).andThen (State.withdrawRating_counter _ k))).answer _ _).answer _ _

theorem serveIVoid_keeps (ds : List Nat) (i : SlotId) (s : State) : Keeps s (serveIVoid ds i s) := by
  unfold serveIVoid
  split
  · exact answered s _ _
  · split
    · exact answered s _ _
    · split
      · exact ((ofLine (s.closeItem_frame _ _)).settle s).answer _ _
      · exact ((ofLine ((s.endVoided_frame _).andThen (State.closeItem_frame _ _ _))).settle s).answer _ _
      · refine .ite (answered s _ _) ?_
        split
        · exact ((ofLine (s.flagEntry_frame _ _)).settle s).answer _ _
        · exact answered s _ _

theorem serveIRead_keeps (ds : List Nat) (i : SlotId) (s : State) : Keeps s (serveIRead ds i s) := by
  unfold serveIRead
  split
  · exact answered s _ _
  · split <;> exact answered s _ _

theorem serveNLoad_keeps (f c : Nat) (i : SlotId) (s : State) : Keeps s (serveNLoad f c i s) := by
  unfold serveNLoad
  split
  · exact answered s _ _
  · exact .answer (.onItems s _) _ _

/-! ## Tariff -/

theorem serveTOpen_keeps (b : Option Bank) (n : Nat) (c : BitVec 32) (i : SlotId) (s : State) :
    Keeps s (serveTOpen b n c i s) := by
  unfold serveTOpen
  split
  · exact answered s _ _
  · rename_i k
    refine .ite (answered s _ _) ?_
    split
    · exact answered s _ _
    · rename_i h
      refine ofTariff (s.openSession_tariff k n c i fun loading => ?_)
      cases st : s.bankState k <;> simp [State.openRefusal, st, loading] at h

theorem serveTData_keeps (o : Nat) (d : List Byte) (i : SlotId) (s : State) : Keeps s (serveTData o d i s) := by
  unfold serveTData
  split
  · exact answered s _ _
  · exact (ofTariff (.viaTariff s _ fun l => l)).andThen (.foldl (fun t _ => ofTariff (t.askPort_tariff _)) _ _)

theorem serveTClose_keeps (i : SlotId) (s : State) : Keeps s (serveTClose i s) := by
  unfold serveTClose
  split
  · exact answered s _ _
  · refine .ite (answered s _ _) (ofTariff ?_)
    exact ((TariffFrame.viaBank s _ _ (.inr (.inr (.inl rfl)))).andThen (.viaTariff _ _ fun l => l)).andThen
      (State.turnVerifier_tariff _)

theorem serveTDiscard_keeps (b : Option Bank) (i : SlotId) (s : State) : Keeps s (serveTDiscard b i s) := by
  unfold serveTDiscard
  split
  · exact answered s _ _
  · split
    · exact answered s _ _
    · exact answered s _ _
    · exact answered s _ _
    · exact (ofTariff ((TariffFrame.viaTariff s _ fun l => l).andThen (State.discardBank_tariff _ _))).answer _ _
    · exact (ofTariff (s.discardBank_tariff _)).answer _ _
    · split
      · exact (ofTariff (s.discardBank_tariff _)).answer _ _
      · exact (ofTariff ((s.endSession_tariff _ _).andThen (.viaBank _ _ _ (.inl rfl)))).answer _ _

theorem serveTActivate_keeps (i : SlotId) (s : State) : Keeps s (serveTActivate i s) := by
  unfold serveTActivate
  split
  · exact answered s _ _
  · exact (ofTariff (s.activate_tariff _ _ _)).answer _ _

/-! ## The belt -/

theorem changeDrive_keeps (s : State) (f : Belt → Belt)
    (h : ∀ v, 100 ≤ v → s.belt.speedLaw v → (f s.belt).speedLaw v) : Keeps s (s.changeDrive f) := by
  have changed := Keeps.viaBelt s f h
  exact .ite changed (changed.offer _)

/-- The drive comes to a stop at once: every speed but the run target is 0. -/
theorem speedLaw_stopped {b : Belt} {v : Nat} (l : b.speedLaw v) (d : Drive) (r : StopReason) (w : Option Nat) :
    ({ b with drive := d, reason := r, setpoint := 0, target := 0, waitEntry := w } : Belt).speedLaw v :=
  ⟨fun _ => rfl, fun _ => rfl, Nat.zero_le _, Nat.zero_le _, l.2.2.2.2⟩

theorem estopPath_keeps (s : State) (r : StopReason) : Keeps s (s.estopPath r) :=
  (changeDrive_keeps s _ fun _ _ l => speedLaw_stopped l _ _ _).andThen
    (ofLine (((State.dropReservations_frame _).andThen (State.flagAll_frame _ _ _)).andThen
      (State.retractTamp_frame _)))

theorem reverse_keeps (s : State) : Keeps s s.reverse := by
  unfold State.reverse
  exact (ofLine (((LineFrame.viaOffer s _).andThen (State.flagAll_frame _ _ _)).andThen
    (State.dropReservations_frame _))).andThen (.viaBelt _ _ fun _ _ l => l)

theorem markHigh_keeps (s : State) : Keeps s s.markHigh :=
  .ite (.viaBelt s _ fun _ _ l => l) (.ite (reverse_keeps s) (.refl s))

theorem growEntry_frame (s : State) (r : EyeRecord) (e : Entry) : LineFrame s (s.growEntry r e) := by
  have flagged := LineFrame.ite (c := e.itemNumber?.isSome = true) (s.flagEntry_frame .overlength e.id) (.refl s)
  unfold State.growEntry
  exact (flagged.andThen (State.onEntry_frame _ _ _ (by intro; rfl))).andThen (State.flagAll_frame _ _ _)

theorem growInduct_keeps (s : State) (k : Pos) : Keeps s (s.growInduct k) := by
  unfold State.growInduct
  dsimp only
  split
  · exact .refl s
  · exact (ofLine (growEntry_frame s _ _)).andThen (.viaBelt _ _ fun _ _ l => l)

theorem growApplicator_keeps (s : State) : Keeps s s.growApplicator := by
  unfold State.growApplicator
  split
  · exact .refl s
  · exact .ite (.refl s) ((ofLine (growEntry_frame s _ _)).andThen (.viaBelt _ _ fun _ _ l => l))

theorem beltStep_keeps (before s : State) : Keeps s (State.beltStep before s) :=
  ((((markHigh_keeps s).andThen (.foldl growInduct_keeps _ _)).andThen (growApplicator_keeps _)).andThen
    (ofLine (State.endUnused_frame _))).settle before

theorem encoderCount_keeps (s : State) (forward : Bool) : Keeps s (s.encoderCount forward) := by
  have counted (f : Belt → Belt) (h : ∀ v, (f s.belt).speedLaw v ↔ s.belt.speedLaw v) : Keeps s (s.onBelt f) :=
    .viaBelt s f fun v _ l => (h v).mpr l
  have stepped (t : State) (p : Coord) : Keeps t (State.beltStep s (t.onBelt fun b => { b with p := p })) :=
    Keeps.andThen (.viaBelt t _ fun _ _ l => l) (beltStep_keeps s _)
  unfold State.encoderCount
  dsimp only
  split
  · exact .ite ((counted _ fun _ => .rfl).andThen (stepped _ _)) (counted _ fun _ => .rfl)
  · exact .ite ((counted _ fun _ => .rfl).andThen (stepped _ _)) (counted _ fun _ => .rfl)

/-- A ramp step goes no further than the target and not away from it (R128). -/
theorem rampTo_le {setpoint target top : Nat} (low : setpoint ≤ top) (high : target ≤ top) (accel decel : Nat) :
    State.rampTo setpoint target accel decel ≤ top := by
  unfold State.rampTo
  split <;> omega

/-- A drive that stands after a ramp step stood before it, or the setpoint has reached 0 (R128). -/
theorem rampedDrive_stands {d : Drive} {setpoint target : Nat}
    (h : State.rampedDrive d setpoint target = .stopped ∨ State.rampedDrive d setpoint target = .estopped) :
    (d = .stopped ∨ d = .estopped) ∨ setpoint = 0 := by
  cases d with
  | stopped | estopped | running | creeping => exact .inl h
  | starting => simp only [State.rampedDrive] at h; split at h <;> simp at h
  | stopping => simp only [State.rampedDrive] at h; split at h <;> simp_all

/-- A drive that stands or stops after a ramp step did so before it (R128). -/
theorem rampedDrive_halts {d : Drive} {setpoint target : Nat}
    (h : State.rampedDrive d setpoint target = .stopped ∨ State.rampedDrive d setpoint target = .estopped ∨
      State.rampedDrive d setpoint target = .stopping) : d = .stopped ∨ d = .estopped ∨ d = .stopping := by
  cases d with
  | stopped | estopped | running | creeping => exact h
  | starting => simp only [State.rampedDrive] at h; split at h <;> simp at h
  | stopping => exact .inr (.inr rfl)

/-- A moving drive's setpoint follows its target; the drive stands where a STOPPING one reaches 0 (R128). -/
theorem speedLaw_ramped {b : Belt} {v accel decel : Nat} (l : b.speedLaw v)
    (moves : ¬(b.drive = .stopped ∨ b.drive = .estopped)) :
    let next := State.rampTo b.setpoint (b.target * 100) accel decel
    ({ b with setpoint := next, drive := State.rampedDrive b.drive next (b.target * 100) } : Belt).speedLaw v := by
  obtain ⟨-, halted, setpoint, target, run⟩ := l
  exact ⟨fun stands => (rampedDrive_stands stands).resolve_left moves, fun halts => halted (rampedDrive_halts halts),
    rampTo_le setpoint (Nat.mul_le_mul_right 100 target) accel decel, target, run⟩

theorem ramp_keeps (s : State) : Keeps s s.ramp := by
  unfold State.ramp
  split
  · exact .refl s
  · rename_i moves
    exact (changeDrive_keeps s _ fun _ _ l => speedLaw_ramped l moves).settle s

theorem speedWindow_keeps (s : State) : Keeps s s.speedWindow := by
  have judged (f : Belt → Belt) (h : ∀ v, (f s.belt).speedLaw v ↔ s.belt.speedLaw v) : Keeps s (s.onBelt f) :=
    .viaBelt s f fun v _ l => (h v).mpr l
  refine .ite ?_ (judged _ fun _ => .rfl)
  exact (Keeps.andThen (.offer (.andThen (judged _ fun _ => .rfl) (.viaBelt _ _ fun _ _ l => l)) _)
    (estopPath_keeps _ _)).settle s

theorem assertStop_keeps (s : State) : Keeps s s.assertStop :=
  .ite (.offer (.onPins s _) _)
    (.settle (.offer (.andThen (.onPins s _) (estopPath_keeps _ _)) _) s)

theorem setEye_keeps (s : State) (k : Pos) (r : EyeRecord) : Keeps s (s.setEye k r) := .viaBelt s _ fun _ _ l => l

theorem insertNew_keeps (s : State) (front tail : Coord) (flag : Option RejectReason) (body : EntryBody) :
    Keeps s (s.insertNew front tail flag body) := .viaBelt s _ fun _ _ l => l

theorem induct_keeps (s : State) (k : Pos) (e : Entry) (n : Nat) : Keeps s (s.induct k e n) := by
  have placed (item : Entry) (r : EyeRecord) : Keeps s ((s.onBelt fun b => { b with
      queue := insertEntry b.p item (b.queue.filter fun o => o.id != e.id) }).setEye k r) :=
    .andThen (.viaBelt s _ fun _ _ l => l) (setEye_keeps _ k r)
  have released (t : State) :
      LineFrame t (t.onRelease fun r => if r.lit.any (fun l => l.item == n) then r.endLit else r) := by
    refine .viaRelease t _ fun l => ?_
    split
    · exact Release.tokenLaw_endLit _ l
    · exact l
  unfold State.induct
  dsimp only
  have mirrored (t : State) (f : RegEntry → RegEntry) := (t.onItem_frame n f).andThen (released _)
  split
  · exact (placed _ _).andThen (ofLine (((mirrored _ _).andThen (State.reportFlag_frame _ _ _ _)).andThen
      (State.displace_frame _)))
  · exact (placed _ _).andThen (ofLine ((mirrored _ _).andThen (State.displace_frame _)))

theorem strayAt_keeps (s : State) (k : Pos) : Keeps s (s.strayAt k) := by
  have flagged (ids : List Nat) : Keeps s (s.flagAll .overlap ids) := ofLine (s.flagAll_frame _ ids)
  exact .offer (.andThen (.ite ((flagged _).andThen (insertNew_keeps _ _ _ _ _)) ((flagged _).offer _))
    (setEye_keeps _ _ _)) _

theorem inductFront_keeps (s : State) (k : Pos) : Keeps s (s.inductFront k) := by
  unfold State.inductFront
  split
  · exact setEye_keeps s _ _
  · split
    · exact (induct_keeps s _ _ _).settle s
    · exact (strayAt_keeps s k).settle s

theorem measure_frame (s : State) (r : EyeRecord) (id : Nat) : LineFrame s (s.measure r id) :=
  s.onEntry_frame id _ fun e => Entry.withLength_id _ e

theorem inductTrailing_keeps (s : State) (k : Pos) : Keeps s (s.inductTrailing k) := by
  have cleared := setEye_keeps s k (State.clearedEye (s.belt.eyes.get k))
  unfold State.inductTrailing
  dsimp only
  split
  · exact .ite cleared ((cleared.andThen (ofLine (measure_frame _ _ _))).settle s)
  · exact cleared

theorem removeMissing_frame (n : Nat) (s : State) : LineFrame s (State.removeMissing n s) := by
  induction n generalizing s with
  | zero => exact .refl s
  | succ n ih =>
    unfold State.removeMissing
    split
    · exact .refl s
    · exact .ite ((s.dropMissing_frame _).andThen (ih _)) (.refl s)

theorem blockApplicator_keeps (s : State) (id : Option Nat) : Keeps s (s.blockApplicator id) :=
  .viaBelt s _ fun _ _ l => l

theorem matchHead_keeps (s : State) (e : Entry) : Keeps s (s.matchHead e) := by
  have marked := (ofLine (s.onEntry_frame e.id _ Entry.asMatched_id)).andThen (blockApplicator_keeps _ (some e.id))
  exact .ite (marked.andThen (ofLine (State.matchLabel_frame _ _))) marked

theorem unknownObject_keeps (s : State) : Keeps s s.unknownObject :=
  .ite (((insertNew_keeps s _ _ _ _).andThen (blockApplicator_keeps _ _)).offer _)
    (((blockApplicator_keeps s none).offer _).offer _)

theorem applicatorFront_keeps (s : State) : Keeps s s.applicatorFront := by
  refine .settle (.andThen (ofLine (removeMissing_frame s.belt.queue.length s)) ?_) s
  split
  · exact .ite (matchHead_keeps _ _) (unknownObject_keeps _)
  · exact unknownObject_keeps _

theorem applicatorTrailing_keeps (s : State) : Keeps s s.applicatorTrailing := by
  have cleared : Keeps s (s.onBelt fun b => { b with applicator := State.clearedEye s.belt.applicator }) :=
    .viaBelt s _ fun _ _ l => l
  unfold State.applicatorTrailing
  dsimp only
  split
  · exact .ite cleared ((cleared.andThen (ofLine (measure_frame _ _ _))).settle s)
  · exact cleared

/-- A B_RUN's speed lies within Vmax (R130). -/
theorem runBelt_keeps (s : State) {v : Nat} (within : v ≤ s.settings.host.vmax) : Keeps s (s.runBelt v) := fun l => by
  obtain ⟨still, halted, setpoint, target, run⟩ := l.speed
  have ran (f : Belt → Belt) (h : (f s.belt).speedLaw s.settings.host.vmax) : Lawful (s.onBelt f) :=
    ⟨l.host, h, l.token, l.banks⟩
  have runTarget : Lawful (s.onBelt fun b => { b with runTarget := v }) :=
    ran _ ⟨still, halted, setpoint, target, within⟩
  unfold State.runBelt
  split
  · refine Keeps.ite (s := s) (fun _ => runTarget) (fun _ => ?_) l
    have started := ran (fun b => { b with drive := .starting, reason := .none, runTarget := v, target := v })
      ⟨by simp, by simp, setpoint, within, within⟩
    exact Keeps.ite (s := s) (fun _ => started) (fun _ => Keeps.offer (.refl _) _ started) l
  · rename_i d
    exact ran _ ⟨still, by simp [d], setpoint, within, within⟩
  · rename_i d
    exact ran _ ⟨still, by simp [d], setpoint, within, within⟩
  · exact runTarget
  · exact l
  · exact l

theorem serveBRun_keeps (speed : Nat) (i : SlotId) (s : State) : Keeps s (serveBRun speed i s) := by
  refine .ite (answered s _ _) (.ite (answered s _ _) ?_)
  refine .answer (.settle (fun l => runBelt_keeps s ?_ l) s) _ _
  have creep := HostFields.vmax_ge_creep l.host
  simp only [limit, Config.creepSpeed]
  omega

theorem serveBStop_keeps (i : SlotId) (s : State) : Keeps s (serveBStop i s) := by
  refine .ite (answered s _ _) (.answer (.settle (changeDrive_keeps s _ fun v _ l => ?_) s) _ _)
  obtain ⟨still, halted, setpoint, target, run⟩ := l
  split
  · exact ⟨by simp, fun _ => rfl, setpoint, Nat.zero_le _, run⟩
  · exact ⟨still, halted, setpoint, target, run⟩

theorem serveBReset_keeps (i : SlotId) (s : State) : Keeps s (serveBReset i s) := by
  unfold serveBReset
  split
  · exact answered s _ _
  · rename_i estopped
    have stands : s.belt.drive = .estopped := by simpa using estopped
    refine .ite (answered s _ _) (.answer (changeDrive_keeps s _ fun v _ l => ?_) _ _)
    obtain ⟨still, halted, setpoint, target, run⟩ := l
    exact ⟨fun _ => still (.inr stands), fun _ => halted (.inr (.inl stands)), setpoint, target, run⟩

/-! ## The Release Controller -/

/-- A position written anew keeps the law where the token's position stays staffed. -/
theorem tokenLaw_setPlace {r : Release} (l : r.tokenLaw) (k : Pos) (p : Place)
    (staffed : r.token = some k → p.staffed = true) : ({ r with places := r.places.set k p } : Release).tokenLaw := by
  obtain ⟨some_iff, held, lit, pending⟩ := l
  refine ⟨some_iff, ?_, lit, pending⟩
  cases h : r.token with
  | none => rfl
  | some q =>
    by_cases same : q = k
    · subst same
      simpa using staffed h
    · simpa [Six.get_set_ne _ _ same, h] using held

theorem tokenLaw_openPlace {r : Release} (l : r.tokenLaw) (k : Pos) (treq x : Nat) :
    (r.openPlace k treq x).tokenLaw := by
  refine Release.tokenLaw_callNegotiation _ (tokenLaw_setPlace l k _ fun _ => ?_)
  split
  · assumption
  · rfl

/-- While a release is lit its position, the token's, is staffed. -/
theorem staffed_of_lit {r : Release} (l : r.tokenLaw) {x : LitRelease} (lit : r.lit = some x) :
    r.token = some x.position ∧ (r.places.get x.position).staffed = true := by
  obtain ⟨-, held, stands, -⟩ := l
  have token : r.token = some x.position := by simpa [lit] using stands
  exact ⟨token, by simpa [token] using held⟩

theorem not_pending {r : Release} (l : r.tokenLaw) (lit : r.lit = none) : r.pendingMark = false := by
  by_contra h
  simpa [lit] using l.2.2.2 (by simpa using h)

theorem holds_iff {r : Release} (l : r.tokenLaw) :
    r.token.isSome = true ↔ r.state = .rotating ∨ r.state = .suspended := by
  rw [l.1]
  simp

/-- A position is closed once no release is lit there (R155): where it held the token a negotiation begins. -/
theorem tokenLaw_closePlace {r : Release} (l : r.tokenLaw) {k : Pos} (off : ∀ x, r.lit = some x → x.position ≠ k) :
    (r.closePlace k).tokenLaw := by
  by_cases here : r.token = some k
  · have lit : r.lit = none := Option.eq_none_iff_forall_ne_some.mpr fun x h =>
      off x h (Option.some.inj ((staffed_of_lit l h).1.symm.trans here))
    have moves := (holds_iff l).mp (by simp [here])
    have pending := not_pending l lit
    unfold Release.closePlace
    dsimp only
    split
    · exact Release.tokenLaw_enterIdle _ lit
    · have parked := Release.tokenLaw_beginNegotiation (r := { r with
        places := r.places.set k { r.places.get k with staffed := false, mode := .stopped, late := false } }) lit
      obtain state | state := moves <;> simpa [Release.callNegotiation, pending, lit, state] using parked
  · have closed := tokenLaw_setPlace l k { r.places.get k with staffed := false, mode := .stopped, late := false }
      (fun h => absurd h here)
    unfold Release.closePlace
    dsimp only
    split
    · rename_i empty
      refine Release.tokenLaw_enterIdle _ (Option.eq_none_iff_forall_ne_some.mpr fun x h => ?_)
      have staffed := (staffed_of_lit closed h).2
      rw [List.isEmpty_iff, Release.staffed, List.filter_eq_nil_iff] at empty
      exact empty x.position (by cases x.position <;> decide) staffed
    · exact Release.tokenLaw_callNegotiation _ closed

/-- The token arrives at a staffed position while no release is lit (R159). -/
theorem tokenLaw_arrive {r : Release} {k : Pos} (moves : r.state = .rotating ∨ r.state = .suspended)
    (lit : r.lit = none) (pending : r.pendingMark = false) (staffed : (r.places.get k).staffed = true) :
    (r.arrive k).tokenLaw := by
  obtain state | state := moves <;> simp [Release.arrive, Release.tokenLaw, state, lit, pending, staffed]

theorem tokenLaw_arriveByPass {r : Release} {k : Pos} (l : (r.arrive k).tokenLaw) : (r.arriveByPass k).tokenLaw := by
  unfold Release.arriveByPass
  dsimp only
  split <;> exact l

/-- The search for a staffed position ends at one that it comes to (R161). -/
theorem staffed_go {r : Release} (n j : Nat) (within : j < n) :
    ∀ q : Pos, (r.places.get (Pos.next^[j] q)).staffed = true →
      (r.places.get (Release.nextStaffed.go r n q)).staffed = true := by
  induction n generalizing j with
  | zero => omega
  | succ n ih =>
    intro q staffed
    unfold Release.nextStaffed.go
    split
    · assumption
    · rename_i unstaffed
      cases j with
      | zero => exact absurd staffed unstaffed
      | succ j => exact ih j (by omega) q.next staffed

theorem staffed_nextStaffed {r : Release} {k : Pos} (staffed : (r.places.get k).staffed = true) :
    (r.places.get (r.nextStaffed k)).staffed = true :=
  staffed_go 6 5 (by decide) k.next (by cases k <;> exact staffed)

theorem passFrom_some {r : Release} {k : Pos} {register : List RegEntry} (passes : r.passFrom register = some k) :
    r.token = some k ∧ r.state = .rotating ∧ r.lit = none := by
  unfold Release.passFrom at passes
  split at passes
  · cases passes
  · rename_i q token
    split at passes
    · rename_i moves
      cases passes
      exact ⟨token, moves.1, by simpa using moves.2.1⟩
    · cases passes

theorem tokenLaw_pass {r : Release} {k : Pos} {register : List RegEntry} (l : r.tokenLaw)
    (passes : r.passFrom register = some k) : (r.pass k).tokenLaw := by
  obtain ⟨token, state, lit⟩ := passFrom_some passes
  have staffed : (r.places.get k).staffed = true := by simpa [token] using l.2.1
  have pending := not_pending l lit
  refine tokenLaw_arriveByPass (tokenLaw_arrive (.inl state) lit pending ?_)
  dsimp only
  by_cases same : r.nextStaffed k = k
  · simpa [same] using staffed
  · rw [Six.get_set_ne _ _ same]
    exact staffed_nextStaffed staffed

theorem tokenLaw_endNegotiation {r : Release} (l : r.tokenLaw) (state : r.state = .negotiating) (moving : Bool) :
    (r.endNegotiation moving).tokenLaw := by
  have parked : r.token = none := by
    by_contra h
    have := (holds_iff l).mp (by cases t : r.token <;> simp_all)
    simp [state] at this
  have lit : r.lit = none := Option.eq_none_iff_forall_ne_some.mpr fun x h => by
    simpa [parked] using (staffed_of_lit l h).1
  unfold Release.endNegotiation
  split
  · rename_i k t lowest _
    have staffed : (r.places.get k).staffed = true := by
      have := List.mem_of_mem_head? lowest
      simpa [Release.staffed] using (List.mem_filter.mp this).2
    cases moving <;> simp [Release.arrive, Release.tokenLaw, lit, not_pending l lit, staffed]
  · exact Release.tokenLaw_enterIdle r lit

theorem endUninducted_lit (s : State) : s.endUninducted.release.lit = none := by
  unfold State.endUninducted
  split
  · assumption
  · show (Release.endLit _).lit = none
    unfold Release.endLit
    dsimp only
    split <;> rfl

theorem servePOpen_keeps (p : Nat) (treq x : Option Nat) (i : SlotId) (s : State) :
    Keeps s (servePOpen p treq x i s) :=
  .named _ _ _ fun k => .ite (answered s _ _)
    (.answer (.settle (.viaRelease s _ fun l => tokenLaw_openPlace l k _ _) s) _ _)

theorem servePClose_keeps (p : Nat) (i : SlotId) (s : State) : Keeps s (servePClose p i s) := by
  refine .named _ _ _ fun k => .ite (answered s _ _) (.answer (.settle ?_ s) _ _)
  split
  · refine (ofLine s.endUninducted_frame).andThen (.viaRelease _ _ fun l => tokenLaw_closePlace l fun x lit => ?_)
    simp [endUninducted_lit] at lit
  · rename_i off
    refine .viaRelease s _ fun l => tokenLaw_closePlace l fun x lit => ?_
    simpa [lit] using off

theorem servePStats_keeps (c : Bool) (i : SlotId) (s : State) : Keeps s (servePStats c i s) :=
  .answer (.ite (.viaRelease s _ fun l => l) (.refl s)) _ _

theorem negotiationExpires_keeps (s : State) : Keeps s s.negotiationExpires := by
  unfold State.negotiationExpires
  split
  · rename_i state
    exact .settle (.viaRelease s _ fun l => tokenLaw_endNegotiation l state _) s
  · exact .refl s

theorem rotationExpires_keeps (s : State) (k : Pos) : Keeps s (s.rotationExpires k) := by
  have placed (p : Place) (same : p.staffed = (s.release.places.get k).staffed) (l : s.release.tokenLaw) :=
    tokenLaw_setPlace l k p fun token => same.trans (by simpa [token] using l.2.1)
  refine .ite (.ite (.settle ?_ s) (.viaRelease s _
    (placed { s.release.places.get k with late := true, trt := s.release.ttrt.getD 0 } rfl))) (.refl s)
  exact .andThen (.offer (.viaRelease s _ (placed { s.release.places.get k with mode := .stopped, trt := 0 } rfl)) _)
    (.viaRelease _ _ (Release.tokenLaw_callNegotiation _))

theorem passToken_keeps (s : State) : Keeps s s.passToken := by
  unfold State.passToken
  split
  · exact .refl s
  · rename_i passes
    exact .settle (.viaRelease s _ fun l => tokenLaw_pass l passes) s

theorem holdingExpires_keeps (s : State) : Keeps s s.holdingExpires :=
  .ite (.settle (.viaRelease s _ fun l => l) s) (.refl s)

theorem expressExpires_keeps (s : State) : Keeps s s.expressExpires :=
  .ite (.settle (.viaRelease s _ fun l => l) s) (.refl s)

/-! ## The Label Unit -/

theorem printerReady_keeps (s : State) : Keeps s s.printerReady := by
  have ended := (LineFrame.viaLabel s fun u => { u with printer := .ready }).andThen
    (State.printerNotice_frame _ .state)
  unfold State.printerReady
  split
  · exact .refl s
  · exact .refl s
  · exact .settle (ofLine (s.resendJob_frame false)) s
  · exact .settle (ofLine (.ite (ended.andThen (State.resendJob_frame _ true)) ended)) s

theorem unexpectedLabel_keeps (s : State) : Keeps s s.unexpectedLabel :=
  ofLine (((LineFrame.ite (s.eject_frame none .wasted) (.refl s)).andThen (.viaLabel _ _)).andThen
    (State.printerNotice_frame _ _))

theorem jobPresented_keeps (s : State) (j : Job) : Keeps s (s.jobPresented j) := by
  have done := LineFrame.viaLabel s fun u => { u with job := none, printer := .presented }
  exact ofLine (.ite (done.andThen (State.eject_frame _ _ _))
    (((done.andThen (State.setLabel_frame _ _ _)).andThen (.viaLabel _ _)).andThen (State.displace_frame _)))

theorem printerPresented_keeps (s : State) : Keeps s s.printerPresented := by
  unfold State.printerPresented
  split
  · exact (jobPresented_keeps s _).settle s
  all_goals exact (unexpectedLabel_keeps s).settle s

theorem printerFaulted_keeps (s : State) (kind : FaultKind) : Keeps s (s.printerFaulted kind) := by
  unfold State.printerFaulted
  split
  · exact .ite (.refl s) (.offer (.onLabel s _) _)
  all_goals exact .settle (ofLine (s.enterFault_frame kind)) s

theorem jobExpires_keeps (s : State) : Keeps s s.jobExpires :=
  .ite (.settle (ofLine ((LineFrame.viaLabel s _).andThen (State.enterFault_frame _ _))) s) (.refl s)

theorem queryExpires_keeps (s : State) : Keeps s s.queryExpires := .ite (.onLabel s _) (.refl s)

theorem extendEnds_keeps (s : State) : Keeps s s.extendEnds := by
  unfold State.extendEnds
  split
  · exact .onLabel s _
  all_goals exact .refl s

theorem dwellEnds_keeps (s : State) : Keeps s s.dwellEnds := by
  unfold State.dwellEnds
  split
  · exact .onLabel s _
  all_goals exact .refl s

theorem retractEnds_keeps (s : State) (sensor : PadSensor) : Keeps s (s.retractEnds sensor) := by
  unfold State.retractEnds
  split
  · exact .settle (ofLine (s.verdict_frame _ _)) s
  all_goals exact .refl s

theorem draw_keeps (s : State) : Keeps s s.draw.2 := .same rfl rfl rfl rfl

theorem serveLStatus_keeps (i : SlotId) (s : State) : Keeps s (serveLStatus i s) := (draw_keeps s).answer _ _

theorem serveLStats_keeps (c : Bool) (i : SlotId) (s : State) : Keeps s (serveLStats c i s) :=
  .answer (.ite (.onLabel s _) (.refl s)) _ _

/-! ## Verification and the start-up scan -/

theorem enterReady_keeps (s : State) : Keeps s s.enterReady := by
  have ready := Keeps.onLink s fun l => { l with part := .ready }
  exact .ite ((ready.andThen (estopPath_keeps _ _)).settle _) ready

theorem scanOn_keeps (s : State) (check : Bool) : Keeps s (s.scanOn check) := by
  have checked := TariffFrame.ite (c := check = true) s.effectiveCheck_tariff (.refl s)
  exact .ite ((ofTariff (checked.andThen (State.scanGeneration_tariff _))).andThen (enterReady_keeps _))
    (ofTariff s.turnVerifier_tariff)

theorem scanPassed_keeps (s : State) (k : Bank) (t : Summary) : Keeps s (s.scanPassed k t) := by
  have left := s.leaveScan_tariff k .passed
  exact .ite ((ofTariff (left.andThen (.viaTariff _ _ fun l => l))).andThen (scanOn_keeps _ _))
    ((ofTariff (left.andThen (.viaTariff _ _ fun l => l))).andThen (scanOn_keeps _ _))

theorem scanFailed_keeps (s : State) (k : Bank) (c : VerifyCheck) (n : Nat) : Keeps s (s.scanFailed k c n) := by
  have left := s.leaveScan_tariff k (.failed c n)
  have damaged := (left.andThen (.viaBank _ k (fun b => { b with state := .damaged }) (.inr (.inr (.inr rfl))))).andThen
    (State.rewriteRecord_tariff _ k .damaged (s.descriptionOf k))
  have emptied := (left.andThen (State.emptyBank_tariff _ k)).andThen (State.rewriteRecord_tariff _ k .empty none)
  exact .ite ((ofTariff damaged).offer _ |>.andThen (scanOn_keeps _ _)) ((ofTariff emptied).andThen (scanOn_keeps _ _))

theorem endVerify_keeps (s : State) (v : Verify) (r : Except (VerifyCheck × Nat) Summary) :
    Keeps s (s.endVerify v r) := by
  unfold State.endVerify
  split
  · split
    · exact scanPassed_keeps s _ _
    · exact scanFailed_keeps s _ _ _
  · split
    · exact ofTariff (s.verifyPassed_tariff _ _)
    · exact ofTariff (s.verifyFailed_tariff _ _ _)
    · exact .refl s

theorem verifyRead_keeps (s : State) (bs : List Byte) : Keeps s (s.verifyRead bs) := by
  unfold State.verifyRead
  split
  · exact .refl s
  · split
    · exact ofTariff (s.askVerify_tariff _)
    · exact endVerify_keeps s _ _
    · exact endVerify_keeps s _ _

/-- A bank scanned into a state other than EMPTY has a record that gives the state and does not lose (R59). -/
theorem scannedBank_state {r o : Option StateRecord} {tie : Bool} {st : BankState} (kept : st ≠ .empty)
    (h : (State.scannedBank r o tie).state = st) : State.losesTo r o tie = false ∧ State.recordedState r = st := by
  simp only [State.scannedBank] at h
  split at h
  · exact absurd h.symm kept
  · rename_i wins
    exact ⟨by simpa using wins, h⟩

theorem recordedState_eq {r : Option StateRecord} {st : BankState} (kept : st ≠ .empty)
    (h : State.recordedState r = st) : ∃ x, r = some x ∧
      (st = .active ∧ x.state = .active ∨ st = .staged ∧ x.state = .staged ∨ st = .damaged ∧ x.state = .damaged) := by
  cases r with
  | none => exact absurd h.symm kept
  | some x =>
    refine ⟨x, rfl, ?_⟩
    subst h
    simp only [State.recordedState] at kept ⊢
    cases state : x.state <;> simp [state] at kept ⊢

/-- Of two records that both say ACTIVE, or both STAGED, one loses (R59). -/
theorem losesTo_either {x y : StateRecord} (same : x.state = y.state) (both : x.state = .active ∨ x.state = .staged) :
    State.losesTo (some x) (some y) false = true ∨ State.losesTo (some y) (some x) true = true := by
  have named : (y.state == .active || y.state == .staged) = true := by simpa [same] using both
  by_cases less : x.seq.toNat < y.seq.toNat
  · exact .inl (by simp [State.losesTo, same, named, less])
  · obtain greater | equal : y.seq.toNat < x.seq.toNat ∨ y.seq.toNat = x.seq.toNat := by omega
    · exact .inr (by simp [State.losesTo, same, named, greater])
    · exact .inr (by simp [State.losesTo, same, named, BitVec.eq_of_toNat_eq equal])

/-- The two banks as the scan finds them keep the bank law (R39, R59). -/
theorem scannedBanks_law (t : Tariff) (ra rb : Option StateRecord) :
    ({ t with banks := ⟨State.scannedBank ra rb false, State.scannedBank rb ra true⟩ } : Tariff).bankLaw := by
  have apart (st : BankState) (kept : st = .active ∨ st = .staged ∨ st = .loading) :
      ¬((State.scannedBank ra rb false).state = st ∧ (State.scannedBank rb ra true).state = st) := by
    rintro ⟨a, b⟩
    have ne : st ≠ .empty := by rintro rfl; simp at kept
    obtain ⟨winsA, givesA⟩ := scannedBank_state ne a
    obtain ⟨winsB, givesB⟩ := scannedBank_state ne b
    obtain ⟨x, rfl, saysA⟩ := recordedState_eq ne givesA
    obtain ⟨y, rfl, saysB⟩ := recordedState_eq ne givesB
    have both : x.state = y.state ∧ (x.state = .active ∨ x.state = .staged) := by
      obtain rfl | rfl | rfl := kept <;> simp_all
    obtain loses | loses := losesTo_either both.1 both.2 <;> simp_all
  exact ⟨apart _ (.inl rfl), apart _ (.inr (.inl rfl)), apart _ (.inr (.inr rfl))⟩

theorem beginScan_keeps (s : State) : Keeps s s.beginScan := by
  have read (f : Tariff → Tariff) (law : (f s.tariff).bankLaw) : TariffFrame s (s.onTariff f) :=
    .viaTariff s f fun _ => law
  have rewritten (t : State) (k : Bank) (c : Bool) :
      TariffFrame t (if c = true then t.rewriteRecord k .empty none else t) :=
    .ite (t.rewriteRecord_tariff _ _ _) (.refl t)
  unfold State.beginScan State.scanFrom
  dsimp only
  refine Keeps.andThen (ofTariff ?_) (scanOn_keeps _ _)
  exact ((read _ (scannedBanks_law s.tariff _ _)).andThen (rewritten _ _ _)).andThen (rewritten _ _ _)

/-! ## Resets -/

/-- The default settings meet their conditions (R200). -/
theorem default_fault : HostFields.default.fault = none := by decide

theorem blank_banks : ({} : Tariff).bankLaw := by decide

/-- With the belt and the release as a reset leaves them the laws hold, whatever fields the settings have (R206). -/
theorem loaded_lawful (s : State) (t : Time) (r : SettingsRecord) (source : Source) (seq : BitVec 32)
    (ok : r.host.fault = none) : Lawful ((s.cold t).loadRecord r source seq) where
  host := ok
  speed := ⟨fun _ => rfl, fun _ => rfl, Nat.zero_le _, Nat.zero_le _, Nat.zero_le _⟩
  token := by simp [State.loadRecord, State.cold, Release.tokenLaw]
  banks := blank_banks

theorem cold_lawful (s : State) (t : Time) : Lawful (s.cold t) where
  host := default_fault
  speed := ⟨fun _ => rfl, fun _ => rfl, Nat.zero_le _, Nat.zero_le _, Nat.zero_le _⟩
  token := by simp [State.cold, Release.tokenLaw]
  banks := blank_banks

/-- The record in force is a valid one (R201). -/
theorem best_ok {t : Settings} {k : CopyId} {seq : BitVec 32} {r : SettingsRecord} (best : t.best = some (k, seq, r)) :
    r.host.fault = none := by
  have valid : t.copy1.valid = some (seq, r) ∨ t.copy2.valid = some (seq, r) := by
    unfold Settings.best at best
    split at best
    · split at best <;> cases best <;> simp [*]
    · cases best; simp [*]
    · cases best; simp [*]
    · cases best
  have ok : r.ok = true := by
    obtain h | h := valid <;> obtain ⟨-, -, ok, -, rfl⟩ := (Copy.valid_iff _ _ _).mp h <;> exact ok
  simp only [SettingsRecord.ok, Bool.and_eq_true, Option.isNone_iff_eq_none] at ok
  exact ok.1.1

theorem loadSettings_lawful (s : State) (t : Time) : Lawful (s.cold t).loadSettings := by
  unfold State.loadSettings
  split
  · rename_i best
    exact loaded_lawful s t _ _ _ (best_ok best)
  · exact Keeps.offer (.refl _) _ (loaded_lawful s t .default _ _ default_fault)

theorem start_lawful (s : State) (t : Time) (sensor : PadSensor) : Lawful ((s.cold t).start sensor) := by
  have switches : Keeps (s.cold t).loadSettings (s.cold t).loadSettings.readSwitches :=
    .foldl (fun u _ => .foldl (fun v _ => .ite (ofCounter (v.homeEvent_counter _ _)) (.refl v)) _ u) _ _
  have pad (u : State) : Keeps u (u.readPad sensor) := by
    cases sensor with
    | clear => exact .refl u
    | label => exact ofLine u.countWasted_frame
  exact ((switches.andThen (pad _)).andThen (beginScan_keeps _)) (loadSettings_lawful s t)

theorem startUp_lawful (s : State) (sensor : PadSensor) : Lawful (s.startUp sensor) := by
  unfold State.startUp
  split
  · exact start_lawful _ _ _
  · exact cold_lawful _ _

theorem restart_lawful (s : State) : Lawful s.restart := start_lawful _ _ _

/-! ## Settings, link and calendar -/

/-- The maximum speed is a function of the line fields (R129, R138). -/
theorem vmax_eq_of_lineFields {h g : HostFields} (same : lineFields h = lineFields g) : h.vmax = g.vmax := by
  simp only [lineFields, Prod.mk.injEq] at same
  obtain ⟨geo, length, speed, apply⟩ := same
  simp only [HostFields.vmax, HostFields.printMs, geo, length, speed, apply]

/-- What an S_STORE that is not refused has met (R202). -/
theorem storeRefusal_none {s : State} {h : HostFields} (accepted : s.storeRefusal h = none) :
    h.fault = none ∧ (lineFields h = lineFields s.settings.host ∨ s.belt.drive = .stopped) := by
  unfold State.storeRefusal at accepted
  split at accepted
  · cases accepted
  · split at accepted
    · cases accepted
    · rename_i ok
      split at accepted
      · cases accepted
      · rename_i line
        simp only [not_and_or, not_or, not_not] at line
        exact ⟨ok, line.imp_right And.left⟩

/-- Fields that change the line are stored while the drive stands; the run target is limited anew (R138, R202). -/
theorem store_keeps {s : State} {h : HostFields} (i : SlotId) (accepted : s.storeRefusal h = none) :
    Keeps s (s.store h i) := fun l => by
  obtain ⟨ok, line⟩ := storeRefusal_none accepted
  obtain ⟨still, halted, setpoint, target, run⟩ := l.speed
  have low : s.belt.setpoint ≤ h.vmax * 100 ∧ s.belt.target ≤ h.vmax := by
    obtain same | stopped := line
    · rw [vmax_eq_of_lineFields same]
      exact ⟨setpoint, target⟩
    · simp [still (.inl stopped), halted (.inl stopped)]
  exact ⟨ok, ⟨still, halted, low.1, low.2, Nat.min_le_right _ _⟩, l.token, l.banks⟩

theorem serveSStore_keeps (h : HostFields) (i : SlotId) (s : State) : Keeps s (serveSStore h i s) := by
  unfold serveSStore
  split
  · exact answered s _ _
  · exact store_keeps i (by assumption)

theorem setCopy_host (t : Settings) (k : CopyId) (c : Copy) : (t.setCopy k c).host = t.host := by cases k <;> rfl

theorem storeDone_keeps (s : State) (success : Bool) : Keeps s (s.storeDone success) := by
  unfold State.storeDone
  split
  · exact .refl s
  · refine .ite (.answer ?_ _ _) (.answer (.andThen (draw_keeps s) ?_) _ _)
    · exact .same (setCopy_host _ _ _) rfl rfl rfl
    · exact .same (setCopy_host _ _ _) rfl rfl rfl

theorem serveSClockSet_keeps (c : Clock) (i : SlotId) (s : State) : Keeps s (serveSClockSet c i s) := by
  unfold serveSClockSet
  split
  · exact answered s _ _
  · exact .answer (.andThen (.onTime s _) (ofTariff (State.effectiveCheck_tariff _))) _ _

theorem second_keeps (s : State) : Keeps s s.second := by
  have phased := Keeps.onTime s fun t => { t with msPhase := 0, calendar := t.calendar.bind Clock.next }
  unfold State.second
  dsimp only
  split
  · exact phased
  · exact .ite (phased.andThen (ofTariff (State.effectiveCheck_tariff _))) phased

theorem serveSStatus_keeps (c : Bool) (i : SlotId) (s : State) : Keeps s (serveSStatus c i s) :=
  .answer (.ite (.onLink s _) (.refl s)) _ _

theorem serveSRestart_keeps (i : SlotId) (s : State) : Keeps s (serveSRestart i s) :=
  .ite (answered s _ _) (.answer (.onLink s _) _ _)

/-! ## Every request, in a row of its own or in a frame (R192, R193) -/

theorem serve_keeps (r : Request) (i : SlotId) (s : State) : Keeps s (serve r i s) := by
  cases r with
  | wSet c n b e => exact serveWSet_keeps c n b e i s
  | wTimeout ms => exact serveWTimeout_keeps ms i s
  | wZero c => exact serveWZero_keeps c i s
  | wTare c => exact serveWTare_keeps c i s
  | wClearTare c => exact serveWClearTare_keeps c i s
  | wCalibrateZero c => exact serveWCalibrateZero_keeps c i s
  | wCalibrateSpan c g => exact serveWCalibrateSpan_keeps c g i s
  | wStatus c => exact serveWStatus_keeps c i s
  | gLatch g => exact serveGLatch_keeps g i s
  | gStatus g => exact serveGStatus_keeps g i s
  | tOpen b n c => exact serveTOpen_keeps b n c i s
  | tData o d => exact serveTData_keeps o d i s
  | tClose => exact serveTClose_keeps i s
  | tDiscard b => exact serveTDiscard_keeps b i s
  | tActivate => exact serveTActivate_keeps i s
  | cPurge => exact serveCPurge_keeps i s
  | cStats c => exact serveCStats_keeps c i s
  | cRead k n => exact serveCRead_keeps k n i s
  | iOpen f => exact serveIOpen_keeps f i s
  | iAmend f => exact serveIAmend_keeps f i s
  | iRate p => exact serveIRate_keeps p i s
  | iConfirm p => exact serveIConfirm_keeps p i s
  | iCancel p => exact serveICancel_keeps p i s
  | iVoid n => exact serveIVoid_keeps n i s
  | iStatus p => exact .named _ _ _ fun _ => answered s _ _
  | iRead n => exact serveIRead_keeps n i s
  | nLoad f c => exact serveNLoad_keeps f c i s
  | bRun v => exact serveBRun_keeps v i s
  | bStop => exact serveBStop_keeps i s
  | bReset => exact serveBReset_keeps i s
  | pOpen p t x => exact servePOpen_keeps p t x i s
  | pClose p => exact servePClose_keeps p i s
  | pStats c => exact servePStats_keeps c i s
  | lStatus => exact serveLStatus_keeps i s
  | lStats c => exact serveLStats_keeps c i s
  | sClockSet c => exact serveSClockSet_keeps c i s
  | sStore h => exact serveSStore_keeps h i s
  | sStatus c => exact serveSStatus_keeps c i s
  | sRestart => exact serveSRestart_keeps i s
  | tStatus | iList | iCounts | nStatus | bStatus | bQueue | pStatus | sGet => exact answered s _ _

theorem dispatch_keeps (s : State) (tag : Byte) (code : MsgCode) (known fits : Bool) {serve : SlotId → State → State}
    (h : ∀ i t, Keeps t (serve i t)) : Keeps s (s.dispatch tag code known fits serve) := by
  unfold State.dispatch
  split
  · exact .onLink s _
  · have held (i : SlotId) := Keeps.onLink s (Link.hold i tag code)
    exact .ite ((held _).answer _ _) (.ite ((held _).answer _ _)
      (.ite ((held _).answer _ _) ((held _).andThen (h _ _))))

/-- A request row (R193). -/
theorem request_keeps (s : State) (tag : Byte) (name : ReqName) (r : Request) :
    Keeps s (s.request tag name (serve r)) := .whenRunning (dispatch_keeps s _ _ _ _ (serve_keeps r))

theorem dispatchPayload_keeps (s : State) (tag code : Byte) (fields : List Byte) :
    Keeps s (s.dispatchPayload tag code fields) := by
  unfold State.dispatchPayload
  split
  · exact dispatch_keeps s _ _ _ _ fun _ => .refl
  · exact dispatch_keeps s _ _ _ _ fun _ => .refl
  · exact dispatch_keeps s _ _ _ _ (serve_keeps _)

theorem takeByte_keeps (s : State) (b : Byte) : Keeps s (s.takeByte b) := by
  have discarded : Keeps s s.discardFrame := .onLink s _
  have tested (bs : List Byte) : Keeps s (s.testFrame bs) :=
    .ite (.andThen (.onLink s _) (dispatchPayload_keeps _ _ _ _)) discarded
  unfold State.takeByte
  split
  · exact .ite (.onLink s _) (.refl s)
  · exact .ite discarded (.ite (tested _) (.onLink s _))

theorem breakFrame_keeps (s : State) : Keeps s s.breakFrame := by
  unfold State.breakFrame
  split
  · exact .refl s
  · exact .onLink s _

theorem frameSent_keeps (s : State) : Keeps s s.frameSent := by
  unfold State.frameSent
  split
  · exact .refl s
  · exact .ite (fun _ => restart_lawful s) (.onLink s _)
  · exact .onLink s _
  · exact .onLink s _

/-! ## A step -/

/-- A millisecond event counts the rotation timers down and leaves who holds the token (R197). -/
theorem tick_keeps (s : State) : Keeps s s.tick := fun l => by
  obtain ⟨some_iff, held, lit, pending⟩ := l.token
  refine ⟨l.host, l.speed, ⟨some_iff, ?_, lit, pending⟩, l.banks⟩
  show (s.release.token.all fun k => (s.releaseTick.places.get k).staffed) = true
  cases h : s.release.token with
  | none => rfl
  | some k =>
    have staffed : (s.release.places.get k).staffed = true := by simpa [h] using held
    simp only [State.releaseTick, Six.get_of, Option.all_some]
    split <;> exact staffed

theorem exec_programmingAccess_keeps (ok : Bool) (s : State) :
    ∃ t, exec (.programmingAccessComplete ok) s = .next t ∧ Keeps s t := by
  refine ⟨_, rfl, .whenRunning ?_⟩
  split
  · exact .refl s
  · exact ofTariff ((TariffFrame.viaPort s _).andThen (State.programmingDone_tariff _ _ _))

theorem exec_verificationRead_keeps (d : Option (List Byte)) (s : State) :
    ∃ t, exec (.verificationReadComplete d) s = .next t ∧ Keeps s t := by
  refine ⟨_, rfl, .whenRunning ?_⟩
  split
  · exact .andThen (ofTariff (.viaPort s _)) (verifyRead_keeps _ _)
  · exact .refl s

theorem exec_walkRead_keeps (d : Option (List Byte)) (s : State) :
    ∃ t, exec (.walkReadComplete d) s = .next t ∧ Keeps s t := by
  refine ⟨_, rfl, .whenRunning ?_⟩
  split
  · exact ofTariff (s.walkDone_tariff _ _ _)
  · exact .refl s

/-- Every command goes on, and keeps the laws. -/
theorem exec_keeps (c : Instr) (s : State) : ∃ t, exec c s = .next t ∧ Keeps s t := by
  have row (tag : Byte) (name : ReqName) (r : Request) := request_keeps s tag name r
  have viaBelt (f : Belt → Belt) (h : ∀ v, (f s.belt).speedLaw v ↔ s.belt.speedLaw v) : Keeps s (s.onBelt f) :=
    .viaBelt s f fun v _ l => (h v).mpr l
  cases c with
  | sampleArrival k raw => exact ⟨_, rfl, .whenRunning (ofCounter (s.sample_counter k _))⟩
  | sampleTimerExpiry k => exact ⟨_, rfl, .whenRunning (ofCounter (s.missSample_counter k))⟩
  | captureTimeout k => exact ⟨_, rfl, .whenRunning (ofCounter (s.captureExpires_counter k))⟩
  | encoderStep g a p =>
    exact ⟨_, rfl, .ite (ofCounter (s.phasePair_counter g a p)) (ofCounter (s.setAxis_counter g a _))⟩
  | homeEvent g a => exact ⟨_, rfl, .ite (ofCounter (s.homeEvent_counter g a)) (ofCounter (s.setAxis_counter g a _))⟩
  | homeSwitchOpened g a => exact ⟨_, rfl, ofCounter (s.setAxis_counter g a _)⟩
  | buttonPress g => exact ⟨_, rfl, .ite (ofCounter (s.buttonPress_counter g)) (ofCounter (.viaGauge s g _))⟩
  | buttonRelease g => exact ⟨_, rfl, ofCounter (.viaGauge s g _)⟩
  | programmingAccessComplete ok => exact exec_programmingAccess_keeps ok s
  | verificationReadComplete d => exact exec_verificationRead_keeps d s
  | walkReadComplete d => exact exec_walkRead_keeps d s
  | beltEncoderCount forward => exact ⟨_, rfl, .whenRunning (encoderCount_keeps s forward)⟩
  | speedWindowEnd => exact ⟨_, rfl, .whenRunning (.andThen (.onTime s _) (speedWindow_keeps _))⟩
  | rampStep => exact ⟨_, rfl, .whenRunning (.andThen (.onTime s _) (ramp_keeps _))⟩
  | emergencyStopAsserted => exact ⟨_, rfl, .ite (.refl s) (.ite (assertStop_keeps s) (.onPins s _))⟩
  | emergencyStopReleased =>
    exact ⟨_, rfl, .ite (.refl s) (.ite (.offer (.onPins s _) _) (.onPins s _))⟩
  | inductEyeFrontEdge k => exact ⟨_, rfl, .ite (.refl s) (.ite (inductFront_keeps s k) (setEye_keeps s k _))⟩
  | inductEyeTrailingEdge k => exact ⟨_, rfl, .ite (.refl s) (.ite (inductTrailing_keeps s k) (setEye_keeps s k _))⟩
  | applicatorEyeFrontEdge =>
    exact ⟨_, rfl, .ite (.refl s) (.ite (applicatorFront_keeps s) (viaBelt _ fun _ => .rfl))⟩
  | applicatorEyeTrailingEdge =>
    exact ⟨_, rfl, .ite (.refl s) (.ite (applicatorTrailing_keeps s) (viaBelt _ fun _ => .rfl))⟩
  | negotiationTimerExpiry => exact ⟨_, rfl, .whenRunning (negotiationExpires_keeps s)⟩
  | rotationTimerExpiry k => exact ⟨_, rfl, .whenRunning (rotationExpires_keeps s k)⟩
  | tokenPass => exact ⟨_, rfl, .whenRunning (passToken_keeps s)⟩
  | thtExpiry => exact ⟨_, rfl, .whenRunning (holdingExpires_keeps s)⟩
  | expressWaitExpiry => exact ⟨_, rfl, .whenRunning (expressExpires_keeps s)⟩
  | printerReadyReport => exact ⟨_, rfl, .whenRunning (printerReady_keeps s)⟩
  | printerPresentedReport => exact ⟨_, rfl, .whenRunning (printerPresented_keeps s)⟩
  | printerFaultReport kind => exact ⟨_, rfl, .whenRunning (printerFaulted_keeps s _)⟩
  | jobTimerExpiry => exact ⟨_, rfl, .whenRunning (jobExpires_keeps s)⟩
  | queryTimerExpiry => exact ⟨_, rfl, .whenRunning (queryExpires_keeps s)⟩
  | tampExtendEnd => exact ⟨_, rfl, .whenRunning (extendEnds_keeps s)⟩
  | tampDwellEnd => exact ⟨_, rfl, .whenRunning (dwellEnds_keeps s)⟩
  | tampRetractEnd sensor => exact ⟨_, rfl, .whenRunning (retractEnds_keeps s sensor)⟩
  | frameReceived b => exact ⟨_, rfl, .whenRunning (takeByte_keeps s b)⟩
  | byteReceived b => exact ⟨_, rfl, .whenRunning (takeByte_keeps s b)⟩
  | byteFramingError => exact ⟨_, rfl, .whenRunning (breakFrame_keeps s)⟩
  | byteGapTimeout => exact ⟨_, rfl, .whenRunning (breakFrame_keeps s)⟩
  | transmitFrameEnd => exact ⟨_, rfl, .whenRunning (frameSent_keeps s)⟩
  | calendarSecond => exact ⟨_, rfl, .whenRunning (second_keeps s)⟩
  | storeWriteComplete ok => exact ⟨_, rfl, .whenRunning (storeDone_keeps s ok)⟩
  | powerOnReset sensor => exact ⟨_, rfl, fun _ => startUp_lawful _ sensor⟩
  | pinReset sensor => exact ⟨_, rfl, fun _ => startUp_lawful _ sensor⟩
  | resetLineAsserted => exact ⟨_, rfl, fun _ => cold_lawful _ _⟩
  | powerLoss => exact ⟨_, rfl, fun _ => cold_lawful _ _⟩
  | tData tag o d => exact ⟨_, rfl, .whenRunning (dispatch_keeps s _ _ _ _ (serve_keeps (.tData o d)))⟩
  | wSet tag c n b e => exact ⟨_, rfl, row tag _ (.wSet c n b e)⟩
  | wTimeout tag ms => exact ⟨_, rfl, row tag _ (.wTimeout ms)⟩
  | wZero tag c => exact ⟨_, rfl, row tag _ (.wZero c)⟩
  | wTare tag c => exact ⟨_, rfl, row tag _ (.wTare c)⟩
  | wClearTare tag c => exact ⟨_, rfl, row tag _ (.wClearTare c)⟩
  | wCalibrateZero tag c => exact ⟨_, rfl, row tag _ (.wCalibrateZero c)⟩
  | wCalibrateSpan tag c g => exact ⟨_, rfl, row tag _ (.wCalibrateSpan c g)⟩
  | wStatus tag c => exact ⟨_, rfl, row tag _ (.wStatus c)⟩
  | gLatch tag g => exact ⟨_, rfl, row tag _ (.gLatch g)⟩
  | gStatus tag g => exact ⟨_, rfl, row tag _ (.gStatus g)⟩
  | tOpen tag b n c => exact ⟨_, rfl, row tag _ (.tOpen b n c)⟩
  | tClose tag => exact ⟨_, rfl, row tag _ .tClose⟩
  | tDiscard tag b => exact ⟨_, rfl, row tag _ (.tDiscard b)⟩
  | tActivate tag => exact ⟨_, rfl, row tag _ .tActivate⟩
  | tStatus tag => exact ⟨_, rfl, row tag _ .tStatus⟩
  | cPurge tag => exact ⟨_, rfl, row tag _ .cPurge⟩
  | cStats tag c => exact ⟨_, rfl, row tag _ (.cStats c)⟩
  | cRead tag k n => exact ⟨_, rfl, row tag _ (.cRead k n)⟩
  | iOpen tag f => exact ⟨_, rfl, row tag _ (.iOpen f)⟩
  | iAmend tag f => exact ⟨_, rfl, row tag _ (.iAmend f)⟩
  | iRate tag p => exact ⟨_, rfl, row tag _ (.iRate p)⟩
  | iConfirm tag p => exact ⟨_, rfl, row tag _ (.iConfirm p)⟩
  | iCancel tag p => exact ⟨_, rfl, row tag _ (.iCancel p)⟩
  | iVoid tag n => exact ⟨_, rfl, row tag _ (.iVoid n)⟩
  | iStatus tag p => exact ⟨_, rfl, row tag _ (.iStatus p)⟩
  | iRead tag n => exact ⟨_, rfl, row tag _ (.iRead n)⟩
  | iList tag => exact ⟨_, rfl, row tag _ .iList⟩
  | iCounts tag => exact ⟨_, rfl, row tag _ .iCounts⟩
  | nLoad tag f c => exact ⟨_, rfl, row tag _ (.nLoad f c)⟩
  | nStatus tag => exact ⟨_, rfl, row tag _ .nStatus⟩
  | bRun tag v => exact ⟨_, rfl, row tag _ (.bRun v)⟩
  | bStop tag => exact ⟨_, rfl, row tag _ .bStop⟩
  | bReset tag => exact ⟨_, rfl, row tag _ .bReset⟩
  | bStatus tag => exact ⟨_, rfl, row tag _ .bStatus⟩
  | bQueue tag => exact ⟨_, rfl, row tag _ .bQueue⟩
  | pOpen tag p t x => exact ⟨_, rfl, row tag _ (.pOpen p t x)⟩
  | pClose tag p => exact ⟨_, rfl, row tag _ (.pClose p)⟩
  | pStatus tag => exact ⟨_, rfl, row tag _ .pStatus⟩
  | pStats tag c => exact ⟨_, rfl, row tag _ (.pStats c)⟩
  | lStatus tag => exact ⟨_, rfl, row tag _ .lStatus⟩
  | lStats tag c => exact ⟨_, rfl, row tag _ (.lStats c)⟩
  | sClockSet tag c => exact ⟨_, rfl, row tag _ (.sClockSet c)⟩
  | sStore tag h => exact ⟨_, rfl, row tag _ (.sStore h)⟩
  | sGet tag => exact ⟨_, rfl, row tag _ .sGet⟩
  | sStatus tag c => exact ⟨_, rfl, row tag _ (.sStatus c)⟩
  | sRestart tag => exact ⟨_, rfl, row tag _ .sRestart⟩

theorem step_keeps {s t : State} (next : step s = .next t) : Keeps s t := by
  unfold step at next
  split at next
  · cases next
    exact .whenRunning (tick_keeps s)
  · rename_i c rest _
    obtain ⟨u, executed, kept⟩ := exec_keeps c { s with pending := rest }
    cases executed.symm.trans next
    exact Keeps.andThen (t := { s with pending := rest }) (.same rfl rfl rfl rfl) kept

/-- Settles O60: a step is a millisecond event or a command, and each keeps the laws. -/
theorem stepKeepsSpeedTokenAndBanks : Obligations.StepKeepsSpeedTokenAndBanks := by
  rintro s t ⟨host, speed, token, banks⟩ next
  obtain ⟨host, speed, token, banks⟩ := step_keeps next ⟨host, speed, token, banks⟩
  exact ⟨host, speed, token, banks⟩

/-- The laws of the settings, the drive, the token and the banks hold at a reset (log 3). -/
theorem reset_lawful : Lawful State.reset where
  host := default_fault
  speed := ⟨fun _ => rfl, fun _ => rfl, Nat.zero_le _, Nat.zero_le _, Nat.zero_le _⟩
  token := by decide
  banks := blank_banks

/-- Settles O58: the blank part counts nothing, tracks nothing and stands still (log 3). -/
theorem lawsAtReset : Obligations.LawsAtReset := by
  obtain ⟨host, speed, token, banks⟩ := reset_lawful
  exact ⟨rfl, rfl, by decide, ⟨List.nodup_nil, List.forall_mem_nil _⟩, host, speed, token, banks⟩

end Sys2Proof.Machine.StepLaws
end

section
/-! PROOFS of 03_tariff_image_and_banks.md: verification (R40 to R45, R51). The checks of one record by its kind, each
against its limits; then the records taken one by one, and what a verification keeps. -/

namespace Sys2Proof.Machine.ImageChecks

/-! ## Bytes -/

theorem byteAt_lt (bs : List Byte) (i : Nat) : byteAt bs i < 256 := (bs.getD i 0).isLt

theorem word16_lt (bs : List Byte) (i : Nat) : word16 bs i < 65536 := by
  have high := byteAt_lt bs i
  have low := byteAt_lt bs (i + 1)
  simp only [word16]
  omega

theorem crc32More_append (c : BitVec 32) (a b : List Byte) : crc32More (crc32More c a) b = crc32More c (a ++ b) :=
  (List.foldl_append ..).symm

/-- A short name is the eight bytes without the spaces at the end (R42). -/
theorem shortName_spaces (l : List Byte) : ∃ k, l = shortName l ++ List.replicate k 0x20 := by
  refine ⟨(l.reverse.takeWhile (· == 0x20)).length, ?_⟩
  have spaces : l.reverse.takeWhile (· == 0x20) = List.replicate (l.reverse.takeWhile (· == 0x20)).length 0x20 :=
    List.eq_replicate_iff.mpr ⟨rfl, fun b m => by simpa using List.mem_takeWhile_imp m⟩
  calc l = (l.reverse.takeWhile (· == 0x20) ++ l.reverse.dropWhile (· == 0x20)).reverse := by
        rw [List.takeWhile_append_dropWhile, List.reverse_reverse]
    _ = shortName l ++ List.replicate _ 0x20 := by
        rw [List.reverse_append, spaces, List.reverse_replicate, List.length_replicate]; rfl

theorem shortName_last (l : List Byte) : (shortName l).getLast? ≠ some 0x20 := by
  intro last
  rw [shortName, List.getLast?_reverse] at last
  have := List.head?_dropWhile_not (· == (0x20 : Byte)) l.reverse
  rw [last] at this
  simp at this

theorem shortName_isEmpty (l : List Byte) : (shortName l).isEmpty = false ↔ ∃ c ∈ l, c ≠ 0x20 := by
  simp [shortName, List.isEmpty_eq_false_iff, List.dropWhile_eq_nil_iff]

/-! ## The form of a record -/

theorem lengthFits_iff (kind length : Nat) : lengthFits kind length = true ↔
    (kind = 1 ∧ length = 33) ∨ (kind = 2 ∧ length = 74) ∨ (kind = 3 ∧ length = 12) ∨ (kind = 4 ∧ 9 ≤ length) ∨
    (kind = 5 ∧ length = 22) := by
  unfold lengthFits
  split <;> simp_all

theorem lengthFits_long {kind length : Nat} (fits : lengthFits kind length = true) : 9 ≤ length := by
  rw [lengthFits_iff] at fits
  omega

theorem byteAt_take (bs : List Byte) {i n : Nat} (h : i < n) : byteAt (bs.take n) i = byteAt bs i := by
  simp [byteAt, List.getD_eq_getElem?_getD, h]

theorem word16_take (bs : List Byte) {i n : Nat} (h : i + 1 < n) : word16 (bs.take n) i = word16 bs i := by
  simp only [word16, byteAt_take bs (show i < n by omega), byteAt_take bs h]

theorem takeRecord_short {buf : List Byte} (short : buf.length < 3) (left : Nat) :
    takeRecord buf left = if left < 3 ∧ left ≤ buf.length then .malformed else .more := if_pos short

section
variable {buf : List Byte} {left : Nat} (three : 3 ≤ buf.length)
include three

theorem takeRecord_unfit (unfit : lengthFits (recordKind buf) (recordLength buf) ≠ true ∨ left < recordLength buf) :
    takeRecord buf left = .malformed := by
  rw [takeRecord, if_neg (by omega), if_pos (by simpa using unfit)]

theorem takeRecord_part (fits : lengthFits (recordKind buf) (recordLength buf) = true)
    (within : recordLength buf ≤ left) (part : buf.length < recordLength buf) : takeRecord buf left = .more := by
  rw [takeRecord, if_neg (by omega), if_neg (by simp [fits]; omega), if_pos part]

/-- A whole record is taken unless it is a ladder whose steps and tail ask another length (R44, R51). -/
theorem takeRecord_whole (fits : lengthFits (recordKind buf) (recordLength buf) = true)
    (within : recordLength buf ≤ left) (whole : recordLength buf ≤ buf.length) :
    takeRecord buf left =
      if recordKind buf = 4 ∧ recordLength buf ≠ ladderLength (buf.take (recordLength buf)) then .malformed
      else .record (buf.take (recordLength buf)) := by
  have long := lengthFits_long fits
  have kind : recordKind (buf.take (recordLength buf)) = recordKind buf := byteAt_take buf (by omega)
  have length : recordLength (buf.take (recordLength buf)) = recordLength buf := word16_take buf (by omega)
  rw [takeRecord, if_neg (by omega), if_neg (by simp [fits]; omega), if_neg (by omega)]
  simp only [kind, length, ne_comm]

end

/-- A record that is found is what the buffer begins with, nine bytes at least (R51). -/
theorem takeRecord_found {buf : List Byte} {left : Nat} {bs : List Byte} (h : takeRecord buf left = .record bs) :
    9 ≤ bs.length ∧ bs.length ≤ buf.length := by
  unfold takeRecord at h
  split at h
  · split at h <;> cases h
  · split at h
    · cases h
    · rename_i fit
      split at h
      · cases h
      · dsimp only at h
        split at h
        · cases h
        · cases h
          have long := lengthFits_long (kind := recordKind buf) (length := recordLength buf) (by
            simp only [not_or, Bool.not_eq_true'] at fit
            simpa using fit.1)
          rw [List.length_take]
          omega

/-! ## The checks of one record -/

theorem recordCrcOk_iff (bs : List Byte) : recordCrcOk bs = true ↔
    (crc16 (bs.take (bs.length - 2))).toNat = word16 bs (bs.length - 2) := beq_iff_eq

theorem sequenceOk_iff (v : Verify) (kind : Nat) : v.sequenceOk kind = true ↔
    (v.record = 1 ↔ kind = 1) ∧ v.group ≤ kind := by
  simp only [Verify.sequenceOk, Bool.and_eq_true, beq_iff_eq, decide_eq_true_eq]
  rw [Bool.eq_iff_iff, beq_iff_eq, beq_iff_eq]

/-- What the limits, order and links of a record's kind say of it (R51). -/
def judged (v : Verify) (bs : List Byte) : Except VerifyCheck Verify :=
  match recordKind bs with
  | 1 => v.takeHeader (headerOf bs)
  | 2 => v.takeService bs
  | 3 => v.takeZone (zoneOf bs)
  | 4 => v.takeLadder bs
  | _ => v.takeSurcharge bs

section
variable {v : Verify} {bs : List Byte}

theorem judged_header (kind : recordKind bs = 1) : judged v bs = v.takeHeader (headerOf bs) := by simp [judged, kind]

theorem judged_service (kind : recordKind bs = 2) : judged v bs = v.takeService bs := by simp [judged, kind]

theorem judged_zone (kind : recordKind bs = 3) : judged v bs = v.takeZone (zoneOf bs) := by simp [judged, kind]

theorem judged_ladder (kind : recordKind bs = 4) : judged v bs = v.takeLadder bs := by simp [judged, kind]

theorem judged_surcharge (kind : recordKind bs = 5) : judged v bs = v.takeSurcharge bs := by simp [judged, kind]

end

/-- The verifier past a record, `x` being what the record gave. -/
def past (v : Verify) (bs : List Byte) (x : Verify) : Verify :=
  { x with group := recordKind bs, record := v.record + 1, at_ := v.at_ + bs.length, buf := v.buf.drop bs.length }

section
variable {v : Verify} {bs : List Byte}

theorem takeOne_badCrc (bad : recordCrcOk bs ≠ true) : v.takeOne bs = .error .recordCrc := by
  simp [Verify.takeOne, bad]

theorem takeOne_disordered (good : recordCrcOk bs = true) (bad : v.sequenceOk (recordKind bs) ≠ true) :
    v.takeOne bs = .error .sequence := by
  simp [Verify.takeOne, good, bad]

/-- A record in its place is judged by its kind (R51). -/
theorem takeOne_judged (good : recordCrcOk bs = true) (ordered : v.sequenceOk (recordKind bs) = true) :
    v.takeOne bs = match judged v bs with | .error c => .error c | .ok x => .ok (past v bs x) := by
  simp only [Verify.takeOne, good, ordered, Bool.not_true, Bool.false_eq_true, if_false, judged, past] <;> rfl

theorem takeOne_fails (good : recordCrcOk bs = true) (ordered : v.sequenceOk (recordKind bs) = true) {c : VerifyCheck}
    (h : judged v bs = .error c) : v.takeOne bs = .error c := by rw [takeOne_judged good ordered, h]

theorem takeOne_takes (good : recordCrcOk bs = true) (ordered : v.sequenceOk (recordKind bs) = true) {x : Verify}
    (h : judged v bs = .ok x) : v.takeOne bs = .ok (past v bs x) := by rw [takeOne_judged good ordered, h]

end

/-! ## Headers (R41) -/

theorem leapYear_iff (y : Nat) : leapYear y = true ↔ y % 4 = 0 := beq_iff_eq

/-- The days of a month (R41). -/
theorem daysIn_month {m : Nat} (low : 1 ≤ m) (high : m ≤ 12) (y : Nat) : daysIn y m =
    if m = 2 then (if y % 4 = 0 then 29 else 28) else if m = 4 ∨ m = 6 ∨ m = 9 ∨ m = 11 then 30 else 31 := by
  have : m ∈ List.range' 1 12 := by simp; omega
  fin_cases this <;> simp [daysIn, leapYear_iff]

theorem inRange_iff (lo hi n : Nat) : inRange lo hi n = true ↔ lo ≤ n ∧ n ≤ hi := by
  simp only [inRange, Bool.and_eq_true, decide_eq_true_eq]

theorem valid_iff (m : Minute) : m.valid = true ↔ (2000 ≤ m.year ∧ m.year ≤ 2099) ∧ (1 ≤ m.month ∧ m.month ≤ 12) ∧
    (1 ≤ m.day ∧ m.day ≤ daysIn m.year m.month) ∧ m.hour ≤ 23 ∧ m.minute ≤ 59 := by
  simp only [Minute.valid, Bool.and_eq_true, decide_eq_true_eq]
  tauto

theorem headerOk_iff (h : Header) : headerOk h = true ↔
    (1 ≤ h.tariffId ∧ h.tariffId ≤ 65535) ∧ h.effective.valid = true ∧ h.tax ≤ 2500 ∧
    (h.granularity = 1 ∨ h.granularity = 5 ∨ h.granularity = 10) ∧ (1000 ≤ h.divisor ∧ h.divisor ≤ 10000) ∧
    (∀ n ∈ h.discounts, n ≤ 500) ∧ (1 ≤ h.nServices ∧ h.nServices ≤ 16) ∧ (1 ≤ h.nZones ∧ h.nZones ≤ 1000) ∧
    (1 ≤ h.nLadders ∧ h.nLadders ≤ 192) ∧ h.nSurcharges ≤ 32 := by
  simp only [headerOk, inRange_iff, Bool.and_eq_true, Bool.or_eq_true, decide_eq_true_eq, beq_iff_eq, List.all_eq_true,
    or_assoc, and_assoc]

/-- The limits of a header's bytes (R41). -/
theorem headerOk_bytes (bs : List Byte) : headerOk (headerOf bs) = true ↔
    1 ≤ word16 bs 3 ∧ byteAt bs 7 ≤ 99 ∧ (1 ≤ byteAt bs 8 ∧ byteAt bs 8 ≤ 12) ∧
    (1 ≤ byteAt bs 9 ∧ byteAt bs 9 ≤ if byteAt bs 8 = 2 then (if (2000 + byteAt bs 7) % 4 = 0 then 29 else 28)
      else if byteAt bs 8 = 4 ∨ byteAt bs 8 = 6 ∨ byteAt bs 8 = 9 ∨ byteAt bs 8 = 11 then 30 else 31) ∧
    byteAt bs 10 ≤ 23 ∧ byteAt bs 11 ≤ 59 ∧ word16 bs 12 ≤ 2500 ∧
    (byteAt bs 14 = 1 ∨ byteAt bs 14 = 5 ∨ byteAt bs 14 = 10) ∧ (1000 ≤ word16 bs 15 ∧ word16 bs 15 ≤ 10000) ∧
    (word16 bs 17 ≤ 500 ∧ word16 bs 19 ≤ 500 ∧ word16 bs 21 ≤ 500 ∧ word16 bs 23 ≤ 500) ∧
    (1 ≤ byteAt bs 25 ∧ byteAt bs 25 ≤ 16) ∧ (1 ≤ word16 bs 26 ∧ word16 bs 26 ≤ 1000) ∧
    (1 ≤ word16 bs 28 ∧ word16 bs 28 ≤ 192) ∧ byteAt bs 30 ≤ 32 := by
  have bound := word16_lt bs 3
  rw [headerOk_iff, valid_iff]
  by_cases month : 1 ≤ byteAt bs 8 ∧ byteAt bs 8 ≤ 12
  · rw [← daysIn_month month.1 month.2]
    simp only [headerOf, List.forall_mem_cons, List.not_mem_nil, false_implies, implies_true, and_true]
    omega
  · simp only [headerOf]
    omega

section
variable {v : Verify} {h : Header}

theorem takeHeader_unfit (unfit : headerOk h ≠ true) : v.takeHeader h = .error .fieldRange := by
  simp [Verify.takeHeader, unfit]

theorem takeHeader_fit (fits : headerOk h = true) : v.takeHeader h = .ok { v with header := some h } := by
  simp [Verify.takeHeader, fits]

end

/-! ## Services (R42) -/

theorem mem_zones {z : Nat} : z ∈ zones ↔ 1 ≤ z ∧ z ≤ 12 := by
  simp only [zones, List.mem_cons, List.not_mem_nil, or_false]
  omega

theorem offers_iff {v : Service} {z : Nat} : offers v z = true ↔ 1 ≤ z ∧ v.zoneMask.getLsbD (z - 1) = true := by
  simp only [offers, Bool.and_eq_true, decide_eq_true_eq]

theorem offset_of_zone (f : Nat → Nat) {z : Nat} (low : 1 ≤ z) (high : z ≤ 12) :
    (zones.map fun i => f (i - 1)).getD (z - 1) 0 = f (z - 1) := by
  have : z ∈ zones := mem_zones.mpr ⟨low, high⟩
  fin_cases this <;> rfl

theorem serviceRecordOk_iff (x : Service) (flags : Nat) (raw : List Byte) : serviceRecordOk x flags raw = true ↔
    (1 ≤ x.code ∧ x.code ≤ 16) ∧ (∀ c ∈ raw, nameChar c = true) ∧ x.name.isEmpty = false ∧
    (1 ≤ x.maxWeight ∧ x.maxWeight ≤ 30000) ∧ (1 ≤ x.maxLength ∧ x.maxLength ≤ 150) ∧
    (1 ≤ x.maxGirth ∧ x.maxGirth ≤ 300) ∧ flags < 4 ∧ x.cover ≤ 10000000 ∧ x.zoneMask ≠ 0 ∧ x.zoneMask.toNat < 4096 ∧
    ∀ z ∈ zones, offers x z = true ∨ x.offsets.getD (z - 1) 0 = 0 := by
  simp only [serviceRecordOk, serviceRecordOk.serviceCode, inRange_iff, Bool.and_eq_true, Bool.or_eq_true,
    decide_eq_true_eq, beq_iff_eq, bne_iff_ne, List.all_eq_true, Bool.not_eq_true', and_assoc]

/-- The limits of a service record's bytes (R42). -/
theorem serviceOk_bytes (bs : List Byte) (record : Nat) :
    serviceRecordOk (serviceOf bs record) (byteAt bs 17) ((bs.drop 4).take 8) = true ↔
    (1 ≤ byteAt bs 3 ∧ byteAt bs 3 ≤ 16) ∧ (∀ c ∈ (bs.drop 4).take 8, 0x20 ≤ c.toNat ∧ c.toNat ≤ 0x7E) ∧
    (∃ c ∈ (bs.drop 4).take 8, c ≠ 0x20) ∧ (1 ≤ word16 bs 12 ∧ word16 bs 12 ≤ 30000) ∧
    (1 ≤ byteAt bs 14 ∧ byteAt bs 14 ≤ 150) ∧ (1 ≤ word16 bs 15 ∧ word16 bs 15 ≤ 300) ∧ byteAt bs 17 < 4 ∧
    word32 bs 18 ≤ 10000000 ∧ BitVec.ofNat 16 (word16 bs 22) ≠ 0 ∧ (BitVec.ofNat 16 (word16 bs 22)).toNat < 4096 ∧
    (∀ z, 1 ≤ z → z ≤ 12 → (BitVec.ofNat 16 (word16 bs 22)).getLsbD (z - 1) = false →
      word32 bs (24 + 4 * (z - 1)) = 0) := by
  have character (c : Byte) : nameChar c = true ↔ 0x20 ≤ c.toNat ∧ c.toNat ≤ 0x7E := by
    simp only [nameChar, Bool.and_eq_true, decide_eq_true_eq]
  have offsets : (∀ z ∈ zones, offers (serviceOf bs record) z = true ∨
      (serviceOf bs record).offsets.getD (z - 1) 0 = 0) ↔
      ∀ z, 1 ≤ z → z ≤ 12 → (BitVec.ofNat 16 (word16 bs 22)).getLsbD (z - 1) = false →
        word32 bs (24 + 4 * (z - 1)) = 0 := by
    simp only [mem_zones, offers_iff, and_imp]
    refine forall₃_congr fun z low high => ?_
    rw [show (serviceOf bs record).offsets.getD (z - 1) 0 = word32 bs (24 + 4 * (z - 1)) from
      offset_of_zone (fun i => word32 bs (24 + 4 * i)) low high]
    show _ ∧ (BitVec.ofNat 16 (word16 bs 22)).getLsbD (z - 1) = true ∨ _ ↔ _
    cases (BitVec.ofNat 16 (word16 bs 22)).getLsbD (z - 1) <;> simp [low]
  rw [serviceRecordOk_iff, offsets, ← shortName_isEmpty]
  simp only [character]
  rfl

theorem serviceOf_bytes (bs : List Byte) (record : Nat) : serviceOf bs record = {
    code := byteAt bs 3, name := shortName ((bs.drop 4).take 8), maxWeight := word16 bs 12, maxLength := byteAt bs 14
    maxGirth := word16 bs 15, volumetric := byteAt bs 17 % 2 == 1, express := byteAt bs 17 / 2 % 2 == 1
    cover := word32 bs 18, zoneMask := BitVec.ofNat 16 (word16 bs 22)
    offsets := (List.range 12).map fun i => word32 bs (24 + 4 * i), record := record
    ladderRecords := List.replicate 12 0 } := by
  have offsets : (zones.map fun z => word32 bs (24 + 4 * (z - 1))) =
      (List.range 12).map fun i => word32 bs (24 + 4 * i) := by
    rw [show zones = (List.range 12).map (· + 1) from rfl, List.map_map]
    rfl
  have ladders : zones.map (fun _ => 0) = List.replicate 12 0 := rfl
  rw [serviceOf, offsets, ladders]

section
variable {v : Verify} {bs : List Byte}

theorem takeService_unfit (unfit : serviceRecordOk (serviceOf bs v.record) (byteAt bs 17) ((bs.drop 4).take 8) ≠ true) :
    v.takeService bs = .error .fieldRange := by
  simp [Verify.takeService, unfit]

theorem takeService_twice (fits : serviceRecordOk (serviceOf bs v.record) (byteAt bs 17) ((bs.drop 4).take 8) = true)
    (twice : ∃ y ∈ v.services, y.code = byteAt bs 3) : v.takeService bs = .error .duplicate := by
  have any : (v.services.any fun y => y.code == (serviceOf bs v.record).code) = true := by simpa [serviceOf] using twice
  simp [Verify.takeService, fits, any]

theorem takeService_new (fits : serviceRecordOk (serviceOf bs v.record) (byteAt bs 17) ((bs.drop 4).take 8) = true)
    (new : ∀ y ∈ v.services, y.code ≠ byteAt bs 3) :
    v.takeService bs = .ok { v with services := v.services ++ [serviceOf bs v.record] } := by
  have any : (v.services.any fun y => y.code == (serviceOf bs v.record).code) = false := by simpa [serviceOf] using new
  simp [Verify.takeService, fits, any]

end

/-! ## Zone ranges (R43) -/

theorem zoneOk_bytes (bs : List Byte) : zoneOk (zoneOf bs) = true ↔
    word16 bs 3 ≤ word16 bs 5 ∧ word16 bs 5 ≤ 999 ∧ (1 ≤ byteAt bs 7 ∧ byteAt bs 7 ≤ 12) ∧
    ((0x41 ≤ byteAt bs 8 ∧ byteAt bs 8 ≤ 0x5A) ∨ (0x30 ≤ byteAt bs 8 ∧ byteAt bs 8 ≤ 0x39)) ∧
    ((0x41 ≤ byteAt bs 9 ∧ byteAt bs 9 ≤ 0x5A) ∨ (0x30 ≤ byteAt bs 9 ∧ byteAt bs 9 ≤ 0x39)) := by
  have sort (i : Nat) : sortChar (bs.getD i 0) = true ↔
      (0x41 ≤ byteAt bs i ∧ byteAt bs i ≤ 0x5A) ∨ (0x30 ≤ byteAt bs i ∧ byteAt bs i ≤ 0x39) := by
    simp only [sortChar, byteAt, Bool.and_eq_true, Bool.or_eq_true, decide_eq_true_eq]
  simp only [zoneOk, inRange_iff, Bool.and_eq_true, decide_eq_true_eq]
  simp only [zoneOf, sort]
  omega

section
variable {v : Verify} {z : ZoneRange}

theorem takeZone_unfit (unfit : zoneOk z ≠ true) : v.takeZone z = .error .fieldRange := by
  simp [Verify.takeZone, unfit]

theorem takeZone_order (fits : zoneOk z = true) (below : ¬∀ h, v.lastHigh = some h → h < z.low) :
    v.takeZone z = .error .order := by
  have any : (v.lastHigh.any fun h => z.low ≤ h) = true := by cases h : v.lastHigh <;> simp_all
  simp [Verify.takeZone, fits, any]

theorem takeZone_above (fits : zoneOk z = true) (above : ∀ h, v.lastHigh = some h → h < z.low) :
    v.takeZone z = .ok { v with zones := v.zones + 1, lastHigh := some z.high } := by
  have any : (v.lastHigh.any fun h => z.low ≤ h) = false := by cases h : v.lastHigh <;> simp_all
  simp [Verify.takeZone, fits, any]

end

/-! ## Ladders (R44) -/

/-- The step at place j of a ladder's steps from an offset on. -/
def stepAt (bs : List Byte) (offset j : Nat) : Nat × Nat :=
  (word16 bs (offset + 6 * j), word32 bs (offset + 2 + 6 * j))

theorem stepsOf_eq_map (bs : List Byte) (n : Nat) : ∀ offset,
    stepsOf bs offset n = (List.range n).map (stepAt bs offset) := by
  induction n with
  | zero => intro offset; rfl
  | succ n ih =>
    intro offset
    rw [stepsOf, ih, List.range_succ_eq_map, List.map_cons, List.map_map]
    refine congrArg₂ _ rfl (List.map_congr_left fun j _ => ?_)
    simp only [stepAt, Function.comp_apply, Nat.succ_eq_add_one]
    refine congrArg₂ _ (congrArg _ ?_) (congrArg _ ?_) <;> omega

theorem stepsOrdered_iff : ∀ l : List (Nat × Nat),
    stepsOrdered l = true ↔ l.IsChain fun a b => a.1 < b.1 ∧ a.2 ≤ b.2
  | [] => by simp [stepsOrdered]
  | [_] => by simp [stepsOrdered]
  | a :: b :: rest => by
    simp only [stepsOrdered, Bool.and_eq_true, decide_eq_true_eq, List.isChain_cons_cons, stepsOrdered_iff (b :: rest)]

/-- The steps of a ladder's bytes rise (R44). -/
theorem stepsOrdered_bytes (bs : List Byte) : stepsOrdered (ladderOf bs).steps = true ↔
    ∀ i, i + 1 < byteAt bs 5 → word16 bs (6 + 6 * i) < word16 bs (6 + 6 * (i + 1)) ∧
      word32 bs (8 + 6 * i) ≤ word32 bs (8 + 6 * (i + 1)) := by
  rw [stepsOrdered_iff]
  show (stepsOf bs 6 (byteAt bs 5)).IsChain _ ↔ _
  rw [stepsOf_eq_map, List.isChain_map]
  cases byteAt bs 5 with
  | zero => simp
  | succ n =>
    rw [List.isChain_range_succ]
    simp only [Nat.add_lt_add_iff_right]
    rfl

theorem ladderOk_iff (l : Ladder) (services : List Service) (tail : Nat) : ladderOk l services tail = true ↔
    (∃ y ∈ services, y.code = l.service) ∧ (1 ≤ l.zone ∧ l.zone ≤ 12) ∧ (1 ≤ l.steps.length ∧ l.steps.length ≤ 64) ∧
    (∀ p ∈ l.steps, 1 ≤ p.1 ∧ p.1 ≤ 30000 ∧ p.2 ≤ 99999999) ∧ tail ≤ 1 ∧
    ∀ t, l.tail = some t → (10 ≤ t.1 ∧ t.1 ≤ 10000) ∧ (1 ≤ t.2 ∧ t.2 ≤ 100000) := by
  simp only [ladderOk, inRange_iff, Bool.and_eq_true, decide_eq_true_eq, List.any_eq_true, beq_iff_eq,
    List.all_eq_true, Option.all_eq_true, and_assoc]

/-- The limits of a ladder's bytes (R44). -/
theorem ladderOk_bytes (bs : List Byte) (services : List Service) :
    ladderOk (ladderOf bs) services (ladderTail bs) = true ↔
    (∃ y ∈ services, y.code = byteAt bs 3) ∧ (1 ≤ byteAt bs 4 ∧ byteAt bs 4 ≤ 12) ∧
    (1 ≤ byteAt bs 5 ∧ byteAt bs 5 ≤ 64) ∧
    (∀ i, i < byteAt bs 5 → 1 ≤ word16 bs (6 + 6 * i) ∧ word16 bs (6 + 6 * i) ≤ 30000 ∧
      word32 bs (8 + 6 * i) ≤ 99999999) ∧
    byteAt bs (6 + 6 * byteAt bs 5) ≤ 1 ∧
    (byteAt bs (6 + 6 * byteAt bs 5) = 1 →
      (10 ≤ word16 bs (7 + 6 * byteAt bs 5) ∧ word16 bs (7 + 6 * byteAt bs 5) ≤ 10000) ∧
      (1 ≤ word32 bs (9 + 6 * byteAt bs 5) ∧ word32 bs (9 + 6 * byteAt bs 5) ≤ 100000)) := by
  have steps : (ladderOf bs).steps = (List.range (byteAt bs 5)).map (stepAt bs 6) := stepsOf_eq_map bs _ 6
  rw [ladderOk_iff, steps]
  simp only [List.length_map, List.length_range, List.forall_mem_map, List.mem_range]
  refine and_congr_right' (and_congr_right' (and_congr_right' (and_congr_right' (and_congr_right fun low => ?_))))
  have tail : (ladderOf bs).tail = if byteAt bs (6 + 6 * byteAt bs 5) = 0 then none
      else some (word16 bs (7 + 6 * byteAt bs 5), word32 bs (9 + 6 * byteAt bs 5)) := rfl
  obtain zero | one : byteAt bs (6 + 6 * byteAt bs 5) = 0 ∨ byteAt bs (6 + 6 * byteAt bs 5) = 1 := by
    have : byteAt bs (6 + 6 * byteAt bs 5) ≤ 1 := low
    omega
  · simp [tail, zero]
  · simp [tail, one]

section
variable {v : Verify} {bs : List Byte}

theorem takeLadder_unfit (unfit : ladderOk (ladderOf bs) v.services (ladderTail bs) ≠ true) :
    v.takeLadder bs = .error .fieldRange := by
  simp [Verify.takeLadder, unfit]

variable (fits : ladderOk (ladderOf bs) v.services (ladderTail bs) = true)
include fits

theorem takeLadder_disordered (falls : stepsOrdered (ladderOf bs).steps ≠ true) : v.takeLadder bs = .error .order := by
  simp [Verify.takeLadder, fits, falls]

variable (rises : stepsOrdered (ladderOf bs).steps = true) {y : Service}
  (found : v.services.find? (fun y => y.code == byteAt bs 3) = some y)
include rises found

/-- A ladder within its limits and in order is judged by the service it names (R44, R51). -/
theorem takeLadder_service : v.takeLadder bs =
    if y.ladderRecords.getD (byteAt bs 4 - 1) 0 ≠ 0 then .error .duplicate
    else if y.zoneMask.getLsbD (byteAt bs 4 - 1) = false then .error .ladderUnoffered
    else if y.offsets.getD (byteAt bs 4 - 1) 0 ≠ v.at_ then .error .ladderOffset
    else .ok { v with
      ladders := v.ladders + 1
      services := v.services.map (fun o => if o.code = byteAt bs 3 then
        { o with ladderRecords := o.ladderRecords.set (byteAt bs 4 - 1) v.record } else o) } := by
  have low : 1 ≤ byteAt bs 4 := ((ladderOk_bytes bs v.services).mp fits).2.1.1
  have found : v.services.find? (fun x => x.code == (ladderOf bs).service) = some y := found
  have offered : offers y (ladderOf bs).zone = y.zoneMask.getLsbD (byteAt bs 4 - 1) := by
    simp [offers, ladderOf, low]
  simp only [Verify.takeLadder, fits, rises, found, offered, Bool.not_true, Bool.false_eq_true, if_false,
    Bool.not_eq_true']
  rfl

theorem takeLadder_twice (before : y.ladderRecords.getD (byteAt bs 4 - 1) 0 ≠ 0) :
    v.takeLadder bs = .error .duplicate := by
  rw [takeLadder_service fits rises found, if_pos before]

variable (free : y.ladderRecords.getD (byteAt bs 4 - 1) 0 = 0)
include free

theorem takeLadder_unoffered (unoffered : y.zoneMask.getLsbD (byteAt bs 4 - 1) = false) :
    v.takeLadder bs = .error .ladderUnoffered := by
  rw [takeLadder_service fits rises found, if_neg (not_not_intro free), if_pos unoffered]

variable (offered : y.zoneMask.getLsbD (byteAt bs 4 - 1) = true)
include offered

theorem takeLadder_elsewhere (elsewhere : y.offsets.getD (byteAt bs 4 - 1) 0 ≠ v.at_) :
    v.takeLadder bs = .error .ladderOffset := by
  rw [takeLadder_service fits rises found, if_neg (not_not_intro free), if_neg (ne_false_of_eq_true offered),
    if_pos elsewhere]

theorem takeLadder_here (here : y.offsets.getD (byteAt bs 4 - 1) 0 = v.at_) : v.takeLadder bs = .ok { v with
    ladders := v.ladders + 1
    services := v.services.map (fun o => if o.code = byteAt bs 3 then
      { o with ladderRecords := o.ladderRecords.set (byteAt bs 4 - 1) v.record } else o) } := by
  rw [takeLadder_service fits rises found, if_neg (not_not_intro free), if_neg (ne_false_of_eq_true offered),
    if_neg (not_not_intro here)]

end

/-! ## Surcharges (R45) -/

theorem surchargeKind_none {n : Nat} (outside : ¬(1 ≤ n ∧ n ≤ 7)) : surchargeKind n = none := by
  unfold surchargeKind
  split <;> simp_all

/-- The kinds of surcharge in the order of their numbers (R45). -/
def surchargeKinds : List SurchargeKind :=
  [.lengthOver, .girthOver, .weightOver, .irregular, .fragile, .signature, .declaredValue]

theorem surchargeKind_some {n : Nat} (low : 1 ≤ n) (high : n ≤ 7) : surchargeKind n = surchargeKinds[n - 1]? := by
  have : n ∈ List.range' 1 7 := by simp; omega
  fin_cases this <;> rfl

theorem surchargeKind_known {n : Nat} (range : 1 ≤ n ∧ n ≤ 7) : ∃ kind, surchargeKind n = some kind :=
  ⟨surchargeKinds[n - 1]'(by simp [surchargeKinds]; omega),
    (surchargeKind_some range.1 range.2).trans (List.getElem?_eq_getElem _)⟩

theorem mem_serviceCodes {n : Nat} : n ∈ serviceCodes ↔ 1 ≤ n ∧ n ≤ 16 := by
  simp only [serviceCodes, List.mem_cons, List.not_mem_nil, or_false]
  omega

theorem surchargeOk_iff (c : Surcharge) (services : List Service) (mode : Nat) : surchargeOk c services mode = true ↔
    (1 ≤ c.code ∧ c.code ≤ 32) ∧ thresholdOk c = true ∧ mode ≤ 1 ∧
    (if c.permille then c.amount ≤ 1000 else c.amount ≤ 99999999) ∧
    (if c.kind = .declaredValue then c.permille = false ∧ 1 ≤ c.unit ∧ c.unit ≤ 10000000 else c.unit = 0) ∧
    c.mask ≠ 0 ∧
    ∀ n, 1 ≤ n → n ≤ 16 → c.mask.getLsbD (n - 1) = true → ∃ y ∈ services, y.code = n := by
  have served : (serviceCodes.all fun n => !c.mask.getLsbD (n - 1) || services.any fun v => v.code == n) = true ↔
      ∀ n, 1 ≤ n → n ≤ 16 → c.mask.getLsbD (n - 1) = true → ∃ y ∈ services, y.code = n := by
    simp only [List.all_eq_true, mem_serviceCodes, and_imp, Bool.or_eq_true, Bool.not_eq_true', List.any_eq_true,
      beq_iff_eq, ← Bool.not_eq_true, ← imp_iff_not_or]
  simp only [surchargeOk, inRange_iff, Bool.and_eq_true, served, decide_eq_true_eq, bne_iff_ne, and_assoc]
  split <;> split <;> simp [*, inRange_iff]

theorem surchargeKind_range {n : Nat} {kind : SurchargeKind} (known : surchargeKind n = some kind) :
    n ∈ List.range' 1 7 := by
  by_contra outside
  rw [surchargeKind_none (by simp at outside; omega)] at known
  cases known

theorem declaredValue_iff {n : Nat} {kind : SurchargeKind} (known : surchargeKind n = some kind) :
    kind = .declaredValue ↔ n = 7 := by
  have := surchargeKind_range known
  fin_cases this <;> cases known <;> simp

theorem thresholdOk_iff {n : Nat} {c : Surcharge} (known : surchargeKind n = some c.kind) : thresholdOk c = true ↔
    c.threshold ≤ if n = 1 then 150 else if n = 2 then 300 else if n = 3 then 30000 else if n = 7 then 10000000
      else 0 := by
  have := surchargeKind_range known
  fin_cases this <;> simp only [surchargeKind, Option.some.injEq] at known <;> simp [thresholdOk, ← known]

/-- The limits of a surcharge's bytes, its kind being one (R45). -/
theorem surchargeOk_bytes (bs : List Byte) (services : List Service) {kind : SurchargeKind}
    (known : surchargeKind (byteAt bs 4) = some kind) :
    surchargeOk (surchargeOf bs kind) services (byteAt bs 9) = true ↔
    (1 ≤ byteAt bs 3 ∧ byteAt bs 3 ≤ 32) ∧ (1 ≤ byteAt bs 4 ∧ byteAt bs 4 ≤ 7) ∧
    word32 bs 5 ≤ (if byteAt bs 4 = 1 then 150 else if byteAt bs 4 = 2 then 300 else if byteAt bs 4 = 3 then 30000
      else if byteAt bs 4 = 7 then 10000000 else 0) ∧
    byteAt bs 9 ≤ 1 ∧ word32 bs 10 ≤ (if byteAt bs 9 = 0 then 99999999 else 1000) ∧
    (if byteAt bs 4 = 7 then byteAt bs 9 = 0 ∧ 1 ≤ word32 bs 14 ∧ word32 bs 14 ≤ 10000000 else word32 bs 14 = 0) ∧
    BitVec.ofNat 16 (word16 bs 18) ≠ 0 ∧
    (∀ n, 1 ≤ n → n ≤ 16 → (BitVec.ofNat 16 (word16 bs 18)).getLsbD (n - 1) = true →
      ∃ y ∈ services, y.code = n) := by
  have range : 1 ≤ byteAt bs 4 ∧ byteAt bs 4 ≤ 7 := by
    have := surchargeKind_range known
    simp at this
    omega
  rw [surchargeOk_iff, thresholdOk_iff (n := byteAt bs 4) known]
  simp only [surchargeOf, declaredValue_iff known, range, and_self, true_and]
  refine and_congr_right' (and_congr_right' (and_congr_right fun mode => ?_))
  obtain zero | one : byteAt bs 9 = 0 ∨ byteAt bs 9 = 1 := by omega
  · simp [zero]
  · simp [one]

/-- A new surcharge would be the ninth of a service (R45, R51). -/
def Ninth (v : Verify) (bs : List Byte) : Prop :=
  ∃ n, 1 ≤ n ∧ n ≤ 16 ∧ (BitVec.ofNat 16 (word16 bs 18)).getLsbD (n - 1) = true ∧
    8 ≤ (v.surcharges.filter fun o => o.mask.getLsbD (n - 1)).length

theorem ninth_iff (v : Verify) (bs : List Byte) (kind : SurchargeKind) :
    (serviceCodes.any fun n => (surchargeOf bs kind).mask.getLsbD (n - 1) &&
      8 ≤ (v.surcharges.filter fun o => o.mask.getLsbD (n - 1)).length) = true ↔ Ninth v bs := by
  simp only [List.any_eq_true, mem_serviceCodes, Bool.and_eq_true, decide_eq_true_eq, and_assoc]
  rfl

section
variable {v : Verify} {bs : List Byte}

theorem takeSurcharge_unknown (unknown : surchargeKind (byteAt bs 4) = none) :
    v.takeSurcharge bs = .error .fieldRange := by
  simp only [Verify.takeSurcharge, unknown]

variable {kind : SurchargeKind} (known : surchargeKind (byteAt bs 4) = some kind)
include known

theorem takeSurcharge_unfit (unfit : surchargeOk (surchargeOf bs kind) v.services (byteAt bs 9) ≠ true) :
    v.takeSurcharge bs = .error .fieldRange := by
  simp [Verify.takeSurcharge, known, unfit]

variable (fits : surchargeOk (surchargeOf bs kind) v.services (byteAt bs 9) = true)
include fits

theorem takeSurcharge_twice (twice : ∃ o ∈ v.surcharges, o.code = byteAt bs 3) :
    v.takeSurcharge bs = .error .duplicate := by
  have any : (v.surcharges.any fun o => o.code == (surchargeOf bs kind).code) = true := by
    simpa [surchargeOf] using twice
  simp [Verify.takeSurcharge, known, fits, any]

variable (new : ∀ o ∈ v.surcharges, o.code ≠ byteAt bs 3)
include new

theorem takeSurcharge_counted : v.takeSurcharge bs =
    if serviceCodes.any fun n => (surchargeOf bs kind).mask.getLsbD (n - 1) &&
        8 ≤ (v.surcharges.filter fun o => o.mask.getLsbD (n - 1)).length
    then .error .surchargeLimit else .ok { v with surcharges := v.surcharges ++ [surchargeOf bs kind] } := by
  have any : (v.surcharges.any fun o => o.code == (surchargeOf bs kind).code) = false := by
    simpa [surchargeOf] using new
  simp only [Verify.takeSurcharge, known, fits, any, Bool.not_true, Bool.false_eq_true, if_false]

theorem takeSurcharge_ninth (ninth : Ninth v bs) : v.takeSurcharge bs = .error .surchargeLimit := by
  rw [takeSurcharge_counted known fits new, if_pos ((ninth_iff v bs kind).mpr ninth)]

theorem takeSurcharge_new (room : ¬Ninth v bs) :
    v.takeSurcharge bs = .ok { v with surcharges := v.surcharges ++ [surchargeOf bs kind] } := by
  rw [takeSurcharge_counted known fits new, if_neg (mt (ninth_iff v bs kind).mp room)]

end

/-! ## What the records taken keep -/

/-- What a verification keeps from `v` to `w` while it takes records: what it verifies, the bytes taken into the CRC-32,
and, where they hold already, the codes distinct and the surcharges of a service at most eight. -/
structure Kept (v w : Verify) : Prop where
  bank : w.bank = v.bank
  length : w.length = v.length
  crc : w.crc = v.crc
  startUp : w.startUp = v.startUp
  got : w.got = v.got
  sum : w.sum = v.sum
  services : (v.services.map (·.code)).Nodup → (w.services.map (·.code)).Nodup
  surcharges : (v.surcharges.map (·.code)).Nodup → (w.surcharges.map (·.code)).Nodup
  limit : ∀ n, 1 ≤ n → n ≤ 16 → (v.surcharges.filter (fun o => o.mask.getLsbD (n - 1))).length ≤ 8 →
    (w.surcharges.filter (fun o => o.mask.getLsbD (n - 1))).length ≤ 8

namespace Kept

theorem refl (v : Verify) : Kept v v := ⟨rfl, rfl, rfl, rfl, rfl, rfl, id, id, fun _ _ _ => id⟩

theorem trans {u v w : Verify} (a : Kept u v) (b : Kept v w) : Kept u w :=
  ⟨b.bank.trans a.bank, b.length.trans a.length, b.crc.trans a.crc, b.startUp.trans a.startUp, b.got.trans a.got,
    b.sum.trans a.sum, b.services ∘ a.services, b.surcharges ∘ a.surcharges,
    fun n low high => b.limit n low high ∘ a.limit n low high⟩

end Kept

section
variable {v x : Verify} {bs : List Byte}

theorem takeHeader_kept {h : Header} (ok : v.takeHeader h = .ok x) : Kept v x := by
  unfold Verify.takeHeader at ok
  split at ok <;> cases ok
  exact ⟨rfl, rfl, rfl, rfl, rfl, rfl, id, id, fun _ _ _ => id⟩

/-- A code that no element has goes on a list of distinct codes. -/
theorem nodup_snoc {α : Type} {l : List α} {f : α → Nat} {a : α} (new : (l.any fun o => f o == f a) = false)
    (distinct : (l.map f).Nodup) : ((l ++ [a]).map f).Nodup := by
  rw [List.map_append, List.map_singleton]
  refine List.nodup_append.mpr ⟨distinct, List.nodup_singleton _, ?_⟩
  simp only [List.any_eq_false, beq_iff_eq] at new
  simpa using new

theorem takeService_kept (ok : v.takeService bs = .ok x) : Kept v x := by
  unfold Verify.takeService at ok
  dsimp only at ok
  split at ok
  · cases ok
  · split at ok
    · cases ok
    · rename_i new
      cases ok
      exact ⟨rfl, rfl, rfl, rfl, rfl, rfl, nodup_snoc (by simpa using new), id, fun _ _ _ => id⟩

theorem takeZone_kept {z : ZoneRange} (ok : v.takeZone z = .ok x) : Kept v x := by
  unfold Verify.takeZone at ok
  split at ok
  · cases ok
  · split at ok <;> cases ok
    exact ⟨rfl, rfl, rfl, rfl, rfl, rfl, id, id, fun _ _ _ => id⟩

theorem takeLadder_kept (ok : v.takeLadder bs = .ok x) : Kept v x := by
  have codes (zone record : Nat) (service : Nat) : (v.services.map fun y =>
      if y.code = service then Service.withLadder y zone record else y).map (·.code) = v.services.map (·.code) := by
    rw [List.map_map]
    refine List.map_congr_left fun y _ => ?_
    simp only [Function.comp_apply]
    split <;> rfl
  unfold Verify.takeLadder at ok
  dsimp only at ok
  split at ok
  · cases ok
  · split at ok
    · cases ok
    · split at ok
      · cases ok
      · split at ok
        · cases ok
        · split at ok
          · cases ok
          · split at ok <;> cases ok
            exact ⟨rfl, rfl, rfl, rfl, rfl, rfl, fun h => (codes _ _ _).symm ▸ h, id, fun _ _ _ => id⟩

theorem takeSurcharge_kept (ok : v.takeSurcharge bs = .ok x) : Kept v x := by
  unfold Verify.takeSurcharge at ok
  split at ok
  · cases ok
  · rename_i kind _
    dsimp only at ok
    split at ok
    · cases ok
    · split at ok
      · cases ok
      · rename_i new
        split at ok
        · cases ok
        · rename_i room
          cases ok
          refine ⟨rfl, rfl, rfl, rfl, rfl, rfl, id, nodup_snoc (by simpa using new), fun n low high most => ?_⟩
          simp only [List.any_eq_true, mem_serviceCodes, Bool.and_eq_true, decide_eq_true_eq, not_exists, not_and,
            Nat.not_le] at room
          rw [List.filter_append, List.length_append]
          by_cases names : (surchargeOf bs kind).mask.getLsbD (n - 1) = true
          · have := room n ⟨low, high⟩ names
            simp only [names, List.filter_singleton, cond_true, List.length_singleton]
            omega
          · simpa [List.filter_singleton, names] using most

theorem judged_kept (ok : judged v bs = .ok x) : Kept v x := by
  unfold judged at ok
  split at ok
  · exact takeHeader_kept ok
  · exact takeService_kept ok
  · exact takeZone_kept ok
  · exact takeLadder_kept ok
  · exact takeSurcharge_kept ok

/-- A record that is taken is passed over with what its kind's checks gave. -/
theorem takeOne_ok (ok : v.takeOne bs = .ok x) : ∃ y, judged v bs = .ok y ∧ x = past v bs y := by
  by_cases good : recordCrcOk bs = true
  · by_cases ordered : v.sequenceOk (recordKind bs) = true
    · rw [takeOne_judged good ordered] at ok
      split at ok
      · cases ok
      · rename_i y h
        cases ok
        exact ⟨y, h, rfl⟩
    · rw [takeOne_disordered good ordered] at ok
      cases ok
  · rw [takeOne_badCrc good] at ok
    cases ok

theorem takeOne_kept (ok : v.takeOne bs = .ok x) : Kept v x := by
  obtain ⟨y, h, rfl⟩ := takeOne_ok ok
  obtain ⟨bank, length, crc, startUp, got, sum, services, surcharges, limit⟩ := judged_kept h
  exact ⟨bank, length, crc, startUp, got, sum, services, surcharges, limit⟩

theorem takeOne_buf (ok : v.takeOne bs = .ok x) : x.buf = v.buf.drop bs.length := by
  obtain ⟨y, -, rfl⟩ := takeOne_ok ok
  rfl

end

/-! ## After the last record -/

/-- A service offers a zone that has no ladder (R51). -/
def Lacks (y : Service) : Prop :=
  ∃ z, 1 ≤ z ∧ z ≤ 12 ∧ y.zoneMask.getLsbD (z - 1) = true ∧ y.ladderRecords.getD (z - 1) 0 = 0

theorem lacks_iff (y : Service) :
    (zones.any fun z => offers y z && y.ladderRecords.getD (z - 1) 0 == 0) = true ↔ Lacks y := by
  simp only [List.any_eq_true, mem_zones, Bool.and_eq_true, offers_iff, beq_iff_eq, Lacks]
  exact exists_congr fun z => by tauto

theorem ladderMissing_none {l : List Service} : ladderMissing l = none ↔ ∀ y ∈ l, ¬Lacks y := by
  simp only [ladderMissing, Option.map_eq_none_iff, List.find?_eq_none, lacks_iff]

theorem ladderMissing_first {a z : List Service} {y : Service} (before : ∀ o ∈ a, ¬Lacks o) (lacks : Lacks y) :
    ladderMissing (a ++ y :: z) = some y.record := by
  have none_before :
      a.find? (fun x => zones.any fun z => offers x z && x.ladderRecords.getD (z - 1) 0 == 0) = none := by
    simpa only [List.find?_eq_none, lacks_iff] using before
  rw [ladderMissing, List.find?_append, none_before, List.find?_cons, (lacks_iff y).mpr lacks]
  rfl

section
variable {v : Verify}

theorem close_headless (none : v.header = none) : v.close = .failed .sequence v.record := by
  rw [Verify.close, none]

variable {h : Header} (header : v.header = some h)
include header

theorem close_counts (differ : ¬(v.services.length = h.nServices ∧ v.zones = h.nZones ∧ v.ladders = h.nLadders ∧
    v.surcharges.length = h.nSurcharges)) : v.close = .failed .countMismatch 0 := by
  simp only [Verify.close, header]
  rw [if_pos (by tauto)]

theorem close_agree (agree : v.services.length = h.nServices ∧ v.zones = h.nZones ∧ v.ladders = h.nLadders ∧
    v.surcharges.length = h.nSurcharges) : v.close = match ladderMissing v.services with
      | some n => .failed .ladderMissing n
      | none => if ~~~ v.sum = v.crc then .passed ⟨h, v.services, v.surcharges⟩ else .failed .imageCrc 0 := by
  simp only [Verify.close, header]
  rw [if_neg (by tauto)]
  split
  · simp only [*]
  · simp only [*, ite_not]

end

/-- An image passes with its counts right, its ladders there and its CRC-32 the declared one (R51). -/
theorem close_passed {v : Verify} {x : Summary} (passed : v.close = .passed x) :
    ~~~ v.sum = v.crc ∧ x.services = v.services ∧ x.surcharges = v.surcharges ∧
    x.services.length = x.header.nServices ∧ x.surcharges.length = x.header.nSurcharges ∧
    ∀ y ∈ x.services, ¬Lacks y := by
  cases header : v.header with
  | none => rw [close_headless header] at passed; cases passed
  | some h =>
    by_cases agree : v.services.length = h.nServices ∧ v.zones = h.nZones ∧ v.ladders = h.nLadders ∧
        v.surcharges.length = h.nSurcharges
    · rw [close_agree header agree] at passed
      split at passed
      · cases passed
      · rename_i ladders
        split at passed
        · rename_i crc
          cases passed
          exact ⟨crc, rfl, rfl, agree.1, agree.2.2.2, ladderMissing_none.mp ladders⟩
        · cases passed
    · rw [close_counts header agree] at passed
      cases passed

theorem close_ne_more (v w : Verify) : v.close ≠ .more w := by
  unfold Verify.close
  split
  · nofun
  · split
    · nofun
    · split
      · nofun
      · split <;> nofun

/-! ## Records taken one by one -/

section
variable {v : Verify} (n : Nat)

theorem advance_end (whole : v.length ≤ v.at_) : Verify.advance (n + 1) v = v.close := by
  rw [Verify.advance, if_pos whole]

variable (left : v.at_ < v.length)
include left

theorem advance_more (more : takeRecord v.buf (v.length - v.at_) = .more) : Verify.advance (n + 1) v = .more v := by
  rw [Verify.advance, if_neg (by omega), more]

theorem advance_malformed (bad : takeRecord v.buf (v.length - v.at_) = .malformed) :
    Verify.advance (n + 1) v = .failed .recordForm v.record := by
  rw [Verify.advance, if_neg (by omega), bad]

variable {bs : List Byte} (found : takeRecord v.buf (v.length - v.at_) = .record bs)
include found

theorem advance_fails {c : VerifyCheck} (fails : v.takeOne bs = .error c) :
    Verify.advance (n + 1) v = .failed c v.record := by
  rw [Verify.advance, if_neg (by omega), found]
  simp only [fails]

theorem advance_takes {w : Verify} (takes : v.takeOne bs = .ok w) : Verify.advance (n + 1) v = Verify.advance n w := by
  rw [Verify.advance, if_neg (by omega), found]
  simp only [takes]

end

/-- Where the records taken one by one end: with fuel for every byte held, every whole record is taken (R51). -/
theorem advance_cases (n : Nat) : ∀ v : Verify, v.buf.length < n → ∃ w, Kept v w ∧
    (Verify.advance n v = w.close ∨ (∃ c, Verify.advance n v = .failed c w.record) ∨
      (Verify.advance n v = .more w ∧ w.at_ < w.length ∧ takeRecord w.buf (w.length - w.at_) = .more)) := by
  induction n with
  | zero => nofun
  | succ n ih =>
    intro v fuel
    obtain whole | left := Nat.lt_or_ge v.at_ v.length |>.symm
    · exact ⟨v, .refl v, .inl (advance_end n whole)⟩
    · cases found : takeRecord v.buf (v.length - v.at_) with
      | more => exact ⟨v, .refl v, .inr (.inr ⟨advance_more n left found, left, found⟩)⟩
      | malformed => exact ⟨v, .refl v, .inr (.inl ⟨_, advance_malformed n left found⟩)⟩
      | record bs =>
        cases taken : v.takeOne bs with
        | error c => exact ⟨v, .refl v, .inr (.inl ⟨_, advance_fails n left found taken⟩)⟩
        | ok w =>
          have long := takeRecord_found found
          obtain ⟨u, kept, outcome⟩ := ih w (by rw [takeOne_buf taken, List.length_drop]; omega)
          rw [advance_takes n left found taken]
          exact ⟨u, (takeOne_kept taken).trans kept, outcome⟩

/-- The verifier with the bytes of a read added to those it holds. -/
def fed (v : Verify) (bs : List Byte) : Verify :=
  { v with got := v.got + bs.length, buf := v.buf ++ bs, sum := crc32More v.sum bs }

/-- Where a read leads (R51). -/
theorem feed_cases (v : Verify) (bs : List Byte) : ∃ w, Kept (fed v bs) w ∧
    (v.feed bs = w.close ∨ (∃ c, v.feed bs = .failed c w.record) ∨
      (v.feed bs = .more w ∧ w.at_ < w.length ∧ takeRecord w.buf (w.length - w.at_) = .more)) :=
  advance_cases _ (fed v bs) (Nat.lt_succ_self _)

theorem feed_more {v w : Verify} {bs : List Byte} (more : v.feed bs = .more w) :
    Kept (fed v bs) w ∧ w.at_ < w.length ∧ takeRecord w.buf (w.length - w.at_) = .more := by
  obtain ⟨u, kept, closes | ⟨c, fails⟩ | ⟨goes, left, held⟩⟩ := feed_cases v bs
  · exact absurd (closes.symm.trans more) (close_ne_more u w)
  · cases fails.symm.trans more
  · cases goes.symm.trans more
    exact ⟨kept, left, held⟩

theorem feed_passed {v : Verify} {bs : List Byte} {x : Summary} (passed : v.feed bs = .passed x) :
    ∃ w, Kept (fed v bs) w ∧ w.close = .passed x := by
  obtain ⟨u, kept, closes | ⟨c, fails⟩ | ⟨goes, -, -⟩⟩ := feed_cases v bs
  · exact ⟨u, kept, closes.symm.trans passed⟩
  · cases fails.symm.trans passed
  · cases goes.symm.trans passed

/-- Settles O25: each check by the lemma of its record's kind, and a verification by what each record keeps. -/
theorem passedImageIsWhole : Obligations.PassedImageIsWhole := by
  refine ⟨fun _ _ _ _ => ⟨rfl, rfl, rfl, rfl⟩, ?more, crc32More_append, ?form, ?record,
    fun l => ⟨shortName_spaces l, shortName_last l⟩, ?close, ?advance, fun _ _ => rfl, ?passed⟩
  case more =>
    intro v w bs more
    obtain ⟨⟨bank, length, crc, startUp, got, sum, services, surcharges, limit⟩, left, held⟩ := feed_more more
    exact ⟨bank, length, crc, startUp, got, sum, left, held, services, surcharges, limit⟩
  case form =>
    intro buf left
    dsimp only
    refine ⟨fun short => takeRecord_short short left, fun three => ⟨fun unfit => ?_, fun fits within part => ?_,
      fun fits within whole => ?_⟩⟩
    · exact takeRecord_unfit three (unfit.imp_left (mt (lengthFits_iff _ _).mp))
    · exact takeRecord_part three ((lengthFits_iff _ _).mpr fits) within part
    · exact takeRecord_whole three ((lengthFits_iff _ _).mpr fits) within whole
  case record =>
    intro v bs
    refine ⟨fun bad => takeOne_badCrc (mt (recordCrcOk_iff bs).mp bad), fun good bad => takeOne_disordered
      ((recordCrcOk_iff bs).mpr good) (mt (sequenceOk_iff v _).mp bad), ?_, ?_, ?_, ?_, ?_⟩
    all_goals
      intro good ordered kind
      replace good := (recordCrcOk_iff bs).mpr good
      replace ordered := (sequenceOk_iff v (recordKind bs)).mpr ordered
    · have header := judged_header (v := v) kind
      refine ⟨fun unfit => takeOne_fails good ordered (header.trans ?_), fun fits => takeOne_takes good ordered
        (header.trans ?_)⟩
      · exact takeHeader_unfit (mt (headerOk_bytes bs).mp unfit)
      · exact takeHeader_fit ((headerOk_bytes bs).mpr fits)
    · have service := judged_service (v := v) kind
      have limits := serviceOk_bytes bs v.record
      refine ⟨fun unfit => takeOne_fails good ordered (service.trans ?_), fun fits twice =>
        takeOne_fails good ordered (service.trans ?_), fun fits new => takeOne_takes good ordered (service.trans ?_)⟩
      · exact takeService_unfit (mt limits.mp unfit)
      · exact takeService_twice (limits.mpr fits) twice
      · rw [takeService_new (limits.mpr fits) new, serviceOf_bytes]
        rfl
    · have zone := judged_zone (v := v) kind
      have limits := zoneOk_bytes bs
      refine ⟨fun unfit => takeOne_fails good ordered (zone.trans ?_), fun fits below =>
        takeOne_fails good ordered (zone.trans ?_), fun fits above => takeOne_takes good ordered (zone.trans ?_)⟩
      · exact takeZone_unfit (mt limits.mp unfit)
      · exact takeZone_order (limits.mpr fits) below
      · exact takeZone_above (limits.mpr fits) above
    · have ladder := judged_ladder (v := v) kind
      have limits := ladderOk_bytes bs v.services
      have order := stepsOrdered_bytes bs
      refine ⟨fun unfit => takeOne_fails good ordered (ladder.trans ?_), fun fits falls =>
        takeOne_fails good ordered (ladder.trans ?_), fun y fits rises found => ?_⟩
      · exact takeLadder_unfit (mt limits.mp unfit)
      · exact takeLadder_disordered (limits.mpr fits) (mt order.mp falls)
      replace fits := limits.mpr fits
      replace rises := order.mpr rises
      refine ⟨fun before => takeOne_fails good ordered (ladder.trans ?_), fun free unoffered =>
        takeOne_fails good ordered (ladder.trans ?_), fun free offered elsewhere =>
        takeOne_fails good ordered (ladder.trans ?_), fun free offered here =>
        takeOne_takes good ordered (ladder.trans ?_)⟩
      · exact takeLadder_twice fits rises found before
      · exact takeLadder_unoffered fits rises found free unoffered
      · exact takeLadder_elsewhere fits rises found free offered elsewhere
      · exact takeLadder_here fits rises found free offered here
    · have surcharge := judged_surcharge (v := v) kind
      have limits {kind : SurchargeKind} (known : surchargeKind (byteAt bs 4) = some kind) :=
        surchargeOk_bytes bs v.services known
      refine ⟨fun unfit => takeOne_fails good ordered (surcharge.trans ?_), fun fits twice => ?_,
        fun fits new ninth => ?_, fun kind fits new room named => takeOne_takes good ordered (surcharge.trans ?_)⟩
      · cases known : surchargeKind (byteAt bs 4) with
        | none => exact takeSurcharge_unknown known
        | some kind => exact takeSurcharge_unfit known (mt (limits known).mp unfit)
      · obtain ⟨kind, known⟩ := surchargeKind_known fits.2.1
        exact takeOne_fails good ordered (surcharge.trans (takeSurcharge_twice known ((limits known).mpr fits) twice))
      · obtain ⟨kind, known⟩ := surchargeKind_known fits.2.1
        exact takeOne_fails good ordered
          (surcharge.trans (takeSurcharge_ninth known ((limits known).mpr fits) new ninth))
      · have known : surchargeKind (byteAt bs 4) = some kind := (surchargeKind_some fits.2.1.1 fits.2.1.2).trans named
        exact takeSurcharge_new known ((limits known).mpr fits) new room
  case close =>
    intro v
    refine ⟨close_headless, fun h header => ⟨close_counts header, fun a y z agree parts before lacks => ?_,
      fun agree complete => ?_⟩⟩
    · rw [close_agree header agree, parts, ladderMissing_first before lacks]
    · rw [close_agree header agree, ladderMissing_none.mpr complete]
  case advance =>
    exact fun v n => ⟨advance_end n, fun left => ⟨advance_more n left, advance_malformed n left, fun bs found =>
      ⟨fun c => advance_fails n left found, fun w => advance_takes n left found⟩⟩⟩
  case passed =>
    intro v bs x passed
    obtain ⟨w, kept, closes⟩ := feed_passed passed
    obtain ⟨crc, services, surcharges, nServices, nSurcharges, ladders⟩ := close_passed closes
    have declared : ~~~ crc32More v.sum bs = v.crc := by
      have := crc
      rw [kept.sum, kept.crc] at this
      exact this
    refine ⟨declared, nServices, nSurcharges, fun y mem z low high offered zero =>
      ladders y mem ⟨z, low, high, offered, zero⟩, ?_, ?_, ?_⟩
    · exact services ▸ kept.services
    · exact surcharges ▸ kept.surcharges
    · exact surcharges ▸ kept.limit

end Sys2Proof.Machine.ImageChecks
end

section
/-! PROOFS of 03_tariff_image_and_banks.md: the port (R57), the state records (R38, R50), and the requests that load,
close and discard a bank (R46 to R49). -/

namespace Sys2Proof.Machine.TariffBanks

/-! ## The port (R57) -/

/-- Settles O15: by whether an access is in progress, and by the first class that waits. -/
theorem portServesByClass : Obligations.PortServesByClass := by
  intro p a
  refine ⟨fun free => ?_, fun taken => ?_, fun w walk => ?_, fun v walk verification => ?_,
    fun x rest walk verification programming => ?_, fun walk verification programming => ?_⟩
  · simp only [Port.ask, free]
  · obtain ⟨b, current⟩ := Option.ne_none_iff_exists'.mp taken
    cases a <;> simp only [Port.ask, current]
  · simp only [Port.complete, walk]
  · simp only [Port.complete, walk, verification]
  · simp only [Port.complete, walk, verification, programming]
  · simp only [Port.complete, walk, verification, programming]

theorem asks_append (p : Port) (l m : List Access) : p.asks (l ++ m) = (p.asks l).asks m := List.foldl_append ..

/-- Accesses asked one after another, as a fold over what they are of. -/
theorem foldl_ask {α : Type} (f : α → Access) (l : List α) :
    ∀ s : State, l.foldl (fun s x => s.ask (f x)) s = s.onPort fun p => p.asks (l.map f) := by
  induction l with
  | nil => exact fun _ => rfl
  | cons x rest ih => exact fun s => ih (s.ask (f x))

/-! ## The completion of a programming access -/

section
variable {s : State} (running : s.running = true)
include running

/-- A programming access that completes moves the port on and then takes effect (R57). -/
theorem exec_programming {a : Access} (now : s.programmingNow = some a) (ok : Bool) :
    exec (.programmingAccessComplete ok) s = .next ((s.onPort (Port.finish a ok)).programmingDone a ok) := by
  show Host.Outcome.next (s.whenRunning _) = _
  rw [State.whenRunning, if_pos running, now]

theorem exec_programming_none (now : s.programmingNow = none) (ok : Bool) :
    exec (.programmingAccessComplete ok) s = .next s := by
  show Host.Outcome.next (s.whenRunning _) = _
  rw [State.whenRunning, if_pos running, now]

end

/-- Whatever a programming access does, it is an operation of the Tariff Controller and its port. -/
theorem programming_tariff (s : State) (a : Access) (ok : Bool) :
    TariffFrame s ((s.onPort (Port.finish a ok)).programmingDone a ok) :=
  (TariffFrame.viaPort s _).andThen (State.programmingDone_tariff _ _ _)

/-! ## State records (R38, R50) -/

section
variable {s : State} {k : Bank}

theorem programmingNow_recordErase (current : s.port.current = some (.recordErase k)) :
    s.programmingNow = some (.recordErase k) := by
  rw [State.programmingNow, current]

theorem programmingNow_recordProgram {r : StateRecord} (current : s.port.current = some (.recordProgram k r)) :
    s.programmingNow = some (.recordProgram k r) := by
  rw [State.programmingNow, current]

/-- The program of a state record leaves the sector and the mark as a failure does where its erase has failed (R50). -/
theorem programmingDone_recordProgram_fails {ok : Bool} {r : StateRecord}
    (fails : ¬(ok = true ∧ (s.tariff.banks.get k).eraseFailed = false)) :
    s.programmingDone (.recordProgram k r) ok = (s.spoilRecord k).onBank k fun b => { b with recordFault := true } :=
  if_neg (by simpa using fails)

end

/-- The record a rewrite programs, with the sequence number it takes (R38). -/
def recordOf (seq : BitVec 32) (st : RecordedState) (d : Option Description) : StateRecord :=
  let tariff := (d.bind (·.tariff)).getD (0, 0, ⟨0, 0, 0, 0, 0⟩)
  writtenStateRecord
    { seq := seq, state := st, length := (d.map (·.length)).getD 0, crc := (d.map (·.crc)).getD 0
      tariffId := tariff.1, version := tariff.2.1, effective := tariff.2.2 }

theorem recordOf_written (seq : BitVec 32) (st : RecordedState) (d : Option Description) :
    recordSays (recordOf seq st d) seq st d :=
  ⟨rfl, rfl, rfl, rfl, by rintro y rfl; exact ⟨rfl, rfl, by rintro _ _ _ h; simp [recordOf, writtenStateRecord, h]⟩⟩

theorem rewriteRecord_eq (s : State) (k : Bank) (st : RecordedState) (d : Option Description) :
    s.rewriteRecord k st d = { s with
      tariff := { s.tariff with recordSeq := s.tariff.recordSeq + 1 }
      port := s.port.asks [.recordErase k, .recordProgram k (recordOf (s.tariff.recordSeq + 1) st d)] } := rfl

/-- Settles O17: by the access of the rewrite and whether it succeeded. -/
theorem recordRewriteCompletes : Obligations.RecordRewriteCompletes := by
  refine ⟨State.rewriteRecord_says, readStateRecord_eq_some, ?_⟩
  rintro s k ok record running a current (rfl | rfl)
  · refine ⟨_, exec_programming running (programmingNow_recordErase current) ok, programming_tariff s _ ok, ?_⟩
    cases ok <;> simp [State.programmingDone, Port.finish, State.spoilRecord, State.draw]
  · refine ⟨_, exec_programming running (programmingNow_recordProgram current) ok, programming_tariff s _ ok, ?_⟩
    by_cases good : ok = true ∧ (s.tariff.banks.get k).eraseFailed = false
    · obtain ⟨rfl, erased⟩ := good
      simp [State.programmingDone, Port.finish, erased]
    · rw [programmingDone_recordProgram_fails (s := s.onPort _) (by simpa using good)]
      have port : s.port.finish (.recordProgram k record) ok = s.port.complete := by cases ok <;> rfl
      simpa [State.spoilRecord, State.draw, port] using good

/-! ## T_OPEN (R46) -/

section
variable {s : State} {i : SlotId} (takes : s.takes i) (tag : Byte)
include takes

theorem exec_tOpen (bank : Option Bank) (length : Nat) (crc : BitVec 32) :
    exec (.tOpen tag bank length crc) s = .next (serveTOpen bank length crc i (s.held i tag .tOpen)) :=
  congrArg _ (s.request_takes takes tag .tOpen _)

theorem exec_tClose : exec (.tClose tag) s = .next (serveTClose i (s.held i tag .tClose)) :=
  congrArg _ (s.request_takes takes tag .tClose _)

theorem exec_tDiscard (bank : Option Bank) :
    exec (.tDiscard tag bank) s = .next (serveTDiscard bank i (s.held i tag .tDiscard)) :=
  congrArg _ (s.request_takes takes tag .tDiscard _)

/-- A T_DATA of a piece that is not too long is served (R47). -/
theorem exec_tData {data : List Byte} (fits : data.length ≤ 512) (offset : Nat) :
    exec (.tData tag offset data) s = .next (serveTData offset data i (s.held i tag .tData)) := by
  have fits : pieceFits data = true := decide_eq_true fits
  show Host.Outcome.next (s.whenRunning _) = _
  rw [fits]
  exact congrArg _ (s.request_takes takes tag .tData _)

theorem exec_tData_long {data : List Byte} (long : 512 < data.length) (offset : Nat) :
    exec (.tData tag offset data) s = s.answers i tag .tData .badLength := by
  have long : pieceFits data = false := decide_eq_false (Nat.not_le.mpr long)
  obtain ⟨running, -, free⟩ := takes
  show Host.Outcome.next (s.whenRunning _) = _
  simp only [State.whenRunning, if_pos running, State.dispatch, free, long]
  exact congrArg _ (s.answer_held i tag .tData _)

end

/-- The erases of a session are asked sector by sector (R46). -/
theorem askErases_asks (k : Bank) (id : Nat) : ∀ (n first : Nat) (s : State),
    State.askErases k id n first s = s.onPort fun p => p.asks ((List.range' first n).map fun j => .erase k j id)
  | 0, _, _ => rfl
  | n + 1, first, s => askErases_asks k id n (first + 1) (s.ask (.erase k first id))

/-- The bank's state decides what a T_OPEN within its limits is refused (R46). -/
theorem openRefusal_eq_none {s : State} {k : Bank}
    (free : s.bankState k = .empty ∨ s.bankState k = .staged ∨ s.bankState k = .damaged)
    (alone : s.bankState k.other ≠ .loading) : s.openRefusal k = none := by
  obtain h | h | h := free <;> rw [State.openRefusal, h] <;> exact if_neg alone

theorem openRefusal_loadOpen {s : State} {k : Bank}
    (free : s.bankState k = .empty ∨ s.bankState k = .staged ∨ s.bankState k = .damaged)
    (load : s.bankState k.other = .loading) : s.openRefusal k = some .loadOpen := by
  obtain h | h | h := free <;> rw [State.openRefusal, h] <;> exact if_pos load

theorem openRefusal_active {s : State} {k : Bank} (active : s.bankState k = .active) :
    s.openRefusal k = some .bankActive := by
  rw [State.openRefusal, active]

theorem openRefusal_busy {s : State} {k : Bank} (busy : s.bankState k = .loading ∨ s.bankState k = .verifying) :
    s.openRefusal k = some .bankBusy := by
  obtain h | h := busy <;> rw [State.openRefusal, h]

/-- The rewrite to LOADING goes before the erases (R46). -/
theorem openSession_says (s : State) (k : Bank) (length : Nat) (crc : BitVec 32) (i : SlotId) :
    ∃ r, recordSays r (s.tariff.recordSeq + 1) .loading (some ⟨length, crc, none⟩) ∧
      s.openSession k length crc i = { s with
        tariff := { s.tariff with
          banks := s.tariff.banks.set k { s.tariff.banks.get k with
            state := .loading, description := none
            lastResult := if (s.tariff.banks.get k).state = .empty then (s.tariff.banks.get k).lastResult else none }
          session := some ⟨k, s.tariff.sessions + 1, length, crc, 0, true, (length + 4095) / 4096, i⟩
          sessions := s.tariff.sessions + 1
          staged := if (s.tariff.banks.get k).state = .staged then none else s.tariff.staged
          recordSeq := s.tariff.recordSeq + 1 }
        port := s.port.asks ([.recordErase k, .recordProgram k r] ++
          (List.range ((length + 4095) / 4096)).map fun n => .erase k n (s.tariff.sessions + 1)) } := by
  have sectors : ceilDiv length Config.sectorBytes = (length + 4095) / 4096 := rfl
  unfold State.openSession
  dsimp only
  rw [sectors, askErases_asks, ← List.range_eq_range']
  refine ⟨_, recordOf_written _ _ _, ?_⟩
  rw [rewriteRecord_eq, asks_append]
  rfl

/-- Settles O19: the refusals by the length and the bank's state; an accepted load by what it asks of the port. -/
theorem loadOpens : Obligations.LoadOpens := by
  intro s i tag length crc takes
  refine ⟨?_, fun k outside => ?_, fun k low high => ?_⟩
  · exact (exec_tOpen takes tag ..).trans (congrArg _ (s.answer_held i tag .tOpen _))
  · have outside : length < 1 ∨ Config.imageBytes < length := outside
    rw [exec_tOpen takes, serveTOpen, if_pos outside]
    exact congrArg _ (s.answer_held i tag .tOpen _)
  · have within : ¬(length < 1 ∨ Config.imageBytes < length) := by simp only [Config.imageBytes]; omega
    have refused {r : Reason} (h : (s.held i tag .tOpen).openRefusal k = some r) :
        exec (.tOpen tag (some k) length crc) s = s.refuses i tag .tOpen r := by
      rw [exec_tOpen takes, serveTOpen, if_neg within, h]
      exact congrArg _ (s.answer_held i tag .tOpen _)
    refine ⟨fun active => refused ?_, fun busy => refused ?_, fun free => ⟨fun load => refused ?_, fun alone => ?_⟩⟩
    · exact openRefusal_active active
    · exact openRefusal_busy busy
    · exact openRefusal_loadOpen free load
    · obtain ⟨r, record, opens⟩ := openSession_says (s.held i tag .tOpen) k length crc i
      have accepted : (s.held i tag .tOpen).openRefusal k = none := openRefusal_eq_none free alone
      refine ⟨s.tariff.sessions + 1, r, record, ?_⟩
      rw [exec_tOpen takes, serveTOpen, if_neg within, accepted]
      exact congrArg _ opens

/-! ## T_DATA (R47) -/

/-- What the page of an image offset has room for from there on (R47). -/
def room (offset : Nat) : Nat := 256 - offset % 256

theorem pagesOf_nil (fuel offset : Nat) : pagesOf fuel offset [] = [] := by
  cases fuel <;> rfl

/-- The first page program takes what its page has room for, and the others the rest (R47). -/
theorem pagesOf_some {bs : List Byte} (some : bs ≠ []) (fuel offset : Nat) : pagesOf (fuel + 1) offset bs =
    (offset, bs.take (room offset)) :: pagesOf fuel (offset + room offset) (bs.drop (room offset)) := by
  cases bs with
  | nil => contradiction
  | cons b rest => rfl

theorem room_pos (offset : Nat) : 0 < room offset := by
  unfold room
  omega

/-- The page programs carry the whole piece. -/
theorem pagesOf_whole (fuel : Nat) : ∀ (offset : Nat) (bs : List Byte), bs.length ≤ fuel →
    ((pagesOf fuel offset bs).map (·.2)).flatten = bs := by
  induction fuel with
  | zero =>
    intro offset bs short
    rw [List.length_eq_zero_iff.mp (Nat.le_zero.mp short)]
    rfl
  | succ fuel ih =>
    intro offset bs short
    by_cases some : bs = []
    · rw [some, pagesOf_nil]
      rfl
    · have := room_pos offset
      rw [pagesOf_some some, List.map_cons, List.flatten_cons, ih _ _ (by rw [List.length_drop]; omega),
        List.take_append_drop]

/-- A page program carries bytes of one page, one at least. -/
theorem pagesOf_within (fuel : Nat) : ∀ (offset : Nat) (bs : List Byte), ∀ p ∈ pagesOf fuel offset bs,
    p.2 ≠ [] ∧ p.1 / 256 = (p.1 + p.2.length - 1) / 256 := by
  induction fuel with
  | zero => exact fun _ _ => List.forall_mem_nil _
  | succ fuel ih =>
    intro offset bs
    by_cases some : bs = []
    · rw [some, pagesOf_nil]
      exact List.forall_mem_nil _
    · rw [pagesOf_some some]
      refine List.forall_mem_cons.mpr ⟨⟨?_, ?_⟩, ih _ _⟩
      · simp [some, (room_pos offset).ne']
      · have := List.length_pos_iff.mpr some
        simp only [List.length_take, room]
        omega

/-- Each page program goes on where those before it end. -/
theorem pagesOf_inOrder (fuel : Nat) : ∀ (offset : Nat) (bs : List Byte) (n : Nat) (p : Nat × List Byte),
    (pagesOf fuel offset bs)[n]? = some p →
      p.1 = offset + ((((pagesOf fuel offset bs).take n).map (·.2)).flatten).length := by
  induction fuel with
  | zero => exact fun _ _ _ _ h => by simp [pagesOf] at h
  | succ fuel ih =>
    intro offset bs n p at_n
    by_cases some : bs = []
    · simp [some, pagesOf_nil] at at_n
    · rw [pagesOf_some some] at at_n ⊢
      cases n with
      | zero =>
        cases at_n
        rfl
      | succ n =>
        rw [List.getElem?_cons_succ] at at_n
        have goes_on : bs.drop (room offset) ≠ [] := by
          intro ends
          simp [ends, pagesOf_nil] at at_n
        have full : (bs.take (room offset)).length = room offset := by
          rw [List.length_take]
          have := mt List.drop_eq_nil_iff.mpr goes_on
          omega
        rw [ih _ _ _ _ at_n]
        simp only [List.take_succ_cons, List.map_cons, List.flatten_cons, List.length_append, full]
        omega

/-- There is one page program for each page the piece touches. -/
theorem pagesOf_length (fuel : Nat) : ∀ (offset : Nat) (bs : List Byte), bs.length ≤ fuel → bs ≠ [] →
    (pagesOf fuel offset bs).length = (offset + bs.length - 1) / 256 - offset / 256 + 1 := by
  induction fuel with
  | zero => exact fun _ bs short some => absurd (List.length_eq_zero_iff.mp (Nat.le_zero.mp short)) some
  | succ fuel ih =>
    intro offset bs short some
    have bytes := List.length_pos_iff.mpr some
    have inside : room offset = 256 - offset % 256 := rfl
    rw [pagesOf_some some, List.length_cons]
    by_cases ends : bs.drop (room offset) = []
    · have last := List.drop_eq_nil_iff.mp ends
      rw [ends, pagesOf_nil, List.length_nil]
      omega
    · have more := mt List.drop_eq_nil_iff.mpr ends
      rw [ih _ _ (by rw [List.length_drop]; omega) ends, List.length_drop]
      omega

section
variable {s : State} {offset : Nat} {data : List Byte}

theorem dataRefusal_none (session : s.tariff.session = none) : s.dataRefusal offset data =
    .error (if data.isEmpty then (.badField, .field .data) else (.notLoading, .none)) := by
  rw [State.dataRefusal, session]

theorem dataRefusal_some {x : Session} (session : s.tariff.session = some x) : s.dataRefusal offset data =
    if data.isEmpty then .error (.badField, .fieldAndReceived .data x.received)
    else if x.erasing then .error (.bankBusy, .received x.received)
    else if offset ≠ x.received then .error (.outOfOrder, .received x.received)
    else if x.length < offset + data.length then .error (.overrun, .received x.received)
    else .ok x := by
  rw [State.dataRefusal, session]

/-- A piece that is accepted is counted at once, and one page program is asked for each of its pages (R47). -/
theorem serveTData_accepts {x : Session} (accepted : s.dataRefusal offset data = .ok x) (i : SlotId) :
    serveTData offset data i s = { s with
      tariff := { s.tariff with
        session := some { x with received := x.received + data.length }
        writes := s.tariff.writes ++
          [⟨x.id, x.bank, i, x.received + data.length, (pagesOf data.length offset data).length⟩] }
      port := s.port.asks ((pagesOf data.length offset data).map fun p => .program x.bank p.1 p.2 x.id i) } := by
  rw [serveTData, accepted]
  exact foldl_ask (fun p : Nat × List Byte => .program x.bank p.1 p.2 x.id i) _ _

end

/-- Settles O20: the refusals in the order of `dataRefusal`; an accepted piece by its page programs. -/
theorem loadTakesData : Obligations.LoadTakesData := by
  intro s i tag offset data takes
  have refused (short : data.length ≤ 512) {r : Reason} {f : Fields}
      (h : (s.held i tag .tData).dataRefusal offset data = .error (r, f)) :
      exec (.tData tag offset data) s = s.refuses i tag .tData r f := by
    rw [exec_tData takes tag short, serveTData, h]
    exact congrArg _ (s.answer_held i tag .tData _)
  refine ⟨fun long => exec_tData_long takes tag long offset, ?_, fun low high => ?_⟩
  · rintro rfl
    exact ⟨fun session => refused (Nat.zero_le _) (dataRefusal_none session),
      fun x session => refused (Nat.zero_le _) (dataRefusal_some session)⟩
  · have some : data ≠ [] := List.length_pos_iff.mp low
    have bytes : ¬data.isEmpty = true := by simpa using some
    refine ⟨fun session => refused high ?_, fun x session => ?_⟩
    · rw [dataRefusal_none (s := s.held i tag .tData) session, if_neg bytes]
    have check := dataRefusal_some (s := s.held i tag .tData) (offset := offset) (data := data) session
    rw [if_neg bytes] at check
    refine ⟨fun erasing => refused high ?_, fun receiving apart => refused high ?_,
      fun receiving next beyond => refused high ?_, fun receiving next within => ?_⟩
    · rw [check, if_pos erasing]
    · rw [check, if_neg (ne_true_of_eq_false receiving), if_pos apart]
    · rw [check, if_neg (ne_true_of_eq_false receiving), if_neg (not_not_intro next), if_pos beyond]
    · rw [if_neg (ne_true_of_eq_false receiving), if_neg (not_not_intro next), if_neg (Nat.not_lt.mpr within)] at check
      refine ⟨pagesOf data.length offset data, pagesOf_whole _ _ _ le_rfl, pagesOf_within _ _ _,
        pagesOf_inOrder _ _ _, pagesOf_length _ _ _ le_rfl some, ?_⟩
      rw [exec_tData takes tag high]
      exact congrArg _ (serveTData_accepts check i)

/-! ## The verifier's turn (R48, R52, R59) -/

section
variable {s : State}

theorem turnVerifier_busy (busy : s.tariff.verify ≠ none) : s.turnVerifier = s := by
  rw [State.turnVerifier, if_pos (Option.isSome_iff_ne_none.mpr busy)]

variable (scanned : s.tariff.scanning = [])
include scanned

theorem turnVerifier_idle (queue : s.tariff.queue = []) : s.turnVerifier = s := by
  rw [State.turnVerifier, scanned, queue]
  exact ite_self _

/-- The first bank of the verifier queue waits for the page programs of its session (R48). -/
theorem turnVerifier_waits {w : VerifyWait} {rest : List VerifyWait} (queue : s.tariff.queue = w :: rest)
    (waits : ∃ x ∈ s.tariff.writes, x.session = w.session) : s.turnVerifier = s := by
  have waits : (s.tariff.writes.any fun x => x.session == w.session) = true := by simpa using waits
  simp [State.turnVerifier, scanned, queue, waits]

/-- The first bank of the verifier queue with all its pages written is verified (R48). -/
theorem turnVerifier_first (free : s.tariff.verify = none) {w : VerifyWait} {rest : List VerifyWait}
    (queue : s.tariff.queue = w :: rest) (written : ∀ x ∈ s.tariff.writes, x.session ≠ w.session) {d : Description}
    (description : (s.tariff.banks.get w.bank).description = some d) :
    s.turnVerifier = s.beginVerify w.bank d.length d.crc false := by
  have written : (s.tariff.writes.any fun x => x.session == w.session) = false := by simpa using written
  simp [State.turnVerifier, free, scanned, queue, written, State.descriptionOf, description]

end

theorem turnVerifier_scan {s : State} (free : s.tariff.verify = none) {k : Bank} {rest : List Bank}
    (scanning : s.tariff.scanning = k :: rest) {d : Description}
    (description : (s.tariff.banks.get k).description = some d) :
    s.turnVerifier = s.beginVerify k d.length d.crc true := by
  simp [State.turnVerifier, free, scanning, State.descriptionOf, description]

/-- Where the verifier has no turn to take. -/
theorem turnVerifier_stays {s : State} (stays : s.tariff.verify ≠ none ∨
    (s.tariff.scanning = [] ∧ ∀ o ∈ s.tariff.queue.head?, ∃ y ∈ s.tariff.writes, y.session = o.session)) :
    s.turnVerifier = s := by
  obtain busy | ⟨scanned, waits⟩ := stays
  · exact turnVerifier_busy busy
  · cases queue : s.tariff.queue with
    | nil => exact turnVerifier_idle scanned queue
    | cons w rest =>
      rw [queue] at waits
      exact turnVerifier_waits scanned queue (waits w rfl)

/-! ## T_CLOSE (R48) -/

/-- Settles O21: an accepted T_CLOSE queues its bank, and the verifier turns. -/
theorem loadCloses : Obligations.LoadCloses := by
  intro s i tag takes
  refine ⟨fun session => ?_, fun x session => ⟨fun short => ?_, fun complete => ?_⟩⟩
  · rw [exec_tClose takes, serveTClose, show (s.held i tag .tClose).tariff.session = none from session]
    exact congrArg _ (s.answer_held i tag .tClose _)
  all_goals rw [exec_tClose takes, serveTClose, show (s.held i tag .tClose).tariff.session = some x from session]
  · dsimp only
    rw [if_pos short]
    exact congrArg _ (s.answer_held i tag .tClose _)
  · dsimp only
    rw [if_neg (Nat.not_lt.mpr complete)]
    refine ⟨fun free scanned queue written => congrArg _ ?_, fun stays => congrArg _ (turnVerifier_stays ?_)⟩
    · have first : s.tariff.queue ++ [(⟨x.bank, x.id, i⟩ : VerifyWait)] = [⟨x.bank, x.id, i⟩] := by rw [queue]; rfl
      refine (turnVerifier_first ?_ ?_ (w := ⟨x.bank, x.id, i⟩) (rest := []) ?_ ?_ (d := ⟨x.length, x.crc, none⟩)
        ?_).trans ?_
      · exact scanned
      · exact free
      · exact first
      · exact written
      · exact congrArg BankRec.description (Two.get_set_self ..)
      · rfl
    · obtain busy | ⟨scanned, first, head, waits⟩ := stays
      · exact .inl busy
      · refine .inr ⟨scanned, fun o mem => ?_⟩
        cases head.symm.trans mem
        exact waits

/-! ## Banks emptied and loads ended (R49, R50) -/

theorem set_set {α : Type} (v : Two α) (k : Bank) (x y : α) : (v.set k x).set k y = v.set k y := by cases k <;> rfl

theorem foldl_refuse (r : Reason) (l : List DataWait) : ∀ s : State,
    l.foldl (fun s w => s.refuse w.slot r) s =
      { s with link := s.link.answers (l.map (·.slot)) (.refused r .none) } := by
  induction l with
  | nil => exact fun _ => rfl
  | cons w rest ih => exact fun s => ih (s.refuse w.slot r)

/-- The waiting T_DATA requests of a session are refused one after another, and wait no more (R49, R50). -/
theorem refuseWrites_eq (s : State) (id : Nat) (r : Reason) : s.refuseWrites id r = { s with
    tariff := { s.tariff with writes := s.tariff.writes.filter fun w => w.session != id }
    link := s.link.answers ((s.tariff.writes.filter fun w => w.session == id).map (·.slot)) (.refused r .none) } :=
  foldl_refuse r _ _

/-- A load that ends without an image (R49, R50): what it asks, withdraws and answers. -/
theorem endSession_records (s : State) (x : Session) (r : Reason) :
    ∃ q, recordSays q (s.tariff.recordSeq + 1) .empty none ∧ s.endSession x r = { s with
      tariff := { s.tariff with
        session := none
        banks := s.tariff.banks.set x.bank { s.tariff.banks.get x.bank with state := .empty, description := none }
        writes := s.tariff.writes.filter fun w => w.session != x.id
        recordSeq := s.tariff.recordSeq + 1 }
      port := (s.port.withdraw x.id).asks [.recordErase x.bank, .recordProgram x.bank q]
      link := (if x.erasing then s.link.answer x.slot (.refused r .none) else s.link).answers
        ((s.tariff.writes.filter fun w => w.session == x.id).map (·.slot)) (.refused r .none) } := by
  have opened : (if x.erasing then
      ((s.onTariff fun t => { t with session := none }).onPort (Port.withdraw x.id)).refuse x.slot r
      else (s.onTariff fun t => { t with session := none }).onPort (Port.withdraw x.id)) = { s with
        tariff := { s.tariff with session := none }
        port := s.port.withdraw x.id
        link := if x.erasing then s.link.answer x.slot (.refused r .none) else s.link } := by
    cases x.erasing <;> rfl
  unfold State.endSession
  dsimp only
  rw [opened, refuseWrites_eq]
  exact ⟨_, recordOf_written _ _ _, rewriteRecord_eq _ _ _ _⟩

theorem discardBank_records (s : State) (k : Bank) :
    ∃ r, recordSays r (s.tariff.recordSeq + 1) .empty none ∧ s.discardBank k = { s with
      tariff := { s.tariff with
        banks := s.tariff.banks.set k { s.tariff.banks.get k with
          state := .empty, description := none, lastResult := none }
        recordSeq := s.tariff.recordSeq + 1 }
      port := s.port.asks [.recordErase k, .recordProgram k r] } := by
  have emptied : (s.emptyBank k).onBank k (fun b => { b with lastResult := none }) = { s with
      tariff := { s.tariff with banks := s.tariff.banks.set k { s.tariff.banks.get k with
        state := .empty, description := none, lastResult := none } } } := by
    cases k <;> rfl
  rw [State.discardBank, emptied]
  exact ⟨_, recordOf_written _ _ _, rewriteRecord_eq _ _ _ _⟩

/-- Settles O22: by the state of the bank. -/
theorem bankDiscarded : Obligations.BankDiscarded := by
  intro s i tag takes
  refine ⟨?_, fun k => ?_⟩
  · rw [exec_tDiscard takes]
    exact congrArg _ (s.answer_held i tag .tDiscard _)
  rw [exec_tDiscard takes, serveTDiscard]
  have state {st : BankState} (h : (s.tariff.banks.get k).state = st) : (s.held i tag .tDiscard).bankState k = st := h
  refine ⟨fun active => ?_, fun verifying => ?_, fun empty => ?_, ?_, fun x loading session bank => ?_⟩
  · rw [state active]
    exact congrArg _ (s.answer_held i tag .tDiscard _)
  · rw [state verifying]
    exact congrArg _ (s.answer_held i tag .tDiscard _)
  · rw [state empty]
    exact congrArg _ (s.answer_held i tag .tDiscard _)
  · rintro (staged | damaged)
    · obtain ⟨r, record, discards⟩ := discardBank_records
        ((s.held i tag .tDiscard).onTariff fun t => { t with staged := none }) k
      refine ⟨r, record, ?_⟩
      rw [state staged]
      dsimp only
      rw [discards, if_pos staged]
      rfl
    · obtain ⟨r, record, discards⟩ := discardBank_records (s.held i tag .tDiscard) k
      refine ⟨r, record, ?_⟩
      rw [state damaged]
      dsimp only
      rw [discards, if_neg (by rw [damaged]; decide)]
      rfl
  · obtain ⟨r, record, ends⟩ := endSession_records (s.held i tag .tDiscard) x .discarded
    subst bank
    refine ⟨r, record, ?_⟩
    rw [state loading, show (s.held i tag .tDiscard).tariff.session = some x from session]
    dsimp only
    rw [ends]
    simp only [State.onBank, State.onTariff, Two.get_set_self, set_set]
    rfl

end Sys2Proof.Machine.TariffBanks
end

section
/-! PROOFS of 03_tariff_image_and_banks.md: the accesses of a load as they complete or fail (R37, R46, R47, R50). -/

namespace Sys2Proof.Machine.LoadAccesses

open TariffBanks

/-! ## What a programmed byte reads as (R37) -/

/-- A byte of the run programmed loses bits only (R37). -/
theorem read_program_inside (bs : List Byte) : ∀ {m : Memory} {x n : Nat}, Memory.wf m = true → n < bs.length →
    x + n < Config.flashBytes → Memory.read (m.program x bs) (x + n) = Memory.read m (x + n) &&& bs.getD n 0 := by
  induction bs with
  | nil => exact fun _ short => absurd short (Nat.not_lt_zero _)
  | cons b rest ih =>
    intro m x n wf short inside
    rw [Memory.program]
    cases n with
    | zero =>
      rw [Memory.read_program_outside _ (.inl (by omega)), Nat.add_zero, Memory.read_put_same (x := x) _ wf inside]
      rfl
    | succ n =>
      rw [show x + (n + 1) = x + 1 + n by omega, ih (Memory.wf_put _ _ wf) (by simpa using short) (by omega),
        Memory.read_put_other _ (by omega)]
      rfl

/-! ## What the operations of a completed access leave alone -/

/-- The verifier's turn touches the verification in progress and the port only (R48, R51). -/
theorem turnVerifier_leaves (s : State) :
    ∃ v p, s.turnVerifier = { s with tariff := { s.tariff with verify := v }, port := p } := by
  unfold State.turnVerifier
  split
  · exact ⟨_, _, rfl⟩
  · split
    · exact ⟨_, _, rfl⟩
    · split
      · exact ⟨_, _, rfl⟩
      · exact ⟨_, _, rfl⟩
    · exact ⟨_, _, rfl⟩

@[simp] theorem turnVerifier_link (s : State) : s.turnVerifier.link = s.link := by
  obtain ⟨v, p, turned⟩ := turnVerifier_leaves s
  rw [turned]

@[simp] theorem turnVerifier_flash (s : State) : s.turnVerifier.flash = s.flash := by
  obtain ⟨v, p, turned⟩ := turnVerifier_leaves s
  rw [turned]

@[simp] theorem turnVerifier_writes (s : State) : s.turnVerifier.tariff.writes = s.tariff.writes := by
  obtain ⟨v, p, turned⟩ := turnVerifier_leaves s
  rw [turned]

section
variable {s : State} {id : Nat}

/-- An erase of a session that is gone changes no bank (R46). -/
theorem erased_gone (gone : ∀ x, s.tariff.session = some x → x.id ≠ id) : s.erased id = s := by
  unfold State.erased
  split
  · rfl
  · rename_i x session
    exact if_pos (gone x session)

variable {x : Session} (session : s.tariff.session = some x) (same : x.id = id)
include session same

theorem erased_more (more : 1 < x.erasesLeft) : s.erased id = { s with
    tariff := { s.tariff with session := some { x with erasesLeft := x.erasesLeft - 1 } } } := by
  rw [State.erased, session]
  exact (if_neg (not_not_intro same)).trans (if_neg (Nat.not_le.mpr more))

/-- The last erase of a session answers its T_OPEN (R46). -/
theorem erased_last (last : x.erasesLeft ≤ 1) : s.erased id = { s with
    tariff := { s.tariff with session := some { x with erasesLeft := 0, erasing := false } }
    link := s.link.answer x.slot (.ok .none) } := by
  rw [State.erased, session]
  exact (if_neg (not_not_intro same)).trans (if_pos last)

end

theorem erased_leaves (s : State) (id : Nat) : (s.erased id).port = s.port ∧ (s.erased id).flash = s.flash := by
  by_cases held : ∃ x, s.tariff.session = some x ∧ x.id = id
  · obtain ⟨x, session, same⟩ := held
    by_cases more : 1 < x.erasesLeft
    · simp [erased_more session same more]
    · simp [erased_last session same (Nat.not_lt.mp more)]
  · simp [erased_gone fun x session same => held ⟨x, session, same⟩]

section
variable {s : State} {id : Nat} {slot : SlotId}

theorem programmed_gone (gone : s.tariff.writes.find? (fun w => w.session == id && w.slot == slot) = none) :
    s.programmed id slot = s := by
  rw [State.programmed, gone]

variable {w : DataWait} (found : s.tariff.writes.find? (fun w => w.session == id && w.slot == slot) = some w)
include found

theorem programmed_more (more : 1 < w.left) : s.programmed id slot = { s with tariff := { s.tariff with
    writes := s.tariff.writes.map fun o =>
      if o.session = id ∧ o.slot = slot then { o with left := o.left - 1 } else o } } := by
  rw [State.programmed, found]
  exact if_neg (Nat.not_le.mpr more)

/-- The last page of a T_DATA answers it, and the verifier may have waited for that (R47, R48). -/
theorem programmed_last (last : w.left ≤ 1) : s.programmed id slot = State.turnVerifier { s with
    tariff := { s.tariff with writes := s.tariff.writes.filter fun o => !(o.session == id && o.slot == slot) }
    link := s.link.answer slot (.ok (.received w.received)) } := by
  rw [State.programmed, found]
  exact if_pos last

end

/-- What the end of a page program leaves alone. -/
theorem programmed_leaves (s : State) (id : Nat) (slot : SlotId) : ∃ w v p l, s.programmed id slot =
    { s with tariff := { s.tariff with writes := w, verify := v }, port := p, link := l } := by
  cases found : s.tariff.writes.find? (fun w => w.session == id && w.slot == slot) with
  | none => exact ⟨_, _, _, _, programmed_gone found⟩
  | some w =>
    by_cases more : 1 < w.left
    · exact ⟨_, _, _, _, programmed_more found more⟩
    · obtain ⟨v, p, turned⟩ := turnVerifier_leaves { s with
        tariff := { s.tariff with writes := s.tariff.writes.filter fun o => !(o.session == id && o.slot == slot) }
        link := s.link.answer slot (.ok (.received w.received)) }
      exact ⟨_, v, p, _, (programmed_last found (Nat.not_lt.mp more)).trans turned⟩

/-- The state in which a completed erase of a sector has its effect on its session (R46). -/
def sectorErased (s : State) (k : Bank) (sector : Nat) : State := { s with
  flash := { s.flash with cells := Memory.erase s.flash.cells (bankBase k + sector * 4096) 4096 }
  port := s.port.complete }

/-- The state in which a completed page program has its effect on its T_DATA (R47). -/
def pageProgrammed (s : State) (k : Bank) (offset : Nat) (bytes : List Byte) : State := { s with
  flash := { s.flash with cells := Memory.program s.flash.cells (bankBase k + offset) bytes }
  port := s.port.complete }

/-- Settles O16: an erase by whether its session is there and what it has left; a page program by its T_DATA. -/
theorem loadAccessSucceeds : Obligations.LoadAccessSucceeds := by
  intro s running wf
  refine ⟨fun reads ok => ?_, fun k sector id current => ?_, fun k offset bytes id slot current => ?_⟩
  · refine exec_programming_none running ?_ ok
    unfold State.programmingNow
    split
    · rfl
    · rfl
    · rfl
    · rename_i a walk verification current
      obtain ⟨k, o, rfl⟩ | ⟨k, o, n, rfl⟩ := reads a current
      · exact absurd rfl (walk k o)
      · exact absurd rfl (verification k o n)
  · have now : s.programmingNow = some (.erase k sector id) := by rw [State.programmingNow, current]
    have served : exec (.programmingAccessComplete true) s = .next ((sectorErased s k sector).erased id) :=
      exec_programming running now true
    obtain ⟨port, flash⟩ := erased_leaves (sectorErased s k sector) id
    refine ⟨_, served, programming_tariff s (.erase k sector id) true, port, by rw [flash]; rfl,
      fun x => ?_, fun x session same more => ?_, fun x session same last => ?_, fun gone => ?_⟩
    · rw [flash]
      exact Memory.read_erase ..
    · rw [erased_more (s := sectorErased s k sector) session same more]
      exact ⟨rfl, rfl⟩
    · rw [erased_last (s := sectorErased s k sector) session same last]
      exact ⟨rfl, rfl⟩
    · rw [erased_gone (s := sectorErased s k sector) gone]
      exact ⟨rfl, rfl⟩
  · have now : s.programmingNow = some (.program k offset bytes id slot) := by rw [State.programmingNow, current]
    have served : exec (.programmingAccessComplete true) s =
        .next ((pageProgrammed s k offset bytes).programmed id slot) := exec_programming running now true
    obtain ⟨w, v, p, l, leaves⟩ := programmed_leaves (pageProgrammed s k offset bytes) id slot
    refine ⟨_, served, programming_tariff s (.program k offset bytes id slot) true, ?_⟩
    refine ⟨by rw [leaves]; rfl, by rw [leaves]; rfl, by rw [leaves]; rfl, by rw [leaves]; rfl, fun x outside => ?_,
      fun n short inside => ?_, fun w found last => ?_, fun gone => ?_, fun w found more => ?_⟩
    · rw [leaves]
      exact Memory.read_program_outside _ outside
    · rw [leaves]
      exact read_program_inside _ wf short inside
    · have done := programmed_last (s := pageProgrammed s k offset bytes) found last
      rw [done]
      refine ⟨?_, ?_, fun stays => ?_, fun o more d free scanned queue written description => ?_⟩
      · rw [turnVerifier_link]
        rfl
      · rw [turnVerifier_writes]
        rfl
      · rw [turnVerifier_stays (by exact stays)]
        exact ⟨rfl, rfl⟩
      · rw [turnVerifier_first (by exact scanned) (by exact free) (by exact queue) (by exact written)
          (by exact description)]
        exact ⟨rfl, rfl⟩
    · rw [programmed_gone (s := pageProgrammed s k offset bytes) gone]
      exact ⟨rfl, rfl, rfl⟩
    · rw [programmed_more (s := pageProgrammed s k offset bytes) found more]
      exact ⟨rfl, rfl, rfl⟩

/-! ## A failed access of a load (R50) -/

theorem get_set_ne {α : Type} (v : Two α) {k q : Bank} (x : α) (apart : q ≠ k) : (v.set k x).get q = v.get q := by
  match k, q, apart with
  | .a, .b, _ | .b, .a, _ => rfl
  | .a, .a, apart | .b, .b, apart => exact absurd rfl apart

theorem complete_programming (p : Port) : ∀ a ∈ p.complete.programming, a ∈ p.programming := by
  unfold Port.complete
  split
  · exact fun _ => id
  · exact fun _ => id
  · rename_i a rest _ _ programming
    rw [programming]
    exact fun _ => List.mem_cons_of_mem a
  · exact fun _ => id

/-- Accesses withdrawn before the arbiter chooses need not be withdrawn again after it. -/
theorem withdraw_complete (p : Port) (id : Nat) :
    ((p.withdraw id).complete).withdraw id = (p.withdraw id).complete := by
  have none_left : (p.withdraw id).complete.programming.filter (fun a => !a.ofSession id) =
      (p.withdraw id).complete.programming :=
    List.filter_eq_self.mpr fun a waits => (List.mem_filter.mp (complete_programming _ a waits)).2
  rw [Port.withdraw, none_left]

/-- The state in which a failed access of session `id` has its effect on that session: the port gone on without the
accesses of the session, the bytes of the access left with free values (R50, log 40). -/
def accessFailed (s : State) (id first count : Nat) : State :=
  (s.onPort fun p => (p.withdraw id).complete).spoil first count

section
variable {s : State} {id : Nat}

theorem sessionFault_held {x : Session} (session : s.tariff.session = some x) (same : x.id = id) :
    s.sessionFault id = s.endSession x .writeFault := by
  rw [State.sessionFault, session]
  exact if_pos same

variable (gone : ∀ x, s.tariff.session = some x → x.id ≠ id)
include gone

/-- The failure of an access whose session ended at its T_CLOSE, or is gone (R50). -/
theorem sessionFault_gone : s.sessionFault id = match s.tariff.queue.find? (fun w => w.session == id) with
    | some w => s.endVerifying w
    | none => s := by
  unfold State.sessionFault
  split
  · rename_i x session
    exact if_neg (gone x session)
  · rfl

end

/-- A bank that is VERIFYING before its verification began is emptied, with what that asks, withdraws and answers, and
the verifier turns (R50, log 62). -/
theorem endVerifying_records (s : State) (w : VerifyWait) :
    ∃ r, recordSays r (s.tariff.recordSeq + 1) .empty none ∧ s.endVerifying w = State.turnVerifier { s with
      tariff := { s.tariff with
        queue := s.tariff.queue.filter fun o => o.session != w.session
        banks := s.tariff.banks.set w.bank { s.tariff.banks.get w.bank with state := .empty, description := none }
        writes := s.tariff.writes.filter fun o => o.session != w.session
        recordSeq := s.tariff.recordSeq + 1 }
      port := (s.port.withdraw w.session).asks [.recordErase w.bank, .recordProgram w.bank r]
      link := (s.link.answers ((s.tariff.writes.filter fun o => o.session == w.session).map (·.slot))
        (.refused .writeFault .none)).answer w.slot (.refused .writeFault .none) } := by
  unfold State.endVerifying
  dsimp only
  rw [refuseWrites_eq]
  exact ⟨_, recordOf_written _ _ _, congrArg State.turnVerifier (rewriteRecord_eq _ _ _ _)⟩

theorem sessionFault_flash (s : State) (id : Nat) : (s.sessionFault id).flash = s.flash := by
  by_cases held : ∃ x, s.tariff.session = some x ∧ x.id = id
  · obtain ⟨x, session, same⟩ := held
    obtain ⟨r, -, ends⟩ := endSession_records s x .writeFault
    rw [sessionFault_held session same, ends]
  · rw [sessionFault_gone fun x session same => held ⟨x, session, same⟩]
    split
    · rename_i w _
      obtain ⟨r, -, ends⟩ := endVerifying_records s w
      rw [ends, turnVerifier_flash]
    · rfl

/-- Settles O18: the failure by whether its session is the load's, a queued bank's, or gone. -/
theorem loadAccessFails : Obligations.LoadAccessFails := by
  intro s a k first count id running current kind
  dsimp only
  have served : exec (.programmingAccessComplete false) s =
      .next ((accessFailed s id first count).sessionFault id) := by
    obtain ⟨sector, rfl, rfl, rfl⟩ | ⟨o, bs, slot, rfl, rfl, rfl⟩ := kind
    · exact exec_programming running (by rw [State.programmingNow, current]) false
    · exact exec_programming running (by rw [State.programmingNow, current]) false
  have frame : TariffFrame s ((accessFailed s id first count).sessionFault id) :=
    ((TariffFrame.viaPort s _).andThen (State.spoil_tariff _ _ _)).andThen (State.sessionFault_tariff _ _)
  have flash := sessionFault_flash (accessFailed s id first count) id
  refine ⟨_, served, frame, by rw [flash]; rfl, fun x outside => ?_, fun x session same => ?_, fun w gone found => ?_,
    fun gone none_queued => ?_⟩
  · rw [flash]
    exact Memory.read_spoil_outside _ _ outside
  · obtain ⟨r, record, ends⟩ := endSession_records (accessFailed s id first count) x .writeFault
    subst same
    rw [sessionFault_held (s := accessFailed s x.id first count) session rfl, ends]
    exact ⟨rfl, rfl, r, record, congrArg (Port.asks · _) (withdraw_complete s.port x.id)⟩
  · obtain ⟨r, record, ends⟩ := endVerifying_records (accessFailed s id first count) w
    have same : w.session = id := by simpa using List.find?_some found
    have queued : (accessFailed s id first count).tariff.queue.find? (fun w => w.session == id) = some w := found
    subst same
    rw [sessionFault_gone (s := accessFailed s _ first count) gone, queued]
    dsimp only
    have port : ((accessFailed s w.session first count).port.withdraw w.session) =
        (s.port.withdraw w.session).complete :=
      withdraw_complete s.port w.session
    rw [ends, port]
    refine ⟨by rw [turnVerifier_link]; rfl, r, record, fun stays => ?_,
      fun o more d free scanned queue apart written description => ?_⟩
    · rw [turnVerifier_stays]
      · exact ⟨rfl, rfl⟩
      · refine stays.imp id fun ⟨scanned, empty⟩ => ⟨scanned, fun o head => ?_⟩
        have head : o ∈ (s.tariff.queue.filter fun o => o.session != w.session).head? := head
        rw [empty] at head
        cases head
    · rw [turnVerifier_first (by exact scanned) (by exact free) (by exact queue)
        (by exact fun y mem => written y (List.mem_of_mem_filter mem)) (d := d)]
      · exact ⟨rfl, rfl⟩
      · exact (congrArg BankRec.description (get_set_ne _ _ apart)).trans description
  · have queued : (accessFailed s id first count).tariff.queue.find? (fun w => w.session == id) = none := by
      exact List.find?_eq_none.mpr fun w queued => by simpa using none_queued w queued
    rw [sessionFault_gone (s := accessFailed s id first count) gone, queued]
    exact ⟨rfl, rfl, rfl⟩

end Sys2Proof.Machine.LoadAccesses
end

section
/-! PROOFS of 03_tariff_image_and_banks.md and 05_rating.md: a rating completes, begins and is chosen, and a walk ends
(R65, R78 to R84, R107). -/

namespace Sys2Proof.Machine.RatingEnds

open TariffBanks

/-! ## A decided rating is handed over (R84, R107) -/

/-- The decided rating of position k is handed over: RATED with OK and the limit loaded, or OPEN and refused. -/
def Hands (x : State) (k : Pos) (most : Nat) (r : RateResult) (z : State) : Prop :=
  ∃ it ph i, x.openSlot k = .rating it ph i ∧
    let freed : State := { x with rating := { x.rating with current := none } }
    (r.failure.isSome = true → z = { freed with
      items := { x.items with slots := x.items.slots.set k (.opened it) }
      link := x.link.answer i (.refused .notRateable (.result r)) }) ∧
    (r.failure = none →
      let c := x.channel k
      let limited := if c.capture = none then c else { c with limit := some most }
      z = { freed with
        items := { x.items with slots := x.items.slots.set k (.rated it r false) }
        link := x.link.answer i (.ok (.result r))
        weighing := { x.weighing with channels := x.weighing.channels.set k limited } })

theorem completeRating_failed {x : State} {k : Pos} {it : OpenItem} {ph : RatePhase} {i : SlotId}
    (slot : x.openSlot k = .rating it ph i) {r : RateResult} (fails : r.failure.isSome = true) (most : Nat) :
    x.completeRating k r most = { x with
      rating := { x.rating with current := none }
      items := { x.items with slots := x.items.slots.set k (.opened it) }
      link := x.link.answer i (.refused .notRateable (.result r)) } := by
  have slot : (x.onRating fun u => { u with current := none }).openSlot k = .rating it ph i := slot
  have fails : r.failure.isNone = false := by simpa using fails
  simp only [State.completeRating, State.handResult, slot, fails]
  rfl

/-- A channel with SERVICE_LIMIT loaded where it holds a capture (R20). -/
def limited (c : Channel) (most : Nat) : Channel := if c.capture = none then c else { c with limit := some most }

theorem limited_eq (c : Channel) (most : Nat) :
    limited c most = if c.capture.isSome then { c with limit := some most } else c := by
  unfold limited
  cases c.capture <;> simp

theorem completeRating_rated {x : State} {k : Pos} {it : OpenItem} {ph : RatePhase} {i : SlotId}
    (slot : x.openSlot k = .rating it ph i) {r : RateResult} (rates : r.failure = none) (most : Nat) :
    x.completeRating k r most = { x with
      rating := { x.rating with current := none }
      items := { x.items with slots := x.items.slots.set k (.rated it r false) }
      link := x.link.answer i (.ok (.result r))
      weighing := { x.weighing with channels := x.weighing.channels.set k (limited (x.channel k) most) } } := by
  have slot : (x.onRating fun u => { u with current := none }).openSlot k = .rating it ph i := slot
  have rates : r.failure.isNone = true := by simpa using rates
  rw [limited_eq]
  simp only [State.completeRating, State.handResult, slot, rates]
  rfl

theorem completeRating_of_hands {x z : State} {k : Pos} {most : Nat} {r : RateResult} (h : Hands x k most r z) :
    x.completeRating k r most = z := by
  obtain ⟨it, ph, i, slot, fails, rates⟩ := h
  cases failure : r.failure with
  | none => exact (completeRating_rated slot failure most).trans (rates failure).symm
  | some f =>
    have failed : r.failure.isSome = true := by rw [failure]; rfl
    exact (completeRating_failed slot failed most).trans (fails failed).symm

/-! ## What a lookup leaves alone -/

/-- A lookup taken answers at once and begins no walk, or begins one; it leaves the rest of the part as it was, but for
the cache and its port (R63, R64). -/
theorem takeLookup_leaves (x : State) (l : Lookup) : ∃ c p, (x.takeLookup l).1 = { x with cache := c, port := p } ∧
    c.waiting = x.cache.waiting ∧ ((x.takeLookup l).2.isSome = true → c.walk = x.cache.walk) := by
  cases l with
  | zone k v =>
    simp only [State.takeLookup, State.takeZone]
    split
    · exact ⟨_, _, rfl, rfl, fun _ => rfl⟩
    · split
      · exact ⟨_, _, rfl, rfl, fun _ => rfl⟩
      · exact ⟨_, _, rfl, rfl, nofun⟩
  | price s z cw =>
    simp only [State.takeLookup, State.takePrice]
    split
    · exact ⟨_, _, rfl, rfl, fun _ => rfl⟩
    · split
      · exact ⟨_, _, rfl, rfl, fun _ => rfl⟩
      · split
        · exact ⟨_, _, rfl, rfl, fun _ => rfl⟩
        · split
          · exact ⟨_, _, rfl, rfl, fun _ => rfl⟩
          · exact ⟨_, _, rfl, rfl, nofun⟩

/-! ## The stages of a rating (R79) -/

/-- The rating v in progress gives its lookup to the free cache. -/
def Asks (x : State) (v : RatingRun) : State × Option Answer :=
  ({ x with rating := { x.rating with current := some v } } : State).takeLookup v.lookup

/-- The stage decides, and the result is handed over. -/
def Ends (x : State) (k : Pos) (most : Nat) (st : Stage) (z : State) : Prop := ∃ r, st = .decided r ∧ Hands x k most r z

/-- The stage ends the rating, waits for a walk, or ends it with the answer its lookup has at once. -/
def Prices (x : State) (k : Pos) (most : Nat) (st : Stage) (z : State) : Prop :=
  Ends x k most st z ∨ (∃ v, st = .goesOn v ∧ Asks x v = (z, none)) ∨
  (∃ v y b, st = .goesOn v ∧ Asks x v = (y, some b) ∧ Ends y k v.service.maxWeight (v.answered b) z)

/-- The stage and the one that follows an answer to its lookup at once. -/
def Rates (x : State) (k : Pos) (most : Nat) (st : Stage) (z : State) : Prop :=
  Prices x k most st z ∨
  (∃ v y b, st = .goesOn v ∧ Asks x v = (y, some b) ∧ Prices y k v.service.maxWeight (v.answered b) z)

theorem asks_leaves (x : State) (v : RatingRun) : ∃ c p,
    (Asks x v).1 = { x with rating := { x.rating with current := some v }, cache := c, port := p } ∧
    c.waiting = x.cache.waiting ∧ ((Asks x v).2.isSome = true → c.walk = x.cache.walk) := takeLookup_leaves _ _

section
variable {x z : State} {k : Pos} {most : Nat} {st : Stage}

theorem giveOn_ends (ends : Ends x k most st z) : x.giveOn k most st = (z, none) := by
  obtain ⟨r, rfl, hands⟩ := ends
  rw [State.giveOn, completeRating_of_hands hands]

variable (free : x.cache.walk = none)
include free

/-- With the cache free a stage that goes on has its lookup taken (R79). -/
theorem giveOn_asks (v : RatingRun) :
    x.giveOn k most (.goesOn v) = ((Asks x v).1, (Asks x v).2.map fun a => (v, a)) := by
  have free : (x.onRating fun n => { n with current := some v }).cache.walk.isSome = false := by simp [free]
  simp only [State.giveOn, State.giveLookup, free, Bool.false_eq_true, if_false]
  rfl

theorem asks_free {v : RatingRun} {y : State} {b : Answer} (asks : Asks x v = (y, some b)) : y.cache.walk = none := by
  obtain ⟨c, p, leaves, -, walk⟩ := asks_leaves x v
  rw [asks] at leaves walk
  rw [show y = _ from leaves]
  exact (walk rfl).trans free

theorem workStage_of_rates (h : Rates x k most st z) : x.workStage k most st = z := by
  unfold State.workStage
  obtain (ends | ⟨v, rfl, asks⟩ | ⟨v, y, b, rfl, asks, ends⟩) | ⟨v, y, b, rfl, asks, prices⟩ := h
  · rw [giveOn_ends ends]
  · rw [giveOn_asks free, asks]
    rfl
  · rw [giveOn_asks free, asks]
    dsimp only [Option.map]
    rw [giveOn_ends ends]
  · have free' := asks_free free asks
    rw [giveOn_asks free, asks]
    dsimp only [Option.map]
    obtain ends | ⟨v', decides, asks'⟩ | ⟨v', y', b', decides, asks', ends⟩ := prices
    · rw [giveOn_ends ends]
    · rw [decides, giveOn_asks free', asks']
      rfl
    · rw [decides, giveOn_asks free', asks']
      dsimp only [Option.map]
      rw [giveOn_ends ends]

end

/-! ## What the stages of a rating leave alone -/

theorem completeRating_leaves (x : State) (k : Pos) (r : RateResult) (most : Nat) : ∃ w i l,
    x.completeRating k r most =
      { x with rating := { x.rating with current := none }, weighing := w, items := i, link := l } := by
  unfold State.completeRating State.handResult
  dsimp only
  split
  · split
    · exact ⟨_, _, _, rfl⟩
    all_goals exact ⟨_, _, _, rfl⟩
  · split
    · exact ⟨_, _, _, rfl⟩
    all_goals exact ⟨_, _, _, rfl⟩

/-- What the work on a rating leaves as it was in `x`, whose cache is free: the requests and the lookup that wait, and,
with no rating left in progress, the free cache. -/
structure Worked (x z : State) : Prop where
  pending : z.rating.pendingList = x.rating.pendingList
  waiting : z.cache.waiting = x.cache.waiting
  walk : z.rating.current = none → z.cache.walk = none

namespace Worked

theorem trans {x y z : State} (a : Worked x y) (b : Worked y z) : Worked x z :=
  ⟨b.pending.trans a.pending, b.waiting.trans a.waiting, b.walk⟩

end Worked

section
variable {x : State} (free : x.cache.walk = none)
include free

theorem giveOn_worked (k : Pos) (most : Nat) (st : Stage) : Worked x (x.giveOn k most st).1 ∧
    ((x.giveOn k most st).2.isSome = true → (x.giveOn k most st).1.cache.walk = none) := by
  cases st with
  | decided r =>
    obtain ⟨w, i, l, leaves⟩ := completeRating_leaves x k r most
    rw [State.giveOn, leaves]
    exact ⟨⟨rfl, rfl, fun _ => free⟩, nofun⟩
  | goesOn v =>
    obtain ⟨c, p, leaves, waiting, walk⟩ := asks_leaves x v
    rw [giveOn_asks free, leaves]
    exact ⟨⟨rfl, waiting, nofun⟩, fun answered => (walk (by simpa using answered)).trans free⟩

theorem workStage_worked (k : Pos) (most : Nat) (st : Stage) : Worked x (x.workStage k most st) := by
  have first := giveOn_worked free k most st
  unfold State.workStage
  split
  · rename_i y gives
    rw [gives] at first
    exact first.1
  · rename_i y v b gives
    rw [gives] at first
    have second := giveOn_worked (first.2 rfl) k v.service.maxWeight (v.answered b)
    split
    · rename_i z gives'
      rw [gives'] at second
      exact first.1.trans second.1
    · rename_i z v' b' gives'
      rw [gives'] at second
      have third := giveOn_worked (second.2 rfl) k v'.service.maxWeight (v'.answered b')
      exact (first.1.trans second.1).trans third.1

end

/-! ## The arbiter (R78) -/

/-- A request chosen at its slot: it waits no more, and it is the last served. -/
def chosen (s : State) (q : RateRequest) : State :=
  (s.onRating fun r => { r with
    pendingList := r.pendingList.filter fun o => o.position != q.position
    lastServed := q.position }).slotInProgress q.position

theorem slotInProgress_leaves (s : State) (k : Pos) : ∃ i, s.slotInProgress k = { s with items := i } := by
  unfold State.slotInProgress
  split
  · exact ⟨_, rfl⟩
  all_goals exact ⟨_, rfl⟩

theorem nextRequest_mem {s : State} {q : RateRequest} (next : s.nextRequest = some q) : q ∈ s.rating.pendingList := by
  have found : ∀ (n : Nat) (k : Pos), State.nextRequest.go s n k = some q → q ∈ s.rating.pendingList := by
    intro n
    induction n with
    | zero => exact fun _ => nofun
    | succ n ih =>
      intro k
      rw [State.nextRequest.go]
      split
      · rename_i p here
        rintro ⟨⟩
        exact List.mem_of_find?_eq_some here
      · exact ih k.next
  exact found _ _ next

theorem chosen_worked (s : State) (q : RateRequest) : (chosen s q).cache = s.cache ∧
    (chosen s q).rating.pendingList = s.rating.pendingList.filter fun o => o.position != q.position := by
  obtain ⟨i, leaves⟩ := slotInProgress_leaves (s.onRating fun r => { r with
    pendingList := r.pendingList.filter fun o => o.position != q.position, lastServed := q.position }) q.position
  rw [chosen, leaves]
  exact ⟨rfl, rfl⟩

/-- The arbiter chooses a request, or it has nothing to choose (R78). -/
theorem arbiter_cases (s : State) : (s.rating.current = none ∧ ∃ q, s.nextRequest = some q) ∨
    (s.rating.current ≠ none ∨ s.nextRequest = none) := by
  cases next : s.nextRequest with
  | none => exact .inr (.inr rfl)
  | some q =>
    cases current : s.rating.current with
    | none => exact .inl ⟨rfl, q, rfl⟩
    | some u => exact .inr (.inl nofun)

theorem arbitrateN_stays {s : State} (stays : s.rating.current ≠ none ∨ s.nextRequest = none) (n : Nat) :
    State.arbitrateN n s = s := by
  cases n with
  | zero => rfl
  | succ n =>
    rw [State.arbitrateN]
    split
    · rename_i q current next
      obtain busy | idle := stays
      · exact absurd current busy
      · cases idle.symm.trans next
    · rfl

theorem arbitrateN_chooses {s : State} (current : s.rating.current = none) {q : RateRequest}
    (next : s.nextRequest = some q) (n : Nat) :
    State.arbitrateN (n + 1) s = State.arbitrateN n ((chosen s q).startRating q) := by
  rw [State.arbitrateN, current, next]
  rfl

/-- The cache is free where no rating is in progress. -/
def Idles (s : State) : Prop := s.rating.current = none → s.cache.walk = none

section
variable {s : State}

theorem startRating_pending (free : s.cache.walk = none) (q : RateRequest) :
    Worked (chosen s q) ((chosen s q).startRating q) :=
  workStage_worked (show (chosen s q).cache.walk = none by rw [(chosen_worked s q).1, free]) _ _ _

theorem startRating_fewer (free : s.cache.walk = none) {q : RateRequest} (next : s.nextRequest = some q) :
    ((chosen s q).startRating q).rating.pendingList.length < s.rating.pendingList.length := by
  rw [(startRating_pending free q).pending, (chosen_worked s q).2]
  exact List.length_filter_lt_length_iff_exists.mpr ⟨q, nextRequest_mem next, by simp⟩

end

/-- Fuel for every request that waits is enough. -/
theorem arbitrateN_fuel (m : Nat) : ∀ (n : Nat) (s : State), Idles s → s.rating.pendingList.length ≤ m →
    s.rating.pendingList.length ≤ n → State.arbitrateN m s = State.arbitrateN n s := by
  induction m with
  | zero =>
    intro n s _ empty _
    obtain ⟨-, q, next⟩ | stays := arbiter_cases s
    · exact absurd (List.length_pos_of_mem (nextRequest_mem next)) (Nat.not_lt.mpr empty)
    · rw [arbitrateN_stays stays, arbitrateN_stays stays]
  | succ m ih =>
    intro n s idles enough enough'
    obtain ⟨current, q, next⟩ | stays := arbiter_cases s
    · have fewer := startRating_fewer (idles current) next
      obtain ⟨n, rfl⟩ : ∃ k, n = k + 1 := ⟨n - 1, by omega⟩
      rw [arbitrateN_chooses current next, arbitrateN_chooses current next]
      exact ih n _ (startRating_pending (idles current) q).walk (by omega) (by omega)
    · rw [arbitrateN_stays stays, arbitrateN_stays stays]

/-- The arbiter's choice, and the arbiter going on from it (R78). -/
theorem arbitrate_chooses {s : State} (current : s.rating.current = none) {q : RateRequest}
    (next : s.nextRequest = some q) (free : s.cache.walk = none) :
    s.arbitrate = ((chosen s q).startRating q).arbitrate := by
  have fewer := startRating_fewer free next
  obtain ⟨n, length⟩ : ∃ n, s.rating.pendingList.length = n + 1 := ⟨s.rating.pendingList.length - 1, by omega⟩
  rw [State.arbitrate, length, arbitrateN_chooses current next]
  exact arbitrateN_fuel _ _ _ (startRating_pending free q).walk (by omega) le_rfl

theorem arbitrate_empty {s : State} (empty : s.rating.pendingList = []) : s.arbitrate = s := by
  rw [State.arbitrate, empty]
  rfl

theorem arbitrateN_waiting (n : Nat) : ∀ s : State, Idles s →
    (State.arbitrateN n s).cache.waiting = s.cache.waiting := by
  induction n with
  | zero => exact fun _ _ => rfl
  | succ n ih =>
    intro s idles
    obtain ⟨current, q, next⟩ | stays := arbiter_cases s
    · have worked := startRating_pending (idles current) q
      rw [arbitrateN_chooses current next, ih _ worked.walk, worked.waiting, (chosen_worked s q).1]
    · rw [arbitrateN_stays stays]

theorem arbitrate_waiting {s : State} (idles : Idles s) : s.arbitrate.cache.waiting = s.cache.waiting :=
  arbitrateN_waiting _ s idles

/-! ## A request begun (R78, R106) -/

/-- The state in which a chosen request is rated from its start. -/
theorem chosen_eq {s : State} {q : RateRequest} {it : OpenItem} {ph : RatePhase} {i : SlotId}
    (slot : s.openSlot q.position = .rating it ph i) : chosen s q = { s with
      rating := { s.rating with
        pendingList := s.rating.pendingList.filter fun o => o.position != q.position
        lastServed := q.position }
      items := { s.items with slots := s.items.slots.set q.position (.rating it .inProgress i) } } := by
  have slot : (s.onRating fun r => { r with
      pendingList := r.pendingList.filter fun o => o.position != q.position
      lastServed := q.position }).openSlot q.position = .rating it ph i := slot
  rw [chosen, State.slotInProgress, slot]
  rfl

/-- The state with a request placed in the pending list (R77). -/
def placed (s : State) (q : RateRequest) : State := s.onRating fun r => { r with pendingList := r.pendingList ++ [q] }

/-- A request that waits alone comes next, from whatever position was served last. -/
theorem nextRequest_alone {s : State} {q : RateRequest} (alone : s.rating.pendingList = [q]) :
    s.nextRequest = some q := by
  have go (n : Nat) (k : Pos) : State.nextRequest.go s (n + 1) k =
      if q.position = k then some q else State.nextRequest.go s n k.next := by
    by_cases here : q.position = k <;> simp [State.nextRequest.go, alone, here]
  rw [State.nextRequest]
  simp only [go]
  cases s.rating.lastServed <;> cases q.position <;> rfl

/-! ## A walk ends (R65, R81) -/

section
variable {s : State} {a : Answer}

theorem takeWaiting_none (waits : s.cache.waiting = none) : s.takeWaiting = s := by
  rw [State.takeWaiting, waits]

theorem answerRating_none (current : s.rating.current = none) : s.answerRating a = s := by
  rw [State.answerRating, current]

/-- An answer takes the rating in progress on, and the arbiter then chooses (R78, R79). -/
theorem answerRating_works {u : RatingRun} (current : s.rating.current = some u) (known : a ≠ .restart) :
    s.answerRating a = (s.workStage u.req.position u.service.maxWeight (u.answered a)).arbitrate := by
  rw [State.answerRating, current]
  exact if_neg known

theorem answerRating_of_prices {u : RatingRun} {z : State} (current : s.rating.current = some u) (known : a ≠ .restart)
    (free : s.cache.walk = none) (prices : Prices s u.req.position u.service.maxWeight (u.answered a) z) :
    s.answerRating a = z.arbitrate ∧ Worked s z := by
  have works := workStage_of_rates free (.inl prices)
  rw [answerRating_works current known, works]
  exact ⟨rfl, works ▸ workStage_worked free _ _ _⟩

end

/-- The state in which an orphan's walk has ended (R81). -/
def orphanEnded (s : State) : State := { s with
  cache := { s.cache with walk := none }, rating := { s.rating with orphan := none } }

/-- The state in which the cache takes the lookup that waited for an orphan's walk (R65). -/
def orphanDropped (s : State) : State := { s with
  cache := { s.cache with walk := none, waiting := none }
  rating := { s.rating with orphan := none } }

section
variable {s : State} {a : Answer}

/-- The answer of a walk whose lookup is the rating's own goes to the rating (R65). -/
theorem endWalk_asked (own : s.rating.orphan = none) :
    s.endWalk a = ((s.onCache fun c => { c with walk := none }).answerRating a).takeWaiting := by
  rw [State.endWalk, own]
  rfl

theorem endWalk_orphan (orphan : s.rating.orphan.isSome = true) : s.endWalk a = (orphanEnded s).takeWaiting := by
  rw [State.endWalk, if_pos orphan]
  rfl

section
variable (orphan : s.rating.orphan.isSome = true) {l : Lookup} (waits : s.cache.waiting = some l) {x : State}
include orphan waits

/-- The answer of an orphan's walk is dropped, and the lookup that waits is taken: it begins a walk (R65, R81). -/
theorem endWalk_orphan_walks (takes : (orphanDropped s).takeLookup l = (x, none)) : s.endWalk a = x := by
  rw [endWalk_orphan orphan, State.takeWaiting, show (orphanEnded s).cache.waiting = some l from waits]
  dsimp only
  rw [show ((orphanEnded s).onCache fun c => { c with waiting := none }).takeLookup l = (x, none) from takes]

/-- The lookup that waited for an orphan's walk is answered at once (R65). -/
theorem endWalk_orphan_answers {b : Answer} (takes : (orphanDropped s).takeLookup l = (x, some b)) :
    s.endWalk a = x.answerRating b := by
  rw [endWalk_orphan orphan, State.takeWaiting, show (orphanEnded s).cache.waiting = some l from waits]
  dsimp only
  rw [show ((orphanEnded s).onCache fun c => { c with waiting := none }).takeLookup l = (x, some b) from takes]

end

end

/-- Settles O31: the end of a walk by whose lookup it was; a rating by its stages; damage by the generation. -/
theorem walkEnds : Obligations.WalkEnds := by
  refine ⟨fun s a => ⟨?orphaned, ?unasked, fun u current => ⟨?answered, ?next⟩⟩, ?chosen, ?placed, ?damage⟩
  case orphaned =>
    intro orphan waits
    rw [endWalk_orphan orphan, takeWaiting_none (by exact waits)]
    rfl
  case unasked =>
    intro orphan current waits
    rw [endWalk_asked orphan, answerRating_none (by exact current), takeWaiting_none (by exact waits)]
    rfl
  case answered =>
    intro z orphan waits known prices
    obtain ⟨answers, worked⟩ := answerRating_of_prices (s := { s with cache := { s.cache with walk := none } })
      current known rfl prices
    have stays : z.arbitrate.cache.waiting = none :=
      (arbitrate_waiting worked.walk).trans (worked.waiting.trans waits)
    have ends : s.endWalk a = z.arbitrate := by
      rw [endWalk_asked orphan, ← takeWaiting_none stays, ← answers]
      rfl
    exact ⟨ends, fun empty => ends.trans (arbitrate_empty (worked.pending.trans empty))⟩
  case next =>
    intro l orphan waits
    dsimp only
    refine ⟨fun x takes => ?_, fun x b z takes known prices => ?_⟩
    · exact endWalk_orphan_walks orphan waits takes
    · obtain ⟨c, p, leaves, -, walk⟩ := takeLookup_leaves (orphanDropped s) l
      have takes : (orphanDropped s).takeLookup l = (x, some b) := takes
      rw [takes] at leaves walk
      have leaves : x = { orphanDropped s with cache := c, port := p } := leaves
      have free : x.cache.walk = none := by rw [leaves]; exact walk rfl
      have current : x.rating.current = some u := by rw [leaves]; exact current
      have pending : x.rating.pendingList = s.rating.pendingList := by rw [leaves]; rfl
      obtain ⟨answers, worked⟩ := answerRating_of_prices current known free prices
      have ends : s.endWalk a = z.arbitrate := (endWalk_orphan_answers orphan waits takes).trans answers
      exact ⟨ends, fun empty => ends.trans (arbitrate_empty (worked.pending.trans (pending.trans empty)))⟩
  case chosen =>
    intro s q it ph i z current next free slot _ rates
    rw [arbitrate_chooses current next free]
    have begun := chosen_eq slot
    refine congrArg State.arbitrate (workStage_of_rates ?_ ?_)
    · rw [begun]
      exact free
    · rw [begun]
      exact rates
  case placed =>
    intro s q it ph i z current empty free slot _ rates
    have alone : (placed s q).rating.pendingList = [q] := congrArg (· ++ [q]) empty
    have next : (placed s q).nextRequest = some q := nextRequest_alone alone
    have begun : chosen (placed s q) q = { s with
        rating := { s.rating with lastServed := q.position }
        items := { s.items with slots := s.items.slots.set q.position (.rating it .inProgress i) } } := by
      have emptied : [q].filter (fun o => o.position != q.position) = s.rating.pendingList := by simp [empty]
      rw [chosen_eq (by exact slot), alone, emptied]
      rfl
    have works : (chosen (placed s q) q).startRating q = z := by
      rw [begun]
      exact workStage_of_rates free rates
    have worked := startRating_pending (s := placed s q) free q
    rw [works, begun] at worked
    have chooses : s.placeRating q = z.arbitrate := by
      rw [← works]
      exact arbitrate_chooses (s := placed s q) current next free
    exact chooses.trans (arbitrate_empty (worked.pending.trans empty))
  case damage =>
    intro s generation record
    refine ⟨fun other => ?_, fun none => ?_, fun k t force same => ?_⟩
    · unfold State.damage
      split
      · rfl
      · exact if_neg other
    · rw [State.damage, none]
    · rw [State.damage, force]
      dsimp only
      rw [if_pos same]
      have kept : (((s.onBank k fun b => { b with state := .damaged }).onTariff fun c => { c with
          active := none }).onCache Cache.purge).descriptionOf k = (s.tariff.banks.get k).description :=
        by simp [State.descriptionOf]
      rw [kept]
      exact ⟨_, recordOf_written _ _ _, rfl⟩

end Sys2Proof.Machine.RatingEnds
end

section
/-! PROOFS of 03_tariff_image_and_banks.md: a tariff takes force (R53 to R55, R82), by request and by the calendar
(R197 to R199). -/

namespace Sys2Proof.Machine.Activation

open TariffBanks RatingEnds

/-! ## The bank in force -/

theorem activeBank_of {s : State} {k : Bank} (active : (s.tariff.banks.get k).state = .active)
    (other : (s.tariff.banks.get k.other).state ≠ .active) : s.activeBank = some k := by
  cases k <;> simp_all [State.activeBank, Two.get, Bank.other]

theorem stagedBank_of {s : State} {k : Bank} (staged : (s.tariff.banks.get k).state = .staged)
    (other : (s.tariff.banks.get k.other).state ≠ .staged) : s.stagedBank = some k := by
  cases k <;> simp_all [State.stagedBank, Two.get, Bank.other]

theorem stagedBank_none {s : State} (a : s.tariff.banks.a.state ≠ .staged) (b : s.tariff.banks.b.state ≠ .staged) :
    s.stagedBank = none := by
  simp [State.stagedBank, a, b]

theorem stagedTariff_of {s : State} {k : Bank} {x : Summary} (staged : (s.tariff.banks.get k).state = .staged)
    (other : (s.tariff.banks.get k.other).state ≠ .staged) (summary : s.tariff.staged = some x) :
    s.stagedTariff = some (k, x) := by
  rw [State.stagedTariff, stagedBank_of staged other, summary]

theorem stagedTariff_no_bank {s : State} (a : s.tariff.banks.a.state ≠ .staged) (b : s.tariff.banks.b.state ≠ .staged) :
    s.stagedTariff = none := by
  rw [State.stagedTariff, stagedBank_none a b]

/-! ## A rating in progress starts again (R82) -/

/-- A rating decided at its start is one that fails (R86 to R90). -/
theorem start_decided_fails {q : RateRequest} {tariff : Option Summary} {generation : Nat} {r : RateResult}
    (decided : q.start tariff generation = .decided r) : r.failure.isSome = true := by
  unfold RateRequest.start RateRequest.checked at decided
  split at decided
  · cases decided; rfl
  · split at decided
    · cases decided; rfl
    · dsimp only at decided
      split at decided
      · cases decided; rfl
      · split at decided
        · cases decided; rfl
        · split at decided
          · cases decided; rfl
          · split at decided <;> cases decided
            rfl

section
variable {s : State}

theorem restartRating_none (current : s.rating.current = none) : s.restartRating = s := by
  rw [State.restartRating, current]

variable {u : RatingRun} (current : s.rating.current = some u)
include current

theorem restartRating_some : s.restartRating = (s.leaveLookup.startRating u.req).arbitrate := by
  rw [State.restartRating, current]

/-- The lookup of a rating that starts again is dropped where it waits, and else is its walk's, the orphan (R81). -/
theorem leaveLookup_eq : s.leaveLookup = { s with
    cache := { s.cache with waiting := none }
    rating := if s.cache.waiting = none then { s.rating with orphan := some u.lookup } else s.rating } := by
  rw [State.leaveLookup, current]
  cases waiting : s.cache.waiting with
  | none => simp [← waiting, State.onRating]
  | some l => rfl

end

/-- A rating that goes on while a walk is in progress has its lookup wait for that walk (R65). -/
theorem startRating_waits {s : State} {q : RateRequest} {v : RatingRun} (walks : s.cache.walk.isSome = true)
    (goes_on : q.start (s.tariffInForce.map (·.2)) s.tariff.generation = .goesOn v) :
    s.startRating q = { s with
      rating := { s.rating with current := some v }, cache := { s.cache with waiting := some v.lookup } } := by
  have walks : (s.onRating fun n => { n with current := some v }).cache.walk.isSome = true := walks
  rw [State.startRating, goes_on, State.workStage, State.giveOn, State.giveLookup, if_pos walks]
  rfl

theorem startRating_decides {s : State} {q : RateRequest} {r : RateResult} {it : OpenItem} {ph : RatePhase} {j : SlotId}
    (decided : q.start (s.tariffInForce.map (·.2)) s.tariff.generation = .decided r)
    (slot : s.openSlot q.position = .rating it ph j) :
    s.startRating q = { s with
      rating := { s.rating with current := none }
      items := { s.items with slots := s.items.slots.set q.position (.opened it) }
      link := s.link.answer j (.refused .notRateable (.result r)) } := by
  rw [State.startRating, decided, State.workStage, State.giveOn,
    completeRating_failed slot (start_decided_fails decided)]

/-! ## The tariff takes force (R55) -/

/-- The other bank is emptied by an activation (R55). -/
abbrev emptiesOther (s : State) (k : Bank) : Prop :=
  (s.tariff.banks.get k.other).state = .active ∨ (s.tariff.banks.get k.other).state = .damaged

/-- The state with bank k in force under summary x, before the rest of the part is told (R55). -/
def inForce (s : State) (k : Bank) (x : Summary) : State := { s with tariff := { s.tariff with
  banks := (if emptiesOther s k then s.tariff.banks.set k.other
      { s.tariff.banks.get k.other with state := .empty, description := none } else s.tariff.banks).set k
    { s.tariff.banks.get k with state := .active }
  active := some x, staged := none, generation := nextGeneration s.tariff.generation } }

/-- The cache purged and the RATED slots stale (R71, R108). -/
def stale (s : State) : State := (s.onCache Cache.purge).markStale

/-- The state once the cache, the slots and the rating in progress have been told (R71, R82, R108). -/
def told (s : State) (k : Bank) (x : Summary) : State := (stale (inForce s k x)).restartRating

theorem told_counter (s : State) (k : Bank) (x : Summary) : CounterFrame (inForce s k x) (told s k x) :=
  ((CounterFrame.viaCache _ Cache.purge).andThen (State.markStale_counter _)).andThen (State.restartRating_counter _)

theorem inForce_self (s : State) (k : Bank) (x : Summary) :
    (inForce s k x).tariff.banks.get k = { s.tariff.banks.get k with state := .active } := Two.get_set_self ..

theorem inForce_other (s : State) (k : Bank) (x : Summary) : (inForce s k x).tariff.banks.get k.other =
    if emptiesOther s k then { s.tariff.banks.get k.other with state := .empty, description := none }
    else s.tariff.banks.get k.other := by
  refine (Two.get_set_other ..).trans ?_
  split
  · exact Two.get_set_self ..
  · rfl

/-- The bank activated is the ACTIVE one, with its summary (R39, R55). -/
theorem inForce_tariff (s : State) (k : Bank) (x : Summary) : (inForce s k x).tariffInForce = some (k, x) := by
  have other : ((inForce s k x).tariff.banks.get k.other).state ≠ .active := by
    rw [inForce_other]
    split
    · exact nofun
    · rename_i kept
      exact fun active => kept (.inl active)
  rw [State.tariffInForce, activeBank_of (congrArg BankRec.state (inForce_self s k x)) other]
  rfl

/-- The rewrite of a record, and after it that of the other bank's where it has been emptied (R38). -/
theorem rewriteRecord_pair (s : State) (k : Bank) (st : RecordedState) (d : Option Description) (emptied : Prop)
    [Decidable emptied] : (if emptied then (s.rewriteRecord k st d).rewriteRecord k.other .empty none
      else s.rewriteRecord k st d) = { s with
        tariff := { s.tariff with
          recordSeq := if emptied then s.tariff.recordSeq + 2 else s.tariff.recordSeq + 1 }
        port := s.port.asks ([.recordErase k, .recordProgram k (recordOf (s.tariff.recordSeq + 1) st d)] ++
          if emptied then [.recordErase k.other, .recordProgram k.other (recordOf (s.tariff.recordSeq + 2) .empty none)]
          else []) } := by
  have second : s.tariff.recordSeq + 1 + 1 = s.tariff.recordSeq + 2 := BitVec.add_assoc ..
  split
  · rw [← second]
    rfl
  · rfl

theorem cleared_inForce (s : State) (k : Bank) (x : Summary) :
    ((if emptiesOther s k then s.emptyBank k.other else s).onBank k fun b => { b with state := .active }).onTariff
      (fun c => { c with active := some x, staged := none, generation := nextGeneration c.generation }) =
    inForce s k x := by
  unfold inForce
  split
  · cases k <;> rfl
  · rfl

/-- An activation's rewrites of the records (R38, R55). -/
def written (s : State) (k : Bank) (x : Summary) : State :=
  let first := (told s k x).rewriteRecord k .active ((told s k x).descriptionOf k)
  if emptiesOther s k then first.rewriteRecord k.other .empty none else first

theorem activate_tells (s : State) (k : Bank) (x : Summary) (cause : ActivationCause) : s.activate k x cause =
    (written s k x).offer (.tariffActivated k x.header.tariffId x.header.version x.header.effective
      (nextGeneration s.tariff.generation) cause) := by
  unfold written told stale
  rw [← cleared_inForce]
  rfl

/-- What an activation leaves (R55): the part told, the rewrites of both records asked, the new ACTIVE bank's first, and
the notice offered. -/
theorem activate_records (s : State) (k : Bank) (x : Summary) (cause : ActivationCause) : ∃ r q,
    recordSays r (s.tariff.recordSeq + 1) .active (s.tariff.banks.get k).description ∧
    recordSays q (s.tariff.recordSeq + 2) .empty none ∧
    s.activate k x cause = { told s k x with
      tariff := { (inForce s k x).tariff with
        recordSeq := if emptiesOther s k then s.tariff.recordSeq + 2 else s.tariff.recordSeq + 1 }
      port := (told s k x).port.asks ([.recordErase k, .recordProgram k r] ++
        if emptiesOther s k then [.recordErase k.other, .recordProgram k.other q] else [])
      link := (told s k x).link.offer (.tariffActivated k x.header.tariffId x.header.version x.header.effective
        (nextGeneration s.tariff.generation) cause) } := by
  have tariff : (told s k x).tariff = (inForce s k x).tariff := (told_counter s k x).tariff
  refine ⟨_, _, recordOf_written _ _ _, recordOf_written _ _ _, ?_⟩
  have description : (told s k x).descriptionOf k = (s.tariff.banks.get k).description := by
    rw [State.descriptionOf, tariff, inForce_self]
  rw [activate_tells, written, description, rewriteRecord_pair, tariff]
  rfl

/-! ## What an activation leaves of the rating, the cache and the slots (R71, R82, R108) -/

/-- What the cache, the slots and the rating in progress are left with once an activation has told them. -/
structure Tells (s : State) (k : Bank) (x : Summary) (rating : Rating) (cache : Cache) (slots : Six OpenSlot)
    (link : Link) : Prop where
  rating : (told s k x).rating = rating
  cache : (told s k x).cache = cache
  slots : (told s k x).items.slots = slots
  link : (told s k x).link = link
  port : (told s k x).port = s.port

section
variable {s : State} (k : Bank) (x : Summary)

theorem tells_idle (current : s.rating.current = none) :
    Tells s k x s.rating s.cache.purge (s.items.slots.map OpenSlot.markStale) s.link := by
  have stays : told s k x = stale (inForce s k x) := restartRating_none (s := stale (inForce s k x)) current
  constructor <;> rw [stays] <;> rfl

/-- The rating in progress as it is left before it starts again (R81, R82). -/
def leftRating (s : State) (u : RatingRun) : Rating :=
  if s.cache.waiting = none then { s.rating with orphan := some u.lookup } else s.rating

/-- The state in which the rating in progress starts again under the new summary (R82). -/
def restarting (s : State) (k : Bank) (x : Summary) (u : RatingRun) : State := { stale (inForce s k x) with
  cache := { s.cache.purge with waiting := none }, rating := leftRating s u }

theorem restarting_tariff (u : RatingRun) : (restarting s k x u).tariffInForce = some (k, x) := inForce_tariff s k x

variable {u : RatingRun} (current : s.rating.current = some u)
include current

theorem told_restarts : told s k x = ((restarting s k x u).startRating u.req).arbitrate := by
  have current : (stale (inForce s k x)).rating.current = some u := current
  rw [told, restartRating_some current, leaveLookup_eq current]
  rfl

theorem tells_decides {r : RateResult} {it : OpenItem} {ph : RatePhase} {j : SlotId}
    (decided : u.req.start (some x) (nextGeneration s.tariff.generation) = .decided r)
    (empty : s.rating.pendingList = []) (slot : s.openSlot u.req.position = .rating it ph j) :
    Tells s k x { leftRating s u with current := none } { s.cache.purge with waiting := none }
      ((s.items.slots.map OpenSlot.markStale).set u.req.position (.opened it))
      (s.link.answer j (.refused .notRateable (.result r))) := by
  have decided : u.req.start ((restarting s k x u).tariffInForce.map (·.2)) (restarting s k x u).tariff.generation =
      .decided r := by
    rw [restarting_tariff]
    exact decided
  have slot : (restarting s k x u).openSlot u.req.position = .rating it ph j := by
    show (s.items.slots.map OpenSlot.markStale).get u.req.position = _
    rw [Six.get_map, show s.items.slots.get u.req.position = .rating it ph j from slot]
    rfl
  have empty : (leftRating s u).pendingList = [] := by
    unfold leftRating
    split <;> exact empty
  have ends : told s k x = { restarting s k x u with
      rating := { leftRating s u with current := none }
      items := { s.items with slots := (s.items.slots.map OpenSlot.markStale).set u.req.position (.opened it) }
      link := s.link.answer j (.refused .notRateable (.result r)) } := by
    rw [told_restarts k x current, startRating_decides decided slot]
    exact arbitrate_empty empty
  constructor <;> rw [ends] <;> rfl

variable (walks : s.cache.walk.isSome = true)
include walks

theorem tells_waits {v : RatingRun}
    (goes_on : u.req.start (some x) (nextGeneration s.tariff.generation) = .goesOn v) :
    Tells s k x { leftRating s u with current := some v } { s.cache.purge with waiting := some v.lookup }
      (s.items.slots.map OpenSlot.markStale) s.link := by
  have goes_on : u.req.start ((restarting s k x u).tariffInForce.map (·.2)) (restarting s k x u).tariff.generation =
      .goesOn v := by
    rw [restarting_tariff]
    exact goes_on
  have waits : told s k x = { restarting s k x u with
      rating := { leftRating s u with current := some v }
      cache := { s.cache.purge with waiting := some v.lookup } } := by
    rw [told_restarts k x current, startRating_waits (by exact walks) goes_on]
    exact arbitrateN_stays (.inl (Option.some_ne_none v)) _
  constructor <;> rw [waits] <;> rfl

end

/-- What an activation of bank k leaves in `t`: the rating, the cache, the slots and the link as given, and the rewrites
of the records asked (R55). -/
def Leaves (s : State) (k : Bank) (t : State) (rating : Rating) (cache : Cache) (slots : Six OpenSlot)
    (link : Link) : Prop :=
  t.rating = rating ∧ t.cache = cache ∧ t.items.slots = slots ∧ t.link = link ∧
  ∃ r q, recordSays r (s.tariff.recordSeq + 1) .active (s.tariff.banks.get k).description ∧
    recordSays q (s.tariff.recordSeq + 2) .empty none ∧
    t.port = s.port.asks ([.recordErase k, .recordProgram k r] ++
      if emptiesOther s k then [.recordErase k.other, .recordProgram k.other q] else [])

section
variable {s t : State} {k : Bank} {x : Summary} {rating : Rating} {cache : Cache} {slots : Six OpenSlot} {link : Link}

theorem activate_leaves (tells : Tells s k x rating cache slots link) (cause : ActivationCause) :
    Leaves s k (s.activate k x cause) rating cache slots (link.offer (.tariffActivated k x.header.tariffId
      x.header.version x.header.effective (nextGeneration s.tariff.generation) cause)) := by
  obtain ⟨r, q, first, second, leaves⟩ := activate_records s k x cause
  obtain ⟨rating, cache, slots, link, port⟩ := tells
  rw [leaves]
  exact ⟨rating, cache, slots, by rw [link], r, q, first, second, by rw [port]⟩

/-- An answer after an activation adds to what the activation leaves (log 46). -/
theorem leaves_answered (leaves : Leaves s k t rating cache slots link) (i : SlotId) (r : Reply) :
    Leaves s k (t.answer i r) rating cache slots (link.answer i r) := by
  obtain ⟨rating, cache, slots, link, asked⟩ := leaves
  exact ⟨rating, cache, slots, congrArg (Link.answer i r) link, asked⟩

end

/-- What an activation leaves of the Tariff Controller and its memory (R55). -/
theorem activate_banks (s : State) (k : Bank) (x : Summary) (cause : ActivationCause) :
    (s.activate k x cause).tariff.banks.get k = { s.tariff.banks.get k with state := .active } ∧
    (s.activate k x cause).tariff.banks.get k.other =
      (if emptiesOther s k then { s.tariff.banks.get k.other with state := .empty, description := none }
      else s.tariff.banks.get k.other) ∧
    (s.activate k x cause).tariff.active = some x ∧ (s.activate k x cause).tariff.staged = none ∧
    (s.activate k x cause).tariff.generation = nextGeneration s.tariff.generation ∧
    (s.activate k x cause).tariff.session = s.tariff.session ∧ (s.activate k x cause).flash = s.flash := by
  obtain ⟨r, q, -, -, leaves⟩ := activate_records s k x cause
  rw [leaves]
  exact ⟨inForce_self s k x, inForce_other s k x, rfl, rfl, rfl, rfl, (told_counter s k x).flash⟩

/-! ## T_ACTIVATE (R54) -/

theorem exec_tActivate {s : State} {i : SlotId} (takes : s.takes i) (tag : Byte) :
    exec (.tActivate tag) s = .next (serveTActivate i (s.held i tag .tActivate)) :=
  congrArg _ (s.request_takes takes tag .tActivate _)

/-- Settles O23: the activation by what the rating in progress is left with. -/
theorem stagedTariffActivated : Obligations.StagedTariffActivated := by
  intro s i tag takes
  refine ⟨fun a b => ?_, fun k x staged other summary => ?_⟩
  · rw [exec_tActivate takes, serveTActivate, stagedTariff_no_bank (by exact a) (by exact b)]
    exact congrArg _ (s.answer_held i tag .tActivate _)
  · have served : exec (.tActivate tag) s = .next (((s.held i tag .tActivate).activate k x .request).ok i
        (.activated k x.header.tariffId x.header.version (nextGeneration s.tariff.generation))) := by
      rw [exec_tActivate takes, serveTActivate,
        stagedTariff_of (s := s.held i tag .tActivate) staged other summary] <;> rfl
    have frame : TariffFrame s (((s.held i tag .tActivate).activate k x .request).ok i
        (.activated k x.header.tariffId x.header.version (nextGeneration s.tariff.generation))) :=
      ((TariffFrame.ofCounter (.viaHold s i tag _)).andThen (State.activate_tariff _ k x _)).andThen (.viaAnswer _ _ _)
    obtain ⟨self, other, active, none_staged, generation, session, flash⟩ :=
      activate_banks (s.held i tag .tActivate) k x .request
    refine ⟨_, served, frame, self, other, active, none_staged, generation, session, flash, fun current => ?_,
      fun u current walks => ⟨fun v goes_on => ?_, fun r it ph j decided empty slot => ?_⟩⟩
    · have tells := tells_idle (s := s.held i tag .tActivate) k x current
      exact leaves_answered (activate_leaves tells .request) i _
    · have tells := tells_waits (s := s.held i tag .tActivate) k x current walks goes_on
      exact leaves_answered (activate_leaves tells .request) i _
    · have tells := tells_decides (s := s.held i tag .tActivate) k x current decided empty slot
      exact leaves_answered (activate_leaves tells .request) i _

/-! ## The effective-minute check (R53) -/

section
variable {s : State}

theorem effectiveCheck_unset (unset : s.time.calendar = none) : s.effectiveCheck = s := by
  rw [State.effectiveCheck, State.minuteNow, unset]
  rfl

theorem effectiveCheck_none (none_staged : s.stagedTariff = none) : s.effectiveCheck = s := by
  rw [State.effectiveCheck, none_staged]
  cases s.minuteNow <;> rfl

theorem stagedTariff_no_summary (none_staged : s.tariff.staged = none) : s.stagedTariff = none := by
  rw [State.stagedTariff, none_staged]
  cases s.stagedBank <;> rfl

theorem stagedTariff_summary {k : Bank} {x y : Summary} (summary : s.tariff.staged = some x)
    (staged : s.stagedTariff = some (k, y)) : y = x := by
  unfold State.stagedTariff at staged
  split at staged
  · rename_i summary'
    cases staged
    exact Option.some.inj (summary'.symm.trans summary)
  · cases staged

variable {now : Minute} (minute : s.minuteNow = some now) {x : Summary}
include minute

theorem effectiveCheck_ahead (summary : s.tariff.staged = some x) (ahead : now.key < x.header.effective.key) :
    s.effectiveCheck = s := by
  cases staged : s.stagedTariff with
  | none => exact effectiveCheck_none staged
  | some kt =>
    obtain ⟨k, y⟩ := kt
    obtain rfl := stagedTariff_summary summary staged
    rw [State.effectiveCheck, minute, staged]
    exact if_neg (by simpa [Minute.atOrBefore] using ahead)

theorem effectiveCheck_due {k : Bank} (staged : s.stagedTariff = some (k, x))
    (due : x.header.effective.key ≤ now.key) : s.effectiveCheck = s.activate k x .time := by
  rw [State.effectiveCheck, minute, staged]
  exact if_pos (decide_eq_true due)

end

end Sys2Proof.Machine.Activation
end

section
/-! PROOFS of 10_host_link_calendar_and_settings.md: the calendar and its second (R197 to R199), and the
effective-minute check (R53). -/

namespace Sys2Proof.Machine.Calendar

open Activation ImageChecks

/-- The order of the keys is that of the minutes they are of (R53). -/
theorem key_le_iff {a b : Minute} (am : a.month ≤ 12) (ad : a.day ≤ 31) (ah : a.hour ≤ 23) (ami : a.minute ≤ 59)
    (bm : b.month ≤ 12) (bd : b.day ≤ 31) (bh : b.hour ≤ 23) (bmi : b.minute ≤ 59) :
    a.key ≤ b.key ↔ a.year < b.year ∨ (a.year = b.year ∧ (a.month < b.month ∨ (a.month = b.month ∧ (a.day < b.day ∨
      (a.day = b.day ∧ (a.hour < b.hour ∨ (a.hour = b.hour ∧ a.minute ≤ b.minute))))))) := by
  unfold Minute.key
  omega

/-! ## S_CLOCK_SET (R198) -/

theorem between_iff (lo hi n : Nat) : between lo hi n = true ↔ lo ≤ n ∧ n ≤ hi := by
  simp only [between, Bool.and_eq_true, decide_eq_true_eq]

/-- The fields of S_CLOCK_SET are checked in the request's order (R198, log 29). -/
theorem clockFault_eq (c : Clock) : clockFault c =
    if ¬(2000 ≤ c.minute.year ∧ c.minute.year ≤ 2099) then some .year
    else if ¬(1 ≤ c.minute.month ∧ c.minute.month ≤ 12) then some .month
    else if ¬(1 ≤ c.minute.day ∧ c.minute.day ≤ daysIn c.minute.year c.minute.month) then some .day
    else if 23 < c.minute.hour then some .hour
    else if 59 < c.minute.minute then some .minute
    else if 59 < c.second then some .second
    else none := by
  simp only [clockFault, ← between_iff, Bool.not_eq_true, Bool.not_eq_true']

section
variable {s : State} {i : SlotId} (takes : s.takes i) (tag : Byte) {c : Clock}
include takes

theorem exec_sClockSet_refused {f : FieldName} (fault : clockFault c = some f) :
    exec (.sClockSet tag c) s = s.refuses i tag .sClockSet .badField (.field f) := by
  refine (congrArg Host.Outcome.next (s.request_takes takes tag .sClockSet _)).trans ?_
  rw [serveSClockSet, fault]
  exact congrArg _ (s.answer_held i tag .sClockSet _)

theorem exec_sClockSet_taken (valid : clockFault c = none) : exec (.sClockSet tag c) s = .next (
    (((s.held i tag .sClockSet).onTime fun t => { t with calendar := some c, msPhase := 0 }).effectiveCheck).answer i
      (.ok (.clock s.time.calendar))) := by
  refine (congrArg Host.Outcome.next (s.request_takes takes tag .sClockSet _)).trans ?_
  rw [serveSClockSet, valid]
  rfl

end

/-! ## The calendar second (R197, R199) -/

/-- The state with the calendar one second on (R197). -/
def ticked (s : State) (c : Clock) : State := s.onTime fun t => { t with msPhase := 0, calendar := c.next }

section
variable {s : State} (running : s.running = true)
include running

theorem exec_calendarSecond : exec .calendarSecond s = .next s.second := congrArg _ (if_pos running)

theorem exec_calendarSecond_unset (unset : s.time.calendar = none) :
    exec .calendarSecond s = .next (s.onTime fun t => { t with msPhase := 0 }) := by
  have phased : (s.onTime fun t => { t with msPhase := 0, calendar := t.calendar.bind Clock.next }) =
      s.onTime fun t => { t with msPhase := 0 } := by
    simp only [State.onTime, unset]
    rfl
  rw [exec_calendarSecond running, State.second, phased]
  simp [unset]

variable {c : Clock} (calendar : s.time.calendar = some c)
include calendar

omit running in
theorem second_ticks : (s.onTime fun t => { t with msPhase := 0, calendar := t.calendar.bind Clock.next }) =
    ticked s c := by
  simp only [State.onTime, ticked, calendar]
  rfl

/-- A full minute in READY runs the effective-minute check (R199). -/
theorem exec_calendarSecond_full {d : Clock} (next : c.next = some d) (full : d.second = 0)
    (ready : s.link.part = .ready) : exec .calendarSecond s = .next (ticked s c).effectiveCheck := by
  rw [exec_calendarSecond running, State.second, second_ticks calendar,
    show (ticked s c).time.calendar = some d from next]
  exact congrArg _ (if_pos ⟨full, ready⟩)

theorem exec_calendarSecond_quiet (quiet : ∀ d, c.next = some d → ¬(d.second = 0 ∧ s.link.part = .ready)) :
    exec .calendarSecond s = .next (ticked s c) := by
  rw [exec_calendarSecond running, State.second, second_ticks calendar]
  cases next : c.next with
  | none =>
    rw [show (ticked s c).time.calendar = none from next]
  | some d =>
    rw [show (ticked s c).time.calendar = some d from next]
    exact congrArg _ (if_neg (quiet d next))

end

theorem next_minute (m : Minute) : (⟨m, 59⟩ : Clock).next = m.next.map fun m => ⟨m, 0⟩ := rfl

/-- Settles O55: each field of a clock in its order; a second by the field that carries; the check by the minute. -/
theorem calendarKept : Obligations.CalendarKept := by
  refine ⟨?set, ?second, ?next, fun _ _ am ad ah ami bm bd bh bmi => key_le_iff am ad ah ami bm bd bh bmi, ?check⟩
  case set =>
    intro s i tag c takes
    dsimp only
    have fault := clockFault_eq c
    have refused {f : FieldName} : clockFault c = some f → _ := exec_sClockSet_refused takes tag
    refine ⟨fun year => refused ?_, fun year month => refused ?_, fun year month day => refused ?_,
      fun year month day hour => refused ?_, fun year month day hour minute => refused ?_,
      fun year month day hour minute second => refused ?_, fun year month day hour minute second => ?_⟩
    · rw [fault, if_pos year]
    · rw [fault, if_neg (not_not_intro year), if_pos month]
    all_goals rw [daysIn_month month.1 month.2, if_neg (not_not_intro year), if_neg (not_not_intro month)] at fault
    · rw [fault, if_pos day]
    all_goals rw [if_neg (not_not_intro day)] at fault
    · rw [fault, if_pos hour]
    all_goals rw [if_neg (Nat.not_lt.mpr hour)] at fault
    · rw [fault, if_pos minute]
    all_goals rw [if_neg (Nat.not_lt.mpr minute)] at fault
    · rw [fault, if_pos second]
    · rw [if_neg (Nat.not_lt.mpr second)] at fault
      exact exec_sClockSet_taken takes tag fault
  case second =>
    intro s running
    refine ⟨exec_calendarSecond_unset running, fun c calendar =>
      ⟨fun d => exec_calendarSecond_full running calendar, fun quiet => ?_⟩⟩
    refine exec_calendarSecond_quiet running calendar fun d next ⟨full, ready⟩ => ?_
    obtain part_way | starting := quiet d next
    · exact part_way full
    · cases starting.symm.trans ready
  case next =>
    intro y mo d h mi se
    dsimp only
    intro low high day hour minute second year
    rw [← daysIn_month low high y] at day ⊢
    refine ⟨fun short => ?_, fun full short => ?_, fun full whole short => ?_, fun full whole last => ?_⟩
    · exact if_pos short
    all_goals subst full
    · rw [next_minute, Minute.next, if_pos short]
      rfl
    all_goals subst whole
    · rw [next_minute, Minute.next, if_neg (Nat.lt_irrefl _), if_pos short]
      rfl
    subst last
    rw [next_minute, Minute.next, if_neg (Nat.lt_irrefl _), if_neg (Nat.lt_irrefl _)]
    refine ⟨fun short => ?_, fun ends short => ?_, fun ends december short => ?_, fun ends december last => ?_⟩
    · rw [if_pos short]
      rfl
    all_goals subst ends; rw [if_neg (Nat.lt_irrefl _)]
    · rw [if_pos short]
      rfl
    all_goals subst december; rw [if_neg (Nat.lt_irrefl _)]
    · rw [if_pos short]
      rfl
    · rw [if_neg (by rw [last]; decide)]
      rfl
  case check =>
    intro s
    refine ⟨effectiveCheck_unset, fun summary => effectiveCheck_none (stagedTariff_no_summary summary),
      fun a b => effectiveCheck_none (stagedTariff_no_bank a b), fun c x calendar summary => ?_⟩
    have minute : s.minuteNow = some c.minute := by rw [State.minuteNow, calendar]; rfl
    refine ⟨effectiveCheck_ahead minute summary, fun k due staged other => ?_⟩
    rw [effectiveCheck_due minute (stagedTariff_of staged other summary) due]
    obtain ⟨self, other, active, none_staged, generation, session, flash⟩ := activate_banks s k x .time
    exact ⟨State.activate_tariff s k x .time, self, other, active, none_staged, generation, session, flash,
      fun current => activate_leaves (tells_idle k x current) .time,
      fun u current walks => ⟨fun v goes_on => activate_leaves (tells_waits k x current walks goes_on) .time,
        fun r it ph j decided empty slot => activate_leaves (tells_decides k x current decided empty slot) .time⟩⟩

end Sys2Proof.Machine.Calendar
end

section
/-! PROOFS of 03_tariff_image_and_banks.md: the drive at the end of the start-up scan. An emergency stop takes the drive
into ESTOPPED (R132, R152), and nothing that follows on the line moves it from there (log 11). -/

namespace Sys2Proof.Machine.Standstill

/-- `t` has the drive state and the stop reason of `s`. -/
structure SameDrive (s t : State) : Prop where
  drive : t.belt.drive = s.belt.drive
  reason : t.belt.reason = s.belt.reason

namespace SameDrive
variable {s t u : State}

theorem refl (s : State) : SameDrive s s := ⟨rfl, rfl⟩

theorem andThen (a : SameDrive s t) (b : SameDrive t u) : SameDrive s u :=
  ⟨b.drive.trans a.drive, b.reason.trans a.reason⟩

theorem after (b : SameDrive t u) (a : SameDrive s t) : SameDrive s u := a.andThen b

theorem ite {c : Prop} [Decidable c] (a : SameDrive s t) (b : SameDrive s u) : SameDrive s (if c then t else u) := by
  split <;> assumption

theorem foldl {α : Type} {f : State → α → State} (h : ∀ t a, SameDrive t (f t a)) (l : List α) (s : State) :
    SameDrive s (l.foldl f s) := by
  induction l generalizing s with
  | nil => exact refl s
  | cons a rest ih => exact (h s a).andThen (ih _)

end SameDrive

open SameDrive

/-! ## Entries, register and labels -/

variable (s : State)

theorem onEntry_drive (id : Nat) (f : Entry → Entry) : SameDrive s (s.onEntry id f) := ⟨rfl, rfl⟩

theorem removeEntry_drive (id : Nat) : SameDrive s (s.removeEntry id) := ⟨rfl, rfl⟩

theorem closeItem_drive (n : Nat) (o : ItemOutcome) : SameDrive s (s.closeItem n o) := by
  unfold State.closeItem
  split <;> exact ⟨rfl, rfl⟩

theorem setLabel_drive (id : Nat) (l : LabelState) : SameDrive s (s.setLabel id l) := by
  unfold State.setLabel
  split <;> exact ⟨rfl, rfl⟩

theorem eject_drive (owner : Option Nat) (l : LabelState) : SameDrive s (s.eject owner l) := by
  unfold State.eject
  refine SameDrive.andThen (t := match owner with
    | none => s
    | some id => if (s.labelOf id).any (fun l => !finalLabel l) then s.setLabel id l else s) ?_ ⟨rfl, rfl⟩
  split
  · exact refl s
  · exact ite (setLabel_drive s _ _) (refl s)

theorem loseLabel_drive (id : Nat) : SameDrive s (s.loseLabel id) := by
  unfold State.loseLabel
  split
  · exact setLabel_drive s id _
  · exact (setLabel_drive s id _).andThen ⟨rfl, rfl⟩
  · exact ite ((eject_drive s (some id) .wasted).andThen ⟨rfl, rfl⟩) (refl s)
  all_goals exact refl s

theorem flagEntry_drive (r : RejectReason) (id : Nat) : SameDrive s (s.flagEntry r id) := by
  unfold State.flagEntry
  split
  · exact refl s
  · refine ite (refl s) ?_
    dsimp only
    split
    · exact onEntry_drive s _ _
    · exact (loseLabel_drive _ id).after ⟨rfl, rfl⟩

theorem flagAll_drive (r : RejectReason) (ids : List Nat) : SameDrive s (s.flagAll r ids) :=
  foldl (fun t id => flagEntry_drive t r id) ids s

/-! ## Retirement (R147, R149) -/

theorem dropMissing_drive (e : Entry) : SameDrive s (s.dropMissing e) := by
  unfold State.dropMissing
  split
  · exact removeEntry_drive s _
  · exact ((closeItem_drive s _ _).andThen (loseLabel_drive _ _)).andThen (removeEntry_drive _ _)

theorem retire_drive (e : Entry) : SameDrive s (s.retire e) := by
  unfold State.retire
  split
  · exact removeEntry_drive s _
  · exact ite ((closeItem_drive s _ _).andThen (removeEntry_drive _ _)) (dropMissing_drive s e)

theorem retireStep_drive (id : Nat) : SameDrive s (s.retireStep id) := by
  unfold State.retireStep
  split
  · exact refl s
  · exact ite (refl s) (ite (ite (onEntry_drive s _ _) (retire_drive s _)) (refl s))

theorem retireAll_drive : SameDrive s s.retireAll := foldl retireStep_drive _ s

/-! ## Printer, tamp and diverter -/

theorem fireTamp_drive : SameDrive s s.fireTamp := by
  unfold State.fireTamp
  split
  · exact ite ⟨rfl, rfl⟩ (refl s)
  all_goals exact refl s

theorem printOrder_drive : SameDrive s s.printOrder := by
  unfold State.printOrder State.sendJob
  refine ite ?_ (refl s)
  split
  · exact refl s
  · split
    · exact refl s
    · exact (setLabel_drive s _ _).andThen ⟨rfl, rfl⟩

theorem divert_drive : SameDrive s s.divert := ite (ite (refl s) ⟨rfl, rfl⟩) ⟨rfl, rfl⟩

/-! ## Releases (R162 to R170) -/

theorem askWindow_drive (k : Pos) (e : RegEntry) (terms : Bool) : SameDrive s (s.askWindow k e terms) := by
  unfold State.askWindow State.reserve
  split
  · rename_i t reserved
    split at reserved <;> cases reserved
    exact ⟨rfl, rfl⟩
  · exact ⟨rfl, rfl⟩

theorem chooseCandidate_drive (again : Bool) : SameDrive s (s.chooseCandidate again) := by
  unfold State.chooseCandidate
  split
  · exact .ite (.ite (askWindow_drive s _ _ _) (refl s)) ((askWindow_drive (s.onRelease _) _ _ _).after ⟨rfl, rfl⟩)
  · exact ⟨rfl, rfl⟩

theorem settleRelease_drive (again : Bool) : SameDrive s (s.settleRelease again) := by
  unfold State.settleRelease
  split
  · exact chooseCandidate_drive s again
  · exact ⟨rfl, rfl⟩
  all_goals exact refl s

theorem endUninducted_drive : SameDrive s s.endUninducted := by
  unfold State.endUninducted
  split <;> exact ⟨rfl, rfl⟩

/-! ## The emergency-stop path and what follows it (R132, log 11) -/

/-- The drive is ESTOPPED by the emergency stop. -/
structure Halted (s : State) : Prop where
  drive : s.belt.drive = .estopped
  reason : s.belt.reason = .estop

variable {s}

theorem Halted.keeps {t : State} (h : Halted s) (same : SameDrive s t) : Halted t :=
  ⟨same.drive.trans h.drive, same.reason.trans h.reason⟩

theorem estopPath_halts (s : State) : Halted (s.estopPath .estop) := by
  unfold State.estopPath State.changeDrive State.dropReservations
  have halts : Halted (if (s.onBelt fun b => { b with
      drive := .estopped, reason := .estop, setpoint := 0, target := 0, waitEntry := none }).belt.drive = s.belt.drive
      then (s.onBelt fun b => { b with
        drive := .estopped, reason := .estop, setpoint := 0, target := 0, waitEntry := none })
      else (s.onBelt fun b => { b with
        drive := .estopped, reason := .estop, setpoint := 0, target := 0, waitEntry := none }).beltNotice) := by
    split <;> exact ⟨rfl, rfl⟩
  exact ((halts.keeps ((endUninducted_drive (State.onBelt _ _)).after ⟨rfl, rfl⟩)).keeps (flagAll_drive _ _ _)).keeps
    ⟨rfl, rfl⟩

section
variable (halted : Halted s)
include halted

theorem labelWaitRestart_halted : s.labelWaitRestart = s :=
  if_neg fun waits => by cases halted.reason.symm.trans waits.1

theorem judgeCreep_halted : s.judgeCreep = s := by
  have stands : s.creepEntry = none := by
    rw [State.creepEntry, halted.drive]
    rfl
  rw [State.judgeCreep, stands]
  exact if_neg fun creeps => by cases halted.drive.symm.trans creeps

/-- Settling leaves a drive ESTOPPED where it is (log 11). -/
theorem settle_halted (before : State) : Halted (State.settle before s) := by
  have printed : Halted s.fireTamp.retireAll.printOrder :=
    ((halted.keeps (fireTamp_drive s)).keeps (retireAll_drive _)).keeps (printOrder_drive _)
  have settled : Halted s.settleBelt := by
    unfold State.settleBelt
    rw [labelWaitRestart_halted printed, judgeCreep_halted printed]
    exact printed.keeps ⟨rfl, rfl⟩
  exact (settled.keeps (settleRelease_drive _ _)).keeps (divert_drive _)

end

end Sys2Proof.Machine.Standstill
end

section
/-! PROOFS of 03_tariff_image_and_banks.md: what a verification read does, by load or in the start-up scan (R51 to R53,
R57, R59). -/

namespace Sys2Proof.Machine.VerificationReads

open TariffBanks LoadAccesses Activation Standstill

/-! ## The read (R51, R57) -/

theorem readRun_length (m : Memory) : ∀ (count x : Nat), (Memory.readRun m x count).length = count
  | 0, _ => rfl
  | count + 1, x => congrArg Nat.succ (readRun_length m count (x + 1))

/-- A read that completes moves the port on, and the verifier takes its bytes: those delivered, and the memory's for
what was not (R57, log 41). -/
theorem exec_verificationRead {s : State} (running : s.running = true) {k : Bank} {offset count : Nat}
    (current : s.port.current = some (.verification k offset count)) (d : Option (List Byte)) :
    exec (.verificationReadComplete d) s = .next ((s.onPort Port.complete).verifyRead
      (State.readBytes (Memory.readRun s.flash.cells (bankBase k + offset) count) d)) := by
  show Host.Outcome.next (s.whenRunning _) = _
  rw [State.whenRunning, if_pos running, current]
  rfl

section
variable {s : State} {v : Verify} (verify : s.tariff.verify = some v) {bs : List Byte}
include verify

theorem verifyRead_more {w : Verify} (more : v.feed bs = .more w) : s.verifyRead bs = s.askVerify w := by
  simp only [State.verifyRead, verify, more]

theorem verifyRead_failed {c : VerifyCheck} {n : Nat} (failed : v.feed bs = .failed c n) :
    s.verifyRead bs = s.endVerify v (.error (c, n)) := by
  simp only [State.verifyRead, verify, failed]

theorem verifyRead_passed {x : Summary} (passed : v.feed bs = .passed x) :
    s.verifyRead bs = s.endVerify v (.ok x) := by
  simp only [State.verifyRead, verify, passed]

end

section
variable {s : State} {v : Verify}

theorem endVerify_load {w : VerifyWait} {rest : List VerifyWait} (load : v.startUp = false)
    (queue : s.tariff.queue = w :: rest) : (∀ x, s.endVerify v (.ok x) = s.verifyPassed w x) ∧
      ∀ c n, s.endVerify v (.error (c, n)) = s.verifyFailed w c n := by
  constructor <;> intros <;> simp [State.endVerify, load, queue]

theorem endVerify_scan (scan : v.startUp = true) : (∀ x, s.endVerify v (.ok x) = s.scanPassed v.bank x) ∧
    ∀ c n, s.endVerify v (.error (c, n)) = s.scanFailed v.bank c n := by
  constructor <;> intros <;> simp [State.endVerify, scan]

end

/-! ## A loaded bank (R52) -/

/-- A loaded bank that fails (R52): its record's rewrite is asked before the verifier turns (log 62). -/
theorem verifyFailed_records {s : State} {w : VerifyWait} {rest : List VerifyWait} (queue : s.tariff.queue = w :: rest)
    (c : VerifyCheck) (n : Nat) : ∃ r, recordSays r (s.tariff.recordSeq + 1) .empty none ∧
      s.verifyFailed w c n = State.turnVerifier { s with
        tariff := { s.tariff with
          verify := none, queue := rest, recordSeq := s.tariff.recordSeq + 1
          banks := s.tariff.banks.set w.bank { s.tariff.banks.get w.bank with
            state := .empty, description := none, lastResult := some (.failed c n) } }
        port := s.port.asks [.recordErase w.bank, .recordProgram w.bank r]
        link := s.link.answer w.slot (.refused .verifyFailed (.verifyFailed c n)) } := by
  have emptied : (s.leaveQueue.emptyBank w.bank).onBank w.bank (fun b => { b with lastResult := some (.failed c n) }) =
      { s with tariff := { s.tariff with
        verify := none, queue := rest
        banks := s.tariff.banks.set w.bank { s.tariff.banks.get w.bank with
          state := .empty, description := none, lastResult := some (.failed c n) } } } := by
    simp only [State.leaveQueue, State.emptyBank, State.onBank, State.onTariff, queue, Two.get_set_self, set_set]
    rfl
  unfold State.verifyFailed
  dsimp only
  rw [emptied]
  exact ⟨_, recordOf_written _ _ _, rfl⟩

/-- Bank k as it is once its image has passed (R52). -/
def stagedRec (b : BankRec) (x : Summary) : BankRec := { b with
  state := .staged, lastResult := some .passed
  description := b.description.map fun y =>
    { y with tariff := some (x.header.tariffId, x.header.version, x.header.effective) } }

/-- The other bank is emptied by the staging of bank k (R52). -/
abbrev unstagesOther (s : State) (k : Bank) : Prop := (s.tariff.banks.get k.other).state = .staged

/-- The banks once the image of bank k has passed (R52). -/
def stagedBanks (s : State) (k : Bank) (x : Summary) : Two BankRec :=
  (if unstagesOther s k then s.tariff.banks.set k.other
    { s.tariff.banks.get k.other with state := .empty, description := none } else s.tariff.banks).set k
    (stagedRec (s.tariff.banks.get k) x)

theorem stage_records (s : State) (k : Bank) (x : Summary) : ∃ r q,
    recordSays r (s.tariff.recordSeq + 1) .staged (stagedRec (s.tariff.banks.get k) x).description ∧
    recordSays q (s.tariff.recordSeq + 2) .empty none ∧
    s.stage k x = { s with
      tariff := { s.tariff with
        banks := stagedBanks s k x, staged := some x
        recordSeq := if unstagesOther s k then s.tariff.recordSeq + 2 else s.tariff.recordSeq + 1 }
      port := s.port.asks ([.recordErase k, .recordProgram k r] ++
        if unstagesOther s k then [.recordErase k.other, .recordProgram k.other q] else []) } := by
  have staged : ((if decide (s.bankState k.other = .staged) then s.emptyBank k.other else s).onBank k fun b => { b with
      state := .staged
      description := b.description.map fun d => describe d.length d.crc (some x.header)
      lastResult := some .passed }).onTariff (fun c => { c with staged := some x }) =
      { s with tariff := { s.tariff with banks := stagedBanks s k x, staged := some x } } := by
    unfold stagedBanks
    by_cases both : unstagesOther s k
    · rw [if_pos both, if_pos (by exact decide_eq_true both)]
      cases k <;> rfl
    · rw [if_neg both, if_neg (by simp only [decide_eq_true_eq]; exact both)]
      rfl
  have description : ({ s with tariff := { s.tariff with banks := stagedBanks s k x, staged := some x } } :
      State).descriptionOf k = (stagedRec (s.tariff.banks.get k) x).description :=
    congrArg BankRec.description (Two.get_set_self _ k (stagedRec (s.tariff.banks.get k) x))
  unfold State.stage
  dsimp only
  rw [staged, description]
  simp only [decide_eq_true_eq]
  rw [rewriteRecord_pair]
  exact ⟨_, _, recordOf_written _ _ _, recordOf_written _ _ _, rfl⟩

/-- The state in which the effective-minute check runs once a loaded bank has passed (R52, R53). -/
def passedLoad (s : State) (w : VerifyWait) (x : Summary) : State :=
  (s.leaveQueue.stage w.bank x).ok w.slot
    (.verified w.bank x.header.tariffId x.header.version x.header.effective)

theorem verifyPassed_eq (s : State) (w : VerifyWait) (x : Summary) :
    s.verifyPassed w x = ((passedLoad s w x).effectiveCheck).turnVerifier := rfl

/-- A loaded bank that passes is STAGED, the records' rewrites asked and its T_CLOSE answered (R52). -/
theorem passedLoad_records {s : State} {w : VerifyWait} {rest : List VerifyWait} (queue : s.tariff.queue = w :: rest)
    (x : Summary) : ∃ r q,
      recordSays r (s.tariff.recordSeq + 1) .staged (stagedRec (s.tariff.banks.get w.bank) x).description ∧
      recordSays q (s.tariff.recordSeq + 2) .empty none ∧
      passedLoad s w x = { s with
        tariff := { s.tariff with
          verify := none, queue := rest, banks := stagedBanks s w.bank x, staged := some x
          recordSeq := if unstagesOther s w.bank then s.tariff.recordSeq + 2 else s.tariff.recordSeq + 1 }
        port := s.port.asks ([.recordErase w.bank, .recordProgram w.bank r] ++
          if unstagesOther s w.bank then [.recordErase w.bank.other, .recordProgram w.bank.other q] else [])
        link := s.link.answer w.slot
          (.ok (.verified w.bank x.header.tariffId x.header.version x.header.effective)) } := by
  have left : s.leaveQueue = { s with tariff := { s.tariff with verify := none, queue := rest } } := by
    simp only [State.leaveQueue, State.onTariff, queue]
    rfl
  obtain ⟨r, q, first, second, stages⟩ := stage_records s.leaveQueue w.bank x
  refine ⟨r, q, first, second, ?_⟩
  rw [passedLoad, stages, left]
  rfl

/-! ## The effective-minute check (R53) -/

/-- The effective minute of x is at or before the calendar's (R53). -/
abbrev Due (s : State) (x : Summary) : Prop :=
  ∃ now, s.time.calendar.map (·.minute) = some now ∧ x.header.effective.key ≤ now.key

theorem effectiveCheck_not_due {s : State} {x : Summary} (summary : s.tariff.staged = some x) (early : ¬Due s x) :
    s.effectiveCheck = s := by
  cases minute : s.minuteNow with
  | none => exact effectiveCheck_unset (Option.map_eq_none_iff.mp minute)
  | some now => exact effectiveCheck_ahead minute summary (Nat.lt_of_not_le fun due => early ⟨now, minute, due⟩)

/-- What the check does to a bank just STAGED whose time has come (R53, R55). -/
theorem effectiveCheck_activates {s : State} {k : Bank} {x : Summary}
    (staged : (s.tariff.banks.get k).state = .staged) (other : (s.tariff.banks.get k.other).state ≠ .staged)
    (summary : s.tariff.staged = some x) (due : Due s x) : s.effectiveCheck = s.activate k x .time := by
  obtain ⟨now, minute, reached⟩ := due
  exact effectiveCheck_due minute (stagedTariff_of staged other summary) reached

theorem activate_keeps (s : State) (k : Bank) (x : Summary) (cause : ActivationCause) :
    (s.activate k x cause).tariff.queue = s.tariff.queue ∧ (s.activate k x cause).tariff.verify = s.tariff.verify ∧
    (s.activate k x cause).tariff.scanning = s.tariff.scanning ∧
    (s.activate k x cause).tariffInForce = some (k, x) := by
  obtain ⟨r, q, -, -, leaves⟩ := activate_records s k x cause
  rw [leaves]
  exact ⟨rfl, rfl, rfl, inForce_tariff s k x⟩

theorem stagedBanks_self (s : State) (k : Bank) (x : Summary) :
    (stagedBanks s k x).get k = stagedRec (s.tariff.banks.get k) x := Two.get_set_self ..

theorem stagedBanks_other (s : State) (k : Bank) (x : Summary) : (stagedBanks s k x).get k.other =
    if unstagesOther s k then { s.tariff.banks.get k.other with state := .empty, description := none }
    else s.tariff.banks.get k.other := by
  refine (Two.get_set_other ..).trans ?_
  split
  · exact Two.get_set_self ..
  · rfl

theorem stagedBanks_alone (s : State) (k : Bank) (x : Summary) : ((stagedBanks s k x).get k.other).state ≠ .staged := by
  rw [stagedBanks_other]
  split
  · exact nofun
  · assumption

/-- A loaded bank whose time has come is activated as it passes (R53). -/
theorem passedLoad_activates {s : State} {w : VerifyWait} {rest : List VerifyWait} (queue : s.tariff.queue = w :: rest)
    {x : Summary} (due : Due s x) : (passedLoad s w x).effectiveCheck = (passedLoad s w x).activate w.bank x .time := by
  obtain ⟨r, q, -, -, passes⟩ := passedLoad_records queue x
  have staged : ((passedLoad s w x).tariff.banks.get w.bank).state = .staged := by
    rw [passes]
    exact congrArg BankRec.state (stagedBanks_self s w.bank x)
  have alone : ((passedLoad s w x).tariff.banks.get w.bank.other).state ≠ .staged := by
    rw [passes]
    exact stagedBanks_alone s w.bank x
  have summary : (passedLoad s w x).tariff.staged = some x := by rw [passes]
  have reached : Due (passedLoad s w x) x := by
    rw [passes]
    exact due
  exact effectiveCheck_activates staged alone summary reached

/-- The other bank after a bank has been staged and activated at once: EMPTY where it was STAGED, ACTIVE or DAMAGED. -/
theorem other_emptied (o : BankRec) {p : BankRec}
    (staging : p = if o.state = .staged then { o with state := .empty, description := none } else o) :
    (if p.state = .active ∨ p.state = .damaged then { p with state := .empty, description := none } else p).state =
      match o.state with
      | .staged | .active | .damaged => .empty
      | .empty => .empty | .loading => .loading | .verifying => .verifying := by
  subst staging
  cases state : o.state <;> simp [state]

/-- A loaded bank whose time has come as it passes (R52, R53): it is in force, and the verifier turns. -/
theorem verifyPassed_due {s : State} {w : VerifyWait} {rest : List VerifyWait} (queue : s.tariff.queue = w :: rest)
    (scanned : s.tariff.scanning = []) {x : Summary} (due : Due s x) :
    (s.verifyPassed w x).flash = s.flash ∧ (s.verifyPassed w x).tariff.queue = rest ∧
    (rest = [] → (s.verifyPassed w x).tariff.verify = none) ∧ (s.verifyPassed w x).tariff.staged = none ∧
    (s.verifyPassed w x).tariff.active = some x ∧
    (s.verifyPassed w x).tariff.banks.get w.bank =
      { stagedRec (s.tariff.banks.get w.bank) x with state := .active } ∧
    (s.verifyPassed w x).tariff.generation = nextGeneration s.tariff.generation ∧
    ((s.verifyPassed w x).tariff.banks.get w.bank.other).state =
      match (s.tariff.banks.get w.bank.other).state with
      | .staged | .active | .damaged => .empty
      | .empty => .empty | .loading => .loading | .verifying => .verifying := by
  obtain ⟨r, q, -, -, passes⟩ := passedLoad_records queue x
  have activates := passedLoad_activates queue due
  obtain ⟨self, other, active, none_staged, generation, -, flash⟩ := activate_banks (passedLoad s w x) w.bank x .time
  obtain ⟨queued, verified, scans, -⟩ := activate_keeps (passedLoad s w x) w.bank x .time
  rw [verifyPassed_eq, activates]
  generalize (passedLoad s w x).activate w.bank x .time = t at *
  rw [passes] at self other generation flash queued verified scans
  obtain ⟨v, p, turned⟩ := turnVerifier_leaves t
  refine ⟨by rw [turned]; exact flash, by rw [turned]; exact queued, fun empty => ?_, by rw [turned]; exact none_staged,
    by rw [turned]; exact active, ?_, by rw [turned]; exact generation, ?_⟩
  · rw [turnVerifier_idle (scans.trans scanned) (queued.trans empty)]
    exact verified
  · rw [turned]
    exact self.trans (congrArg (fun b : BankRec => { b with state := .active }) (stagedBanks_self s w.bank x))
  · rw [turned]
    exact (congrArg BankRec.state other).trans (other_emptied _ (stagedBanks_other s w.bank x))

/-! ## The start-up scan (R59) -/

theorem leaveScan_eq {s : State} {k : Bank} {rest : List Bank} (scanning : s.tariff.scanning = k :: rest)
    (r : VerifyResult) : s.leaveScan k r = { s with tariff := { s.tariff with
      verify := none, scanning := rest
      banks := s.tariff.banks.set k { s.tariff.banks.get k with lastResult := some r } } } := by
  simp only [State.leaveScan, State.onBank, State.onTariff, scanning]
  rfl

/-- The emergency stop input takes the drive into ESTOPPED as the part becomes READY (R132, R152, log 54). -/
abbrev Stops (s : State) : Prop := s.pins.estop = true ∧ s.belt.drive ≠ .estopped

/-- The part READY with its generation, the scan at its end (R59). -/
def readied (s : State) : State := { s with
  tariff := { s.tariff with generation := if s.tariffInForce = none then 0 else 1 }
  link := { s.link with part := .ready } }

theorem scanEnds_eq (s : State) : s.scanGeneration.enterReady =
    if Stops s then State.settle (readied s) ((readied s).estopPath .estop) else readied s := by
  have generation : (if s.tariffInForce.isSome then 1 else 0) = if s.tariffInForce = none then 0 else 1 := by
    cases s.tariffInForce <;> rfl
  unfold State.enterReady State.scanGeneration readied
  rw [generation]
  rfl

/-- The scan goes on to its next bank, or ends (R59, log 38). -/
theorem scanOn_eq {s : State} {check : Bool} (quiet : check = true → s.tariff.scanning = [] → s.effectiveCheck = s) :
    s.scanOn check = if s.tariff.scanning ≠ [] then s.turnVerifier
      else if Stops s then State.settle (readied s) ((readied s).estopPath .estop) else readied s := by
  unfold State.scanOn
  by_cases ends : s.tariff.scanning = []
  · have same : (if check then s.effectiveCheck else s) = s := by
      split
      · rename_i checks
        exact quiet checks ends
      · rfl
    rw [if_neg (not_not_intro ends), if_pos (List.isEmpty_iff.mpr ends), same, scanEnds_eq]
  · rw [if_pos ends, if_neg (mt List.isEmpty_iff.mp ends)]

theorem scanOn_unchecked (s : State) : s.scanOn false = if s.tariff.scanning ≠ [] then s.turnVerifier
    else if Stops s then State.settle (readied s) ((readied s).estopPath .estop) else readied s :=
  scanOn_eq (check := false) fun checks => by cases checks

theorem scanOn_checked {s : State} (quiet : s.tariff.scanning = [] → s.effectiveCheck = s) : s.scanOn true =
    if s.tariff.scanning ≠ [] then s.turnVerifier
    else if Stops s then State.settle (readied s) ((readied s).estopPath .estop) else readied s :=
  scanOn_eq fun _ => quiet

section
variable {s : State} {k : Bank} {rest : List Bank} (scanning : s.tariff.scanning = k :: rest)
include scanning

theorem scanPassed_active (active : (s.tariff.banks.get k).state = .active) (x : Summary) : s.scanPassed k x =
    State.scanOn { s with tariff := { s.tariff with
      verify := none, scanning := rest, active := some x
      banks := s.tariff.banks.set k { s.tariff.banks.get k with lastResult := some .passed } } } false := by
  unfold State.scanPassed
  rw [leaveScan_eq scanning]
  exact if_pos active

theorem scanPassed_staged (staged : (s.tariff.banks.get k).state = .staged) (x : Summary) : s.scanPassed k x =
    State.scanOn { s with tariff := { s.tariff with
      verify := none, scanning := rest, staged := some x
      banks := s.tariff.banks.set k { s.tariff.banks.get k with lastResult := some .passed } } } true := by
  unfold State.scanPassed
  rw [leaveScan_eq scanning]
  exact if_neg fun active => by cases staged.symm.trans active

/-- A bank recorded ACTIVE that fails is DAMAGED, with its notice (R59). -/
theorem scanFailed_active (active : (s.tariff.banks.get k).state = .active) {y : Description}
    (description : (s.tariff.banks.get k).description = some y) {id version : Nat} {e : Minute}
    (tariff : y.tariff = some (id, version, e)) (c : VerifyCheck) (n : Nat) : s.scanFailed k c n = State.scanOn { s with
      tariff := { s.tariff with
        verify := none, scanning := rest, recordSeq := s.tariff.recordSeq + 1
        banks := s.tariff.banks.set k { s.tariff.banks.get k with
          state := .damaged, lastResult := some (.failed c n) } }
      port := s.port.asks [.recordErase k, .recordProgram k
        (recordOf (s.tariff.recordSeq + 1) .damaged (s.tariff.banks.get k).description)]
      link := s.link.offer (.tariffDamaged k id version s.tariff.generation n) } false := by
  have named : ((s.descriptionOf k).bind (·.tariff)).getD (0, 0, ⟨0, 0, 0, 0, 0⟩) = (id, version, e) := by
    rw [State.descriptionOf, description]
    exact congrArg (Option.getD · _) tariff
  unfold State.scanFailed
  dsimp only
  rw [leaveScan_eq scanning, named]
  refine (if_pos active).trans ?_
  simp only [State.onBank, State.onTariff, Two.get_set_self, set_set]
  rfl

theorem scanFailed_staged (staged : (s.tariff.banks.get k).state = .staged) (c : VerifyCheck) (n : Nat) :
    s.scanFailed k c n = State.scanOn { s with
      tariff := { s.tariff with
        verify := none, scanning := rest, recordSeq := s.tariff.recordSeq + 1
        banks := s.tariff.banks.set k { s.tariff.banks.get k with
          state := .empty, description := none, lastResult := some (.failed c n) } }
      port := s.port.asks [.recordErase k, .recordProgram k (recordOf (s.tariff.recordSeq + 1) .empty none)] }
      false := by
  unfold State.scanFailed
  dsimp only
  rw [leaveScan_eq scanning]
  refine (if_neg fun active => by cases staged.symm.trans active).trans ?_
  simp only [State.emptyBank, State.onBank, State.onTariff, Two.get_set_self, set_set]
  rfl

end

theorem estopPath_leaves (s : State) (r : StopReason) : (s.estopPath r).tariff = s.tariff ∧
    (s.estopPath r).flash = s.flash ∧ (s.estopPath r).link.part = s.link.part := by
  have frame := fun t : State => ((State.dropReservations_frame t).andThen (State.flagAll_frame _ .estop
    (t.dropReservations.unflagged fun e => e.itemNumber?.isSome && e.label? != some .applied))).andThen
    (State.retractTamp_frame _)
  have changed (f : Belt → Belt) : (s.changeDrive f).tariff = s.tariff ∧ (s.changeDrive f).flash = s.flash ∧
      (s.changeDrive f).link.part = s.link.part := by
    unfold State.changeDrive
    dsimp only
    split
    · exact ⟨rfl, rfl, rfl⟩
    · exact ⟨rfl, rfl, (State.beltNotice_frame _).part⟩
  unfold State.estopPath
  obtain ⟨tariff, flash, part⟩ := changed fun b => { b with
    drive := .estopped, reason := r, setpoint := 0, target := 0, waitEntry := none }
  exact ⟨(frame _).tariff.trans tariff, (frame _).flash.trans flash, (frame _).part.trans part⟩

/-- The end of the scan leaves the banks and the memory, and the part is READY; an emergency stop leaves the drive
ESTOPPED (R59, R152). -/
theorem scanEnds_leaves (s : State) : (s.scanGeneration.enterReady).tariff = (readied s).tariff ∧
    (s.scanGeneration.enterReady).flash = s.flash ∧ (s.scanGeneration.enterReady).link.part = .ready ∧
    (s.scanGeneration.enterReady).belt.drive = (if Stops s then .estopped else s.belt.drive) ∧
    (Stops s → (s.scanGeneration.enterReady).belt.reason = .estop) := by
  rw [scanEnds_eq]
  by_cases stops : Stops s
  · obtain ⟨tariff, flash, part⟩ := estopPath_leaves (readied s) .estop
    have settles := State.settle_frame ((readied s).estopPath .estop) (readied s)
    have halted := settle_halted (estopPath_halts (readied s)) (readied s)
    rw [if_pos stops, if_pos stops]
    exact ⟨settles.tariff.trans tariff, settles.flash.trans flash, settles.part.trans part, halted.drive,
      fun _ => halted.reason⟩
  · rw [if_neg stops, if_neg stops]
    exact ⟨rfl, rfl, rfl, rfl, fun h => absurd h stops⟩

/-- The state at the end of the scan, its last bank having passed STAGED (R59). -/
def lastStaged (s : State) (k : Bank) (x : Summary) : State := { s with tariff := { s.tariff with
  verify := none, scanning := [], staged := some x
  banks := s.tariff.banks.set k { s.tariff.banks.get k with lastResult := some .passed } } }

/-- A bank recorded STAGED whose time has come as the scan ends (R53, R59, log 38). -/
theorem scanPassed_due {s : State} {k : Bank} (scanning : s.tariff.scanning = [k])
    (staged : (s.tariff.banks.get k).state = .staged) (other : (s.tariff.banks.get k.other).state ≠ .staged)
    {x : Summary} (due : Due s x) :
    (s.scanPassed k x).tariff.verify = none ∧ (s.scanPassed k x).tariff.scanning = [] ∧
    (s.scanPassed k x).tariff.banks.get k =
      { s.tariff.banks.get k with lastResult := some .passed, state := .active } ∧
    (s.scanPassed k x).tariff.active = some x ∧ (s.scanPassed k x).tariff.staged = none ∧
    (s.scanPassed k x).tariff.generation = 1 ∧ (s.scanPassed k x).link.part = .ready ∧
    (s.scanPassed k x).flash = s.flash ∧
    (s.scanPassed k x).belt.drive = (if Stops s then .estopped else s.belt.drive) ∧
    (Stops s → (s.scanPassed k x).belt.reason = .estop) := by
  have self : (lastStaged s k x).tariff.banks.get k = { s.tariff.banks.get k with lastResult := some .passed } :=
    Two.get_set_self ..
  have alone : ((lastStaged s k x).tariff.banks.get k.other).state ≠ .staged := by
    rw [show (lastStaged s k x).tariff.banks.get k.other = s.tariff.banks.get k.other from Two.get_set_other ..]
    exact other
  have activates : (lastStaged s k x).effectiveCheck = (lastStaged s k x).activate k x .time :=
    effectiveCheck_activates ((congrArg BankRec.state self).trans staged) alone rfl due
  have ends : s.scanPassed k x = ((lastStaged s k x).activate k x .time).scanGeneration.enterReady := by
    rw [scanPassed_staged scanning staged, ← activates]
    rfl
  obtain ⟨active_bank, -, active, none_staged, -, -, flash⟩ := activate_banks (lastStaged s k x) k x .time
  obtain ⟨-, verified, scans, in_force⟩ := activate_keeps (lastStaged s k x) k x .time
  have frame := State.activate_tariff (lastStaged s k x) k x .time
  obtain ⟨tariff, flash', part, drive, reason⟩ := scanEnds_leaves ((lastStaged s k x).activate k x .time)
  have stops : Stops ((lastStaged s k x).activate k x .time) ↔ Stops s := by
    unfold Stops
    rw [frame.pins, frame.belt]
    rfl
  rw [ends, tariff]
  refine ⟨verified, scans, active_bank.trans (by rw [self]), active, none_staged, ?_, part, flash'.trans flash, ?_,
    fun h => reason (stops.mpr h)⟩
  · exact if_neg (by rw [in_force]; exact Option.some_ne_none _)
  · rw [drive]
    exact if_congr stops rfl (congrArg Belt.drive frame.belt)

/-- Settles O24: a read by what its bytes give, by load or in the scan; the verifier's turn by what it finds. -/
theorem verificationReadTaken : Obligations.VerificationReadTaken := by
  refine ⟨fun s v k offset count d running current verify => ?reads, fun s => ?turns⟩
  case reads =>
    intro held bytes b other ends rewrite due
    have served : exec (.verificationReadComplete d) s = .next ((s.onPort Port.complete).verifyRead bytes) := by
      have length : held.length = count := readRun_length _ _ _
      rw [exec_verificationRead running current]
      refine congrArg (fun x => Host.Outcome.next ((s.onPort Port.complete).verifyRead x)) ?_
      cases d with
      | none => rfl
      | some x => exact congrArg (List.take · (x ++ held.drop x.length)) length
    have verify : (s.onPort Port.complete).tariff.verify = some v := verify
    clear_value bytes
    refine ⟨fun v' more => ?more, fun w rest load scanned queue bank => ⟨fun c n failed => ?failed,
      fun x passed => ⟨fun early => ?early, fun reached => ?due⟩⟩, fun rest scan scanning => ?scan⟩
    case more =>
      rw [served, verifyRead_more verify more]
      rfl
    case failed =>
      obtain ⟨k', id, slot⟩ := w
      obtain rfl : k' = v.bank := bank
      obtain ⟨r, record, fails⟩ := verifyFailed_records (s := s.onPort Port.complete) queue c n
      refine ⟨r, record, ?_⟩
      rw [served, verifyRead_failed verify failed, (endVerify_load load (by exact queue)).2, fails]
      rfl
    case early =>
      obtain ⟨k', id, slot⟩ := w
      obtain rfl : k' = v.bank := bank
      obtain ⟨r, q, first, second, passes⟩ := passedLoad_records (s := s.onPort Port.complete) queue x
      refine ⟨r, q, first, second, ?_⟩
      have stays : (passedLoad (s.onPort Port.complete) ⟨v.bank, id, slot⟩ x).effectiveCheck =
          passedLoad (s.onPort Port.complete) ⟨v.bank, id, slot⟩ x := by
        rw [passes]
        exact effectiveCheck_not_due rfl early
      rw [served, verifyRead_passed verify passed, (endVerify_load load (by exact queue)).1, verifyPassed_eq, stays,
        passes, ← apply_ite]
      rfl
    case due =>
      obtain ⟨k', id, slot⟩ := w
      obtain rfl : k' = v.bank := bank
      refine ⟨_, ?_, (TariffFrame.viaPort s _).andThen (State.verifyPassed_tariff _ ⟨v.bank, id, slot⟩ x),
        verifyPassed_due (s := s.onPort Port.complete) queue scanned reached⟩
      rw [served, verifyRead_passed verify passed, (endVerify_load load (by exact queue)).1]
    case scan =>
      intro stops next leaves
      have scanning' : (s.onPort Port.complete).tariff.scanning = v.bank :: rest := scanning
      refine ⟨fun c n failed => ?_, fun x passed => ?_⟩
      · rw [served, verifyRead_failed verify failed, (endVerify_scan scan).2]
        by_cases active : b.state = .active
        · refine ⟨recordOf (s.tariff.recordSeq + 1) .damaged b.description, fun _ =>
            ⟨recordOf_written _ _ _, fun y id version e description tariff => ?_⟩,
            fun staged => by cases staged.symm.trans active⟩
          rw [scanFailed_active scanning' active description tariff, scanOn_unchecked]
          rfl
        · refine ⟨recordOf (s.tariff.recordSeq + 1) .empty none, fun h => absurd h active, fun staged =>
            ⟨recordOf_written _ _ _, ?_⟩⟩
          rw [scanFailed_staged scanning' staged, scanOn_unchecked]
          rfl
      · rw [served, verifyRead_passed verify passed, (endVerify_scan scan).1]
        refine ⟨fun active => ?_, fun staged other early => ?_, fun staged other reached last => ?_⟩
        · rw [scanPassed_active scanning' active, scanOn_unchecked]
          rfl
        · rw [scanPassed_staged scanning' staged, scanOn_checked]
          · rfl
          · exact fun ends => effectiveCheck_not_due rfl (early.resolve_right (not_not_intro ends))
        · subst last
          exact ⟨_, rfl, scanPassed_due scanning' staged other reached⟩
  case turns =>
    intro begins
    refine ⟨turnVerifier_busy, turnVerifier_idle, fun k rest free scanning described => ?_,
      fun w rest free scanned queue => ⟨turnVerifier_waits scanned queue, fun written described => ?_⟩⟩
    · obtain ⟨d, description⟩ := Option.ne_none_iff_exists'.mp described
      rw [turnVerifier_scan free scanning description]
      simp only [begins, description]
      rfl
    · obtain ⟨d, description⟩ := Option.ne_none_iff_exists'.mp described
      rw [turnVerifier_first scanned free queue written description]
      simp only [begins, description]
      rfl

end Sys2Proof.Machine.VerificationReads
end

section
/-! PROOFS of 04_rate_cache_and_tariff_walks.md: the C_ requests of the cache (R73, R75), the lookups and the walks they
begin (R60 to R65), and where an entry is installed (R69, R70). -/

namespace Sys2Proof.Machine.RateCache

open DimensionGauges

/-! ## C_PURGE and C_READ (R73, R75) -/

/-- Settles O26: a request that takes a slot is served there, and its reply goes with the purged cache. -/
theorem purgeCache : Obligations.PurgeCache := by
  intro s i tag takes
  exact congrArg Host.Outcome.next (s.request_takes takes tag .cPurge _)

theorem exec_cRead {s : State} {i : SlotId} (takes : s.takes i) (tag : Byte) (kind : CacheKind) (n : Nat) :
    exec (.cRead tag kind n) s = .next (serveCRead kind n i (s.held i tag .cRead)) :=
  congrArg _ (s.request_takes takes tag .cRead _)

theorem ofNumber_number (k : Pos) : Pos.ofNumber k.number = some k := by cases k <;> rfl

/-- C_READ that names no entry is refused BAD_FIELD, a field named. -/
theorem serveCRead_outside {kind : CacheKind} {n : Nat} (point : kind = .point → 47 < n) (band : kind = .band → 7 < n)
    (lookaside : kind = .lookaside → n < 1 ∨ 6 < n) (i : SlotId) (s : State) :
    ∃ f, serveCRead kind n i s = s.badField i f := by
  cases kind with
  | point => exact ⟨.index, dif_neg (Nat.not_lt.mpr (point rfl))⟩
  | band => exact ⟨.index, dif_neg (Nat.not_lt.mpr (band rfl))⟩
  | lookaside => exact ⟨.index, by rw [serveCRead, ofNumber_eq_none (lookaside rfl)]⟩
  | other => exact ⟨.kind, rfl⟩

/-- Settles O27: by the kind, an entry where the index names one, and BAD_FIELD elsewhere. -/
theorem cacheRead : Obligations.CacheRead := by
  intro s i tag n takes
  refine ⟨fun inside => ?point, fun inside => ?band, fun k named => ?lookaside,
    fun kind point band lookaside => ?outside⟩
  case point =>
    rw [exec_cRead takes, serveCRead, dif_pos inside]
    rfl
  case band =>
    rw [exec_cRead takes, serveCRead, dif_pos inside]
    rfl
  case lookaside =>
    rw [exec_cRead takes, serveCRead, named, ofNumber_number]
    rfl
  case outside =>
    obtain ⟨f, refused⟩ := serveCRead_outside point band lookaside i (s.held i tag .cRead)
    exact ⟨.field f, by rw [exec_cRead takes, refused]; rfl⟩

/-! ## Hits (R60 to R62) -/

theorem pointHits_iff {gen service zone cw : Nat} {e : PointEntry} : pointHits gen service zone cw e = true ↔
    e.valid = true ∧ e.generation = gen ∧ e.service = service ∧ e.zone = zone ∧ e.low < cw ∧ cw ≤ e.high := by
  simp only [pointHits, Bool.and_eq_true, beq_iff_eq, decide_eq_true_eq, and_assoc]

theorem bandHits_iff {gen service zone cw : Nat} {e : BandEntry} : bandHits gen service zone cw e = true ↔
    e.valid = true ∧ e.generation = gen ∧ e.service = service ∧ e.zone = zone ∧ e.start < cw ∧ cw ≤ e.maxWeight := by
  simp only [bandHits, Bool.and_eq_true, beq_iff_eq, decide_eq_true_eq, and_assoc]

theorem lookasideHits_iff {gen x : Nat} {e : Lookaside} : lookasideHits gen x e = true ↔
    e.valid = true ∧ e.generation = gen ∧ e.low ≤ x ∧ x ≤ e.high := by
  simp only [lookasideHits, Bool.and_eq_true, beq_iff_eq, decide_eq_true_eq, and_assoc]

/-- The one member of a list that passes a test is the one found. -/
theorem find?_only {α : Type} {p : α → Bool} {l : List α} {e : α} (member : e ∈ l) (passes : p e = true)
    (only : ∀ o ∈ l, p o = true → o = e) : l.find? p = some e := by
  obtain ⟨o, found⟩ := Option.isSome_iff_exists.mp (List.find?_isSome.mpr ⟨e, member, passes⟩)
  rw [found, only o (List.mem_of_find?_eq_some found) (List.find?_some found)]

/-! ## Price lookups (R63) -/

section
variable {s : State} {service zone cw : Nat}

theorem takePrice_no_tariff (idle : s.tariffInForce = none) : s.takePrice service zone cw = (s, some .noTariff) := by
  rw [State.takePrice, idle]

section
variable {k : Bank} {t : Summary} (inForce : s.tariffInForce = some (k, t))
include inForce

theorem takePrice_no_service (absent : t.services.find? (fun v => v.code == service) = none) :
    s.takePrice service zone cw = (s, some .notOffered) := by
  simp only [State.takePrice, inForce, absent]

section
variable {v : Service} (offered : t.services.find? (fun v => v.code == service) = some v)
include offered

theorem takePrice_point {e : PointEntry}
    (hit : s.cache.points.toList.find? (pointHits s.tariff.generation service zone cw) = some e) :
    s.takePrice service zone cw =
      (s.onCache fun c => c.count fun n => { n with pointHits := bump32 n.pointHits },
        some (.step e.price e.low e.high)) := by
  simp only [State.takePrice, inForce, offered, hit]

variable (missed : s.cache.points.toList.find? (pointHits s.tariff.generation service zone cw) = none)
include missed

theorem takePrice_band {e : BandEntry}
    (hit : s.cache.bands.toList.find? (bandHits s.tariff.generation service zone cw) = some e) :
    s.takePrice service zone cw =
      (s.onCache fun c => c.count fun n => { n with bandHits := bump32 n.bandHits },
        some (.tail e.start e.price e.step e.increment)) := by
  simp only [State.takePrice, inForce, offered, missed, hit]

theorem takePrice_walks
    (miss : s.cache.bands.toList.find? (bandHits s.tariff.generation service zone cw) = none) :
    s.takePrice service zone cw =
      ((s.onCache fun c => c.count fun n => { n with priceMisses := bump32 n.priceMisses }).beginWalk
        (rateWalk t v k s.tariff.generation zone cw), none) := by
  simp only [State.takePrice, inForce, offered, missed, miss]

end
end
end

/-! ## Zone lookups (R64) -/

section
variable {s : State} {k : Pos} {x : Nat}

theorem takeZone_no_tariff (idle : s.tariffInForce = none) : s.takeZone k x = (s, some .noTariff) := by
  rw [State.takeZone, idle]

variable {bank : Bank} {t : Summary} (inForce : s.tariffInForce = some (bank, t))
include inForce

theorem takeZone_hit (hit : lookasideHits s.tariff.generation x (s.cache.lookasides.get k) = true) :
    s.takeZone k x = (s.onCache fun c => c.count fun n => { n with zoneHits := bump32 n.zoneHits },
      some (.zoneFound (s.cache.lookasides.get k).zone (s.cache.lookasides.get k).sort)) := by
  simp only [State.takeZone, inForce, if_pos hit]

theorem takeZone_walks (miss : ¬lookasideHits s.tariff.generation x (s.cache.lookasides.get k) = true) :
    s.takeZone k x = ((s.onCache fun c => c.count fun n => { n with zoneMisses := bump32 n.zoneMisses }).beginWalk
      (zoneWalk t bank s.tariff.generation k x), none) := by
  simp only [State.takeZone, inForce, if_neg miss]

end

/-- Settles O28: a price lookup row by row of R63's table, a zone lookup by the lookaside of its position. -/
theorem lookupsAnswered : Obligations.LookupsAnswered := by
  constructor
  · intro s service zone cw gen point band counted more
    have no_point (none_hits : ∀ o ∈ s.cache.points.toList, ¬point o) :
        s.cache.points.toList.find? (pointHits gen service zone cw) = none :=
      List.find?_eq_none.mpr fun o here => mt pointHits_iff.mp (none_hits o here)
    refine ⟨takePrice_no_tariff, fun k t inForce => ⟨fun absent => ?no_service, fun v offered =>
      ⟨fun e here hits only => ?point, fun no_hit => ⟨fun e here hits only => ?band, fun no_band => ?walk⟩⟩⟩⟩
    case no_service =>
      refine takePrice_no_service inForce (List.find?_eq_none.mpr fun v here => ?_)
      simpa using absent v here
    case point =>
      exact takePrice_point inForce offered
        (find?_only here (pointHits_iff.mpr hits) fun o there hit => only o there (pointHits_iff.mp hit))
    case band =>
      exact takePrice_band inForce offered (no_point no_hit)
        (find?_only here (bandHits_iff.mpr hits) fun o there hit => only o there (bandHits_iff.mp hit))
    case walk =>
      have code : v.code = service := by simpa using List.find?_some offered
      rw [takePrice_walks inForce offered (no_point no_hit)
        (List.find?_eq_none.mpr fun o here => mt bandHits_iff.mp (no_band o here)), ← code]
      rfl
  · intro s k x e hit counted more
    refine ⟨takeZone_no_tariff, fun bank t inForce => ⟨fun hits => ?hit, fun misses => ?miss⟩⟩
    case hit => exact takeZone_hit inForce (lookasideHits_iff.mpr hits)
    case miss => exact takeZone_walks inForce (mt lookasideHits_iff.mp misses)

/-! ## Where an entry goes (R69, R70) -/

section
variable {n : Nat} {valid : Fin n → Bool} {ptr : Fin n}

theorem placeFor_first {j : Fin n} (free : valid j = false) (before : ∀ m, m < j → valid m = true) :
    placeFor valid (List.finRange n) ptr = (j, false) := by
  have found : (List.finRange n).find? (fun i => !valid i) = some j :=
    List.find?_eq_some_iff_getElem.mpr ⟨by simp [free], j, by simp, by simp, fun m below => by
      simpa using before ⟨m, below.trans j.isLt⟩ below⟩
  rw [placeFor, found]

theorem placeFor_full (full : ∀ j, valid j = true) : placeFor valid (List.finRange n) ptr = (ptr, true) := by
  have none_free : (List.finRange n).find? (fun i => !valid i) = none :=
    List.find?_eq_none.mpr fun i _ => by simp [full i]
  rw [placeFor, none_free]

end

/-- A valid point entry of one generation, service, zone and low as p, for which p is not installed (R69). -/
def PointTwin (p o : PointEntry) : Prop :=
  o.valid = true ∧ o.generation = p.generation ∧ o.service = p.service ∧ o.zone = p.zone ∧ o.low = p.low

/-- A valid band entry of one generation, service and zone as q, for which q is not installed (R69). -/
def BandTwin (q o : BandEntry) : Prop :=
  o.valid = true ∧ o.generation = q.generation ∧ o.service = q.service ∧ o.zone = q.zone

section
variable {c : Cache}

theorem any_pointTwin {p : PointEntry} : (c.points.toList.any fun o =>
    o.valid && o.generation == p.generation && o.service == p.service && o.zone == p.zone && o.low == p.low) = true ↔
    ∃ o ∈ c.points.toList, PointTwin p o := by
  simp only [List.any_eq_true, Bool.and_eq_true, beq_iff_eq, and_assoc, PointTwin]

theorem installPoint_twin {p : PointEntry} (twin : ∃ o ∈ c.points.toList, PointTwin p o) : c.installPoint p = c :=
  if_pos (any_pointTwin.mpr twin)

theorem installPoint_new {p : PointEntry} (new : ∀ o ∈ c.points.toList, ¬PointTwin p o)
    {place : Fin 48} {replaced : Bool}
    (goes : placeFor (fun i => c.points[i].valid) (List.finRange 48) c.pointPtr = (place, replaced)) :
    c.installPoint p = { c with
      points := c.points.set place p, pointPtr := if replaced then c.pointPtr + 1 else c.pointPtr } := by
  rw [Cache.installPoint, if_neg (mt any_pointTwin.mp fun ⟨o, here, twin⟩ => new o here twin)]
  simp only [goes]

theorem any_bandTwin {q : BandEntry} : (c.bands.toList.any fun o =>
    o.valid && o.generation == q.generation && o.service == q.service && o.zone == q.zone) = true ↔
    ∃ o ∈ c.bands.toList, BandTwin q o := by
  simp only [List.any_eq_true, Bool.and_eq_true, beq_iff_eq, and_assoc, BandTwin]

theorem installBand_twin {q : BandEntry} (twin : ∃ o ∈ c.bands.toList, BandTwin q o) : c.installBand q = c :=
  if_pos (any_bandTwin.mpr twin)

theorem installBand_new {q : BandEntry} (new : ∀ o ∈ c.bands.toList, ¬BandTwin q o)
    {place : Fin 8} {replaced : Bool}
    (goes : placeFor (fun i => c.bands[i].valid) (List.finRange 8) c.bandPtr = (place, replaced)) :
    c.installBand q = { c with
      bands := c.bands.set place q, bandPtr := if replaced then c.bandPtr + 1 else c.bandPtr } := by
  rw [Cache.installBand, if_neg (mt any_bandTwin.mp fun ⟨o, here, twin⟩ => new o here twin)]
  simp only [goes]

end

/-- Settles O29: a twin keeps the entry out, and else it goes where the scan of R70 ends. -/
theorem entryInstalled : Obligations.EntryInstalled := by
  intro c p q pointTwin bandTwin
  refine ⟨installPoint_twin, fun new => ⟨fun j free before => ?_, fun full => ?_⟩,
    installBand_twin, fun new => ⟨fun j free before => ?_, fun full => ?_⟩⟩
  · exact installPoint_new new (placeFor_first free before)
  · exact installPoint_new new (placeFor_full full)
  · exact installBand_new new (placeFor_first free before)
  · exact installBand_new new (placeFor_full full)

end Sys2Proof.Machine.RateCache
end

section
/-! PROOFS of 04_rate_cache_and_tariff_walks.md: the judgement of a walk read (R66), how a good one takes its walk on
(R67, R68), and a read as it completes (R65, R69). -/

namespace Sys2Proof.Machine.WalkReads

open ImageChecks

/-! ## A zone walk goes on (R67) -/

section
variable (w : Walk) (lo hi : Nat) (k : Pos) (x : Nat) (z : ZoneRange)

/-- The zone walk w with the records lo to hi of the group in question. -/
def halved : Walk := { w with
  stage := .zone lo hi, place := zonePlace w.services (midpoint lo hi)
  record := 1 + w.services + midpoint lo hi, retry := false }

/-- A search with the records lo to hi left ends when there is none, and else reads the middle one. -/
def narrowed : WalkNext := if hi < lo then .ends .noZone else .reads (halved w lo hi)

variable {x z}

theorem zoneStep_below (below : x < z.low) : w.zoneStep lo hi k x z = narrowed w lo (midpoint lo hi - 1) := if_pos below

theorem zoneStep_above (low : z.low ≤ x) (above : z.high < x) :
    w.zoneStep lo hi k x z = narrowed w (midpoint lo hi + 1) hi := by
  rw [Walk.zoneStep, if_neg (Nat.not_lt.mpr low), if_pos above]
  rfl

theorem zoneStep_covers (low : z.low ≤ x) (high : x ≤ z.high) : w.zoneStep lo hi k x z =
    .lookaside (.zoneFound z.zone z.sort) k ⟨true, w.generation, z.low, z.high, z.zone, z.sort⟩ := by
  rw [Walk.zoneStep, if_neg (Nat.not_lt.mpr low), if_neg (Nat.not_lt.mpr high)]

theorem zoneStep_misses (misses : x < z.low ∨ z.high < x) : w.zoneStep lo hi k x z =
    narrowed w (if x < z.low then lo else midpoint lo hi + 1) (if x < z.low then midpoint lo hi - 1 else hi) := by
  by_cases below : x < z.low
  · rw [zoneStep_below w lo hi k below, if_pos below, if_pos below]
  · rw [zoneStep_above w lo hi k (Nat.not_lt.mp below) (misses.resolve_left below), if_neg below, if_neg below]

end

/-- Either side of the middle of lo to hi holds half of them at most. -/
theorem halves {lo hi : Nat} (first : 1 ≤ lo) (some_left : lo ≤ hi) (below : Prop) [Decidable below] :
    2 * ((if below then midpoint lo hi - 1 else hi) + 1 - (if below then lo else midpoint lo hi + 1)) ≤
      hi + 1 - lo := by
  unfold midpoint
  split <;> omega

/-! ## A rate walk goes on (R68) -/

theorem serviceStep_unoffered (w : Walk) {zone : Nat} {v : Service} (clear : v.zoneMask.getLsbD (zone - 1) = false) :
    w.serviceStep zone v = .ends .notOffered := by
  simp [Walk.serviceStep, offers, clear]

theorem serviceStep_offered (w : Walk) {zone : Nat} {v : Service} (low : 1 ≤ zone)
    (offered : v.zoneMask.getLsbD (zone - 1) = true) : w.serviceStep zone v = .reads { w with
      stage := .ladder v.maxWeight, place := v.offsets.getD (zone - 1) 0
      record := w.ladderRecords.getD (zone - 1) 0, retry := false } := by
  simp [Walk.serviceStep, offers_iff.mpr ⟨low, offered⟩]

theorem stepFor_reaches {cw ub price : Nat} (reaches : cw ≤ ub) : ∀ {steps : List (Nat × Nat)} {n : Nat} (low : Nat),
    steps[n]? = some (ub, price) → (∀ y ∈ steps.take n, y.1 < cw) →
    stepFor cw low steps = some (if n = 0 then low else (steps.getD (n - 1) (0, 0)).1, ub, price)
  | [], _, _, here, _ => by simp at here
  | _ :: _, 0, _, here, _ => by
    obtain rfl := Option.some.inj here
    exact if_pos reaches
  | y :: rest, n + 1, _, here, before => by
    have short : ¬cw ≤ y.1 := Nat.not_le.mpr (before y (by simp))
    have later := stepFor_reaches reaches (steps := rest) (n := n) y.1 here fun o there => before o (by simp [there])
    rw [stepFor, if_neg short, later]
    cases n <;> rfl

theorem stepFor_none {cw : Nat} : ∀ {steps : List (Nat × Nat)} (low : Nat), (∀ y ∈ steps, y.1 < cw) →
    stepFor cw low steps = none
  | [], _, _ => rfl
  | y :: _, _, short => by
    rw [stepFor, if_neg (Nat.not_le.mpr (short y (by simp))), stepFor_none y.1 fun o here => short o (by simp [here])]

section
variable (w : Walk) {most service zone cw : Nat} {l : Ladder}

theorem ladderStep_point {low ub price : Nat} (step : stepFor cw 0 l.steps = some (low, ub, price)) :
    w.ladderStep most service zone cw l =
      .point (.step price low ub) ⟨true, w.generation, service, zone, low, ub, price⟩ := by
  rw [Walk.ladderStep, step]

variable (no_step : stepFor cw 0 l.steps = none)
include no_step

theorem ladderStep_band {step inc : Nat} (tail : l.tail = some (step, inc)) (within : cw ≤ most) :
    w.ladderStep most service zone cw l =
      .band (.tail (lastStep l.steps).1 (lastStep l.steps).2 step inc)
        ⟨true, w.generation, service, zone, (lastStep l.steps).1, (lastStep l.steps).2, step, inc, most⟩ := by
  simp only [Walk.ladderStep, no_step, tail, if_pos within]

theorem ladderStep_overweight (beyond : l.tail = none ∨ most < cw) :
    w.ladderStep most service zone cw l = .ends (.overweight (lastStep l.steps).1) := by
  match tail : l.tail with
  | none => simp only [Walk.ladderStep, no_step, tail]
  | some (step, inc) =>
    have heavy : ¬cw ≤ most := Nat.not_le.mpr (beyond.resolve_left (by simp [tail]))
    simp only [Walk.ladderStep, no_step, tail, if_neg heavy]

end

section
variable {w : Walk} (bs : List Byte)

theorem next_zone {lo hi x : Nat} {k : Pos} (stage : w.stage = .zone lo hi) (lookup : w.lookup = .zone k x) :
    w.next bs = w.zoneStep lo hi k x (zoneOf bs) := by
  rw [Walk.next, stage, lookup]

variable {service zone cw : Nat} (lookup : w.lookup = .price service zone cw)
include lookup

theorem next_service (stage : w.stage = .service) : w.next bs = w.serviceStep zone (serviceOf bs w.record) := by
  rw [Walk.next, stage, lookup]

theorem next_ladder {most : Nat} (stage : w.stage = .ladder most) :
    w.next bs = w.ladderStep most service zone cw (ladderOf bs) := by
  rw [Walk.next, stage, lookup]

end

/-- Settles O32: a zone search by whether its record covers x, a rate walk by its stage and the step that reaches. -/
theorem walkSearches : Obligations.WalkSearches := by
  constructor
  · intro w bs lo hi x k stage lookup first some_left m z
    refine ⟨fun low high => ?covers, fun misses => ?misses⟩
    case covers => rw [next_zone bs stage lookup, zoneStep_covers w lo hi k low high]
    case misses =>
      intro lo' hi'
      have next : w.next bs = narrowed w lo' hi' :=
        (next_zone bs stage lookup).trans (zoneStep_misses w lo hi k misses)
      exact ⟨fun none_left => next.trans (if_pos none_left), fun left => ⟨halves first some_left _, halved w lo' hi',
        next.trans (if_neg (Nat.not_lt.mpr left)), rfl, rfl, rfl, rfl, rfl, rfl, rfl⟩⟩
  · intro w bs s z cw lookup
    refine ⟨fun stage => ?service, fun most stage => ?ladder⟩
    case service =>
      intro v
      rw [next_service bs lookup stage]
      exact ⟨serviceStep_unoffered w, fun low offered =>
        ⟨_, serviceStep_offered w low offered, rfl, rfl, rfl, rfl, rfl, rfl, rfl⟩⟩
    case ladder =>
      intro l last
      rw [next_ladder bs lookup stage]
      refine ⟨fun n ub price here reaches before => ?_, fun short => ⟨fun step inc tail within => ?_, fun beyond => ?_⟩⟩
      · exact ladderStep_point w (stepFor_reaches reaches 0 here before)
      · exact ladderStep_band w (stepFor_none 0 short) tail within
      · exact ladderStep_overweight w (stepFor_none 0 short) beyond

/-! ## Judging a read (R66) -/

/-- A record with its CRC-16 right, of a kind and a length, which its length field gives (R66). -/
def Form (bs : List Byte) (kind length : Nat) : Prop :=
  bs.length = length ∧ byteAt bs 0 = kind ∧ word16 bs 1 = bs.length ∧
    (crc16 (bs.take (bs.length - 2))).toNat = word16 bs (bs.length - 2)

theorem recordGood_iff {kind : Nat} {bs : List Byte} : recordGood kind bs = true ↔
    lengthFits kind bs.length = true ∧ (kind = 4 → ladderLength bs = bs.length) ∧ Form bs kind bs.length := by
  simp only [recordGood, recordKind, recordLength, recordCrcOk, Form, Bool.and_eq_true, Bool.or_eq_true, beq_iff_eq,
    bne_iff_ne, decide_eq_true_eq, true_and]
  constructor
  · rintro ⟨⟨⟨⟨⟨-, kind'⟩, length⟩, fits⟩, ladder⟩, crc⟩
    exact ⟨fits, fun four => ladder.resolve_left (not_not_intro four), kind', length, crc⟩
  · rintro ⟨fits, ladder, kind', length, crc⟩
    have long := lengthFits_long fits
    exact ⟨⟨⟨⟨⟨by omega, kind'⟩, length⟩, fits⟩, not_or_of_imp ladder⟩, crc⟩

theorem recordGood_fixed {kind length : Nat} (fixed : kind ≠ 4) (fits : ∀ n, lengthFits kind n = true ↔ n = length)
    (bs : List Byte) : recordGood kind bs = true ↔ Form bs kind length := by
  rw [recordGood_iff, fits]
  exact ⟨fun ⟨same, _, form⟩ => same ▸ form, fun ⟨same, form⟩ =>
    ⟨same, fun ladder => absurd ladder fixed, rfl, form⟩⟩

theorem recordGood_ladder (bs : List Byte) : recordGood 4 bs = true ↔ Form bs 4 (ladderLength bs) := by
  have long : 9 ≤ ladderLength bs := by
    unfold ladderLength
    split <;> omega
  rw [recordGood_iff]
  exact ⟨fun ⟨_, same, form⟩ => (same rfl).symm ▸ form, fun ⟨same, form⟩ =>
    ⟨by simpa [lengthFits, same] using long, fun _ => same.symm, rfl, form⟩⟩

section
variable {w : Walk} (bs : List Byte)

theorem good_zone {lo hi : Nat} (stage : w.stage = .zone lo hi) :
    w.good bs = true ↔ Form bs 3 12 ∧ word16 bs 3 ≤ word16 bs 5 := by
  rw [Walk.good, stage, Bool.and_eq_true, decide_eq_true_eq,
    recordGood_fixed (length := 12) (by decide) (by simp [lengthFits])]
  rfl

variable {service zone cw : Nat} (lookup : w.lookup = .price service zone cw)
include lookup

theorem good_service (stage : w.stage = .service) : w.good bs = true ↔ Form bs 2 74 ∧ byteAt bs 3 = service := by
  rw [Walk.good, stage, lookup, Bool.and_eq_true, beq_iff_eq,
    recordGood_fixed (length := 74) (by decide) (by simp [lengthFits])]

theorem good_ladder {most : Nat} (stage : w.stage = .ladder most) : w.good bs = true ↔
    Form bs 4 (ladderLength bs) ∧ byteAt bs 3 = service ∧ byteAt bs 4 = zone := by
  rw [Walk.good, stage, lookup]
  simp only [Bool.and_eq_true, recordGood_ladder, beq_iff_eq, and_assoc]

end

/-! ## A read completes (R57, R65, R69) -/

/-- The part as a completed walk read leaves it before the walk takes the bytes: the port goes on (log 40), and a
free value is drawn when the read has left the image area (log 35). -/
def taken (s : State) (k : Bank) (o : Nat) (d : Option (List Byte)) : State := { s with
  port := s.port.complete
  fresh := if d = none ∧ 4190208 < o + max 3 (s.recordAt k o).length then s.fresh + 1 else s.fresh }

/-- A read whose bytes do not come with its completion, taken (log 41). -/
theorem deliver_taken (s : State) (k : Bank) (o : Nat) : (s.deliver k o).2.onPort Port.complete = taken s k o none := by
  show (if 4190208 < o + max 3 (s.recordAt k o).length then s.draw.2 else s).onPort Port.complete = _
  by_cases beyond : 4190208 < o + max 3 (s.recordAt k o).length
  · rw [if_pos beyond, taken, if_pos ⟨rfl, beyond⟩]
    rfl
  · rw [if_neg beyond, taken, if_neg fun ⟨_, left⟩ => beyond left]
    rfl

theorem walkDone_taken (s : State) (k : Bank) (o : Nat) (d : Option (List Byte)) :
    s.walkDone k o d = (taken s k o d).walkRead (d.getD (s.recordAt k o)) := by
  cases d with
  | none => exact congrArg (·.walkRead (s.recordAt k o)) (deliver_taken s k o)
  | some bytes => rfl

/-- A record within the image area is the memory's own bytes (R65). -/
theorem recordAt_image {s : State} {k : Bank} {o : Nat}
    (inside : o + max 3 (recordLength (Memory.readRun s.flash.cells (bankBase k + o) 3)) ≤ 4190208) :
    s.recordAt k o = Memory.readRun s.flash.cells (bankBase k + o)
      (recordLength (Memory.readRun s.flash.cells (bankBase k + o) 3)) := by
  rw [State.recordAt, s.walkRun_image k 3 o (by omega), s.walkRun_image k _ o (by omega)]

section
variable {s : State} (running : s.running = true) (d : Option (List Byte))
include running

theorem exec_walkRead_none (idle : ∀ k o, s.port.current ≠ some (.walk k o)) :
    exec (.walkReadComplete d) s = .next s := by
  refine congrArg Host.Outcome.next ((if_pos running).trans ?_)
  dsimp only
  split
  · next k o current => exact absurd current (idle k o)
  · rfl

theorem exec_walkRead {k : Bank} {o : Nat} (current : s.port.current = some (.walk k o)) :
    exec (.walkReadComplete d) s = .next ((taken s k o d).walkRead (d.getD (s.recordAt k o))) := by
  refine congrArg Host.Outcome.next ((if_pos running).trans ?_)
  dsimp only
  rw [current, ← walkDone_taken]

end

/-- The walk w with one read more made. -/
def again (w : Walk) : Walk := { w with reads := w.reads + 1 }

/-- A read counted, a bad one among the record errors too (R74), the walk being x after it. -/
def counted (s : State) (x : Walk) (bad : Bool) : State := s.onCache fun c => { c with
  walk := some x
  stats := { c.stats with
    walkReads := bump32 c.stats.walkReads
    recordErrors := if bad then bump32 c.stats.recordErrors else c.stats.recordErrors } }

section
variable {s : State} (bs : List Byte)

theorem walkRead_none (walk : s.cache.walk = none) : s.walkRead bs = s := by
  rw [State.walkRead, walk]

variable {w : Walk} (walk : s.cache.walk = some w)
include walk

theorem walkRead_stale (stale : s.tariff.generation ≠ w.generation) :
    s.walkRead bs = (counted s (again w) false).endWalk .restart := by
  rw [State.walkRead, walk]
  exact if_pos stale

variable (present : s.tariff.generation = w.generation)
include present

theorem walkRead_good (good : w.good bs = true) :
    s.walkRead bs = (counted s (again w) false).goWalk (again w) ((again w).next bs) := by
  rw [State.walkRead, walk]
  exact (if_neg (not_not_intro present)).trans (if_neg (by rw [Bool.not_eq_true, Bool.not_eq_false']; exact good))

theorem walkRead_bad (bad : w.good bs = false) : s.walkRead bs = (counted s (again w) false).badRead (again w) := by
  rw [State.walkRead, walk]
  exact (if_neg (not_not_intro present)).trans (if_pos (by rw [Bool.not_eq_true']; exact bad))

theorem walkRead_first_bad (bad : w.good bs = false) (first : w.retry = false) :
    s.walkRead bs = (counted s { again w with retry := true } true).onPort (Port.ask (.walk w.bank w.place)) := by
  rw [walkRead_bad bs walk present bad]
  exact if_neg (Bool.eq_false_iff.mp first)

theorem walkRead_second_bad (bad : w.good bs = false) (second : w.retry = true) :
    s.walkRead bs = ((counted s (again w) true).damage w.generation w.record).endWalk .tariffFault := by
  rw [walkRead_bad bs walk present bad]
  exact if_pos second

end

/-- An entry is installed while a bank is ACTIVE (R69), which is when a tariff is in force. -/
theorem install_inForce {s : State} {w : Walk} (present : s.tariff.generation = w.generation)
    (active : s.activeBank = s.tariffInForce.map (·.1)) (f : Cache → Cache) :
    s.install w f = if s.tariffInForce.isSome then s.onCache f else s := by
  rw [State.install, active, Option.isSome_map]
  exact if_congr (and_iff_right present) rfl rfl

/-- Settles O30: a read by whether its walk is current, whether it is good, and what a good one gives. -/
theorem walkReadTaken : Obligations.WalkReadTaken := by
  refine ⟨fun w bs => ?judged, fun s d running => ⟨exec_walkRead_none running d, fun k o current => ?_⟩⟩
  case judged =>
    intro b two n form
    have word (i : Nat) : two i = word16 bs i := congrArg (· + b (i + 1)) (Nat.mul_comm 256 (b i))
    have record (kind length : Nat) : form kind length ↔ Form bs kind length := by
      simp only [form, word]
      rfl
    refine ⟨fun lo hi stage => ?_, fun service zone cw lookup => ⟨fun stage => ?_, fun most stage => ?_⟩⟩
    · rw [good_zone bs stage, record, word, word]
    · rw [good_service bs lookup stage, record]
      rfl
    · rw [good_ladder bs lookup stage, record]
      rfl
  rw [exec_walkRead running d current]
  refine ⟨recordAt_image, fun idle => congrArg _ (walkRead_none _ idle), fun w walk => ?_⟩
  intro bytes more read w' present kept
  have walk : (taken s k o d).cache.walk = some w := walk
  have installs (active : s.activeBank = s.tariffInForce.map (·.1)) (now : present) (f : Cache → Cache) :
      (read w' false).install w' f = kept f := install_inForce (s := read w' false) (w := w') now active f
  refine ⟨fun stale => ?_, fun now bad first => ?_, fun now bad second => ?_, fun now good => ?goes_on⟩
  · exact congrArg _ (walkRead_stale bytes walk stale)
  · exact congrArg _ (walkRead_first_bad bytes walk now bad first)
  · exact congrArg _ (walkRead_second_bad bytes walk now bad second)
  case goes_on =>
    have goes : (taken s k o d).walkRead bytes = (read w' false).goWalk w' (w'.next bytes) :=
      walkRead_good bytes walk now good
    rw [goes]
    refine ⟨fun x next => ?_, fun a next => ?_, fun active =>
      ⟨fun a e next => ?_, fun a e next => ?_, fun a j e next => ?_⟩⟩ <;> rw [next]
    · rfl
    · rfl
    · rw [State.goWalk, installs active now]
    · rw [State.goWalk, installs active now]
    · rw [State.goWalk, installs active now]
      rfl

end Sys2Proof.Machine.WalkReads
end

section
/-! PROOFS of 05_rating.md: the checks of a rating and its two lookups (R86 to R92, R98), the money stages (R92 to
R97), and the arbiter's choice (R77 to R79). -/

namespace Sys2Proof.Machine.RatingStages

/-! ## Roundings told by their bounds (00_scope.md) -/

/-- A quotient rounded up is the number of whole divisors that just reaches the numerator. -/
theorem ceilDiv_eq {n d q : Nat} (reaches : n ≤ q * d) (just : q * d < n + d) : ceilDiv n d = q := by
  refine Nat.div_eq_of_lt_le (by omega) ?_
  rw [Nat.succ_mul]
  omega

theorem roundHalfUp_eq {n d q : Nat} (above : 2 * n < 2 * (q * d) + d) (below : 2 * (q * d) ≤ 2 * n + d) :
    roundHalfUp n d = q := by
  refine Nat.div_eq_of_lt_le ?_ ?_
  · rw [Nat.mul_left_comm]
    exact below
  · rw [Nat.mul_left_comm, Nat.succ_mul q d]
    omega

theorem nearestMultiple_eq {n m t : Nat} (multiple : m ∣ t) (above : 2 * n < 2 * t + m) (below : 2 * t ≤ 2 * n + m) :
    nearestMultiple n m = t := by
  obtain ⟨q, rfl⟩ := multiple
  rw [Nat.mul_comm m q] at above below ⊢
  exact congrArg (· * m) (roundHalfUp_eq above below)

/-! ## The dimensions and the weights of a request (R87 to R90) -/

theorem clampDim_eq (d : Nat) : clampDim d = if d = 0 then 1 else d := by
  unfold clampDim
  split <;> omega

theorem toList_map_clampDim (d : Three Nat) :
    (d.map clampDim).toList = d.toList.map fun x => if x = 0 then 1 else x := by
  simp [Three.toList, Three.map, clampDim_eq]

/-- Three numbers in falling order are what the dimensions ordered by size give (R87). -/
theorem orderDims_eq {d : Three Nat} {most mid least : Nat} (same : [most, mid, least].Perm d.toList)
    (upper : mid ≤ most) (lower : least ≤ mid) : orderDims d = (most, mid, least) := by
  have sum : most + mid + least = d.l + d.w + d.h := by
    simpa [Three.toList, Nat.add_assoc] using same.sum_eq
  have each : ∀ x, (x = most ∨ x = mid ∨ x = least) ↔ (x = d.l ∨ x = d.w ∨ x = d.h) := by
    simpa [Three.toList] using fun x => same.mem_iff (a := x)
  have isMost := (each most).mp (.inl rfl)
  have isLeast := (each least).mp (.inr (.inr rfl))
  have ofL := (each d.l).mpr (.inl rfl)
  have ofW := (each d.w).mpr (.inr (.inl rfl))
  have ofH := (each d.h).mpr (.inr (.inr rfl))
  have largest : max d.l (max d.w d.h) = most := by omega
  have smallest : min d.l (min d.w d.h) = least := by omega
  rw [orderDims, largest, smallest, ← sum]
  congr 2
  omega

/-- The volumetric weight: 0 for a service that has none, else a quotient rounded up (R89). -/
theorem volumetric_eq {v : Service} {divisor a b c vw : Nat} (unused : v.volumetric = false → vw = 0)
    (used : v.volumetric = true → a * b * c * 1000 ≤ vw * divisor ∧ vw * divisor < a * b * c * 1000 + divisor) :
    volumetric v divisor (a, b, c) = vw := by
  unfold volumetric
  split
  next yes =>
    obtain ⟨reaches, just⟩ := used yes
    exact ceilDiv_eq reaches just
  next no => exact (unused (Bool.eq_false_iff.mpr no)).symm

theorem chargeable_eq (wt vw : Nat) : max wt vw = if wt < vw then vw else wt := by
  split <;> omega

/-! ## The start of a rating (R86) -/

section
variable {q : RateRequest} {t : Summary} {g : Nat}

theorem start_notOffered (absent : ∀ v ∈ t.services, v.code ≠ q.service) :
    q.start (some t) g = .decided (rateFail (q.blank g) .notOffered none (some q.service)) := by
  have none : t.services.find? (fun v => v.code == q.service) = none := by simpa using absent
  rw [RateRequest.start, none]

theorem start_offered {v : Service} (offered : t.services.find? (fun v => v.code == q.service) = some v) :
    q.start (some t) g = q.checked (q.blank g) t v := by
  rw [RateRequest.start, offered]

/-- The checks of a service in their order, on dimensions and weights told by value (R88 to R90). -/
theorem checked_eq {r : RateResult} {v : Service} {most mid least vw : Nat}
    (dims : orderDims (q.dims.map clampDim) = (most, mid, least))
    (volume : volumetric v t.header.divisor (most, mid, least) = vw) :
    let girth := most + 2 * (mid + least)
    let cw := if q.wt < vw then vw else q.wt
    let shown : RateResult := { r with
      service := some (v.code, v.name), dims := some (most, mid, least), girth := some girth
      vw := none, cw := none, volumetricUsed := false
      dimsClamped := decide (0 ∈ q.dims.toList), expressClass := v.express }
    let weighed := { shown with vw := some vw, cw := some cw, volumetricUsed := decide (q.wt < vw) }
    q.checked r t v =
      if v.maxLength < most then .decided (rateFail shown .oversize (some .length) (some most) (some v.maxLength))
      else if v.maxGirth < girth then
        .decided (rateFail shown .oversize (some .girth) (some girth) (some v.maxGirth))
      else if v.cover < q.value then .decided (rateFail shown .valueOverCover none (some q.value) (some v.cover))
      else if v.maxWeight < cw then .decided (rateFail weighed .overweight none (some cw) (some v.maxWeight))
      else .goesOn ⟨q, t, v, weighed⟩ := by
  have clamped : q.dims.toList.any (· == 0) = decide (0 ∈ q.dims.toList) := by
    simp [List.any_eq]
  simp only [RateRequest.checked, RateRequest.measured, dims, volume, chargeable_eq, clamped]
  rfl

end

/-! ## What an answer to each of the two lookups does (R91, R92) -/

section
variable {u : RatingRun}

theorem lookup_zone (unzoned : u.result.zone = none) : u.lookup = .zone u.req.position u.req.postPrefix := by
  rw [RatingRun.lookup, unzoned]

theorem answered_zoned (unzoned : u.result.zone = none) (a : Answer) : u.answered a = u.zoned a := by
  rw [RatingRun.answered, unzoned]
  rfl

theorem lookup_price {z cw : Nat} {sort : Byte × Byte} (zoned : u.result.zone = some (z, sort))
    (weighed : u.result.cw = some cw) : u.lookup = .price u.service.code z cw := by
  rw [RatingRun.lookup, zoned, weighed]
  rfl

theorem answered_priced (zoned : u.result.zone.isSome = true) (a : Answer) : u.answered a = u.priced a := by
  rw [RatingRun.answered, Option.isNone_eq_false_iff.mpr zoned]
  rfl

theorem priced_notOffered {z : Nat} {sort : Byte × Byte} (zoned : u.result.zone = some (z, sort)) :
    u.priced .notOffered = .decided (rateFail u.result .notOffered none (some z)) := by
  rw [RatingRun.priced, zoned]
  rfl

theorem priced_overweight {cw : Nat} (weighed : u.result.cw = some cw) (last : Nat) :
    u.priced (.overweight last) = .decided (rateFail u.result .overweight none (some cw) (some last)) := by
  rw [RatingRun.priced, weighed]

end

/-- Settles O33: the start by the tariff and the service, and the answers by the lookup they belong to. -/
theorem ratingChecks : Obligations.RatingChecks := by
  refine ⟨fun q g => ⟨⟨_, rfl, rfl, rfl⟩, fun t => ⟨fun absent => ?notOffered, ?offered⟩⟩,
    fun u => ⟨fun unzoned => ?zone, fun z sort cw zoned weighed => ?price⟩⟩
  case notOffered => exact ⟨_, start_notOffered absent, rfl, rfl⟩
  case offered =>
    intro v most mid least vw offered same upper lower unused used
    have dims : orderDims (q.dims.map clampDim) = (most, mid, least) :=
      orderDims_eq (by rwa [toList_map_clampDim]) upper lower
    rw [start_offered offered]
    exact checked_eq dims (volumetric_eq unused used)
  case zone =>
    simp only [answered_zoned unzoned]
    exact ⟨lookup_zone unzoned, fun _ _ => rfl, rfl, rfl, rfl⟩
  case price =>
    have isZoned : u.result.zone.isSome = true := by rw [zoned]; rfl
    simp only [answered_priced isZoned]
    exact ⟨lookup_price zoned weighed, priced_notOffered zoned, fun last => priced_overweight weighed last, rfl, rfl⟩

/-! ## The money stages (R92 to R97) -/

/-- A price answer gives the base price and its basis (R92). -/
theorem priced_based {u : RatingRun} {a : Answer} {basis : Basis} {cw p0 : Nat} (weighed : u.result.cw = some cw)
    (price : (∃ lo hi, a = .step p0 lo hi ∧ basis = .step) ∨
      ∃ start price step inc k, a = .tail start price step inc ∧ basis = .tail (k + 1) ∧
        k * step < cw - start ∧ cw - start ≤ (k + 1) * step ∧ p0 = price + (k + 1) * inc) :
    u.priced a = .decided (u.based basis p0) := by
  obtain ⟨lo, hi, rfl, rfl⟩ | ⟨start, price, step, inc, k, rfl, rfl, more, most, rfl⟩ := price
  · rfl
  · have steps : ceilDiv (cw - start) step = k + 1 := by
      refine ceilDiv_eq most ?_
      rw [Nat.succ_mul]
      exact Nat.add_lt_add_right more step
    simp only [RatingRun.priced, weighed, Option.getD_some, steps]

section
variable (u : RatingRun) (r : RateResult) (p0 : Nat)

/-- The discount of the request's tier (R94). -/
def discount : Nat := p0 * u.tariff.header.discounts.getD u.req.tier 0 / 1000

/-- The net amount (R94). -/
def netOf : Nat := p0 + surchargeSum (u.surcharges p0) - discount u p0

/-- The tax on the net amount (R95). -/
def taxOf : Nat := roundHalfUp (netOf u p0 * u.tariff.header.tax) 10000

/-- The total, a multiple of the granularity (R96). -/
def totalOf : Nat := nearestMultiple (netOf u p0 + taxOf u p0) u.tariff.header.granularity

/-- The result with its surcharge list (R93). -/
def listed : RateResult := { r with surcharges := some (u.surcharges p0) }

/-- The result with its discount and net amount (R94). -/
def netted : RateResult := { listed u r p0 with dsc := some (discount u p0), net := some (netOf u p0) }

/-- The result with its tax and total (R95, R96). -/
def taxed : RateResult := { netted u r p0 with
  tax := some (taxOf u p0), totalRaw := some (netOf u p0 + taxOf u p0), total := some (totalOf u p0)
  rounding := some ((totalOf u p0 : Int) - ((netOf u p0 + taxOf u p0 : Nat) : Int)) }

/-- The stages after the base price, each with its price limit (R93 to R97). -/
theorem totalled_eq : u.totalled r p0 =
    if Config.priceLimit < surchargeSum (u.surcharges p0) then
      rateFail (listed u r p0) .priceLimit (some .surcharge) (some (surchargeSum (u.surcharges p0)))
    else if Config.priceLimit < netOf u p0 then
      rateFail (netted u r p0) .priceLimit (some .net) (some (netOf u p0))
    else if Config.priceLimit < totalOf u p0 then
      rateFail (taxed u r p0) .priceLimit (some .total) (some (totalOf u p0))
    else taxed u r p0 := rfl

variable {u r p0}

theorem discount_eq {dsc : Nat} (below : dsc * 1000 ≤ p0 * u.tariff.header.discounts.getD u.req.tier 0)
    (above : p0 * u.tariff.header.discounts.getD u.req.tier 0 < dsc * 1000 + 1000) : discount u p0 = dsc :=
  Nat.div_eq_of_lt_le below (by rwa [Nat.succ_mul])

theorem taxOf_eq {tax : Nat} (above : 2 * netOf u p0 * u.tariff.header.tax < 20000 * tax + 10000)
    (below : 20000 * tax ≤ 2 * netOf u p0 * u.tariff.header.tax + 10000) : taxOf u p0 = tax := by
  rw [Nat.mul_assoc] at above below
  exact roundHalfUp_eq (by omega) (by omega)

/-! ### What the result shows once a stage is reached, whether a later one fails or not (R99) -/

theorem totalled_surcharges : (u.totalled r p0).surcharges = some (u.surcharges p0) := by
  rw [totalled_eq]
  split_ifs <;> rfl

/-- A surcharge sum above the limit ends the rating (R97). -/
theorem totalled_failure_surcharge (beyond : Config.priceLimit < surchargeSum (u.surcharges p0)) :
    (u.totalled r p0).failure =
      some ⟨.priceLimit, some .surcharge, some (surchargeSum (u.surcharges p0)), none⟩ := by
  rw [totalled_eq, if_pos beyond]
  rfl

section
variable (sum : surchargeSum (u.surcharges p0) ≤ Config.priceLimit)
include sum

theorem totalled_net :
    (u.totalled r p0).dsc = some (discount u p0) ∧ (u.totalled r p0).net = some (netOf u p0) := by
  rw [totalled_eq, if_neg (Nat.not_lt.mpr sum)]
  split_ifs <;> exact ⟨rfl, rfl⟩

/-- A net amount above the limit ends the rating (R97). -/
theorem totalled_failure_net (beyond : Config.priceLimit < netOf u p0) :
    (u.totalled r p0).failure = some ⟨.priceLimit, some .net, some (netOf u p0), none⟩ := by
  rw [totalled_eq, if_neg (Nat.not_lt.mpr sum), if_pos beyond]
  rfl

variable (net : netOf u p0 ≤ Config.priceLimit)
include net

theorem totalled_of_within : u.totalled r p0 =
    if Config.priceLimit < totalOf u p0 then
      rateFail (taxed u r p0) .priceLimit (some .total) (some (totalOf u p0))
    else taxed u r p0 := by
  rw [totalled_eq, if_neg (Nat.not_lt.mpr sum), if_neg (Nat.not_lt.mpr net)]

theorem totalled_total : (u.totalled r p0).tax = some (taxOf u p0) ∧
    (u.totalled r p0).totalRaw = some (netOf u p0 + taxOf u p0) ∧ (u.totalled r p0).total = some (totalOf u p0) ∧
    (u.totalled r p0).rounding = some ((totalOf u p0 : Int) - ((netOf u p0 + taxOf u p0 : Nat) : Int)) := by
  rw [totalled_of_within sum net]
  split_ifs <;> exact ⟨rfl, rfl, rfl, rfl⟩

/-- A total above the limit ends the rating (R97). -/
theorem totalled_failure_total (beyond : Config.priceLimit < totalOf u p0) :
    (u.totalled r p0).failure = some ⟨.priceLimit, some .total, some (totalOf u p0), none⟩ := by
  rw [totalled_of_within sum net, if_pos beyond]
  rfl

/-- A rating within the four limits ends as it began: not failed (R97). -/
theorem totalled_failure_of_within (total : totalOf u p0 ≤ Config.priceLimit) :
    (u.totalled r p0).failure = r.failure := by
  rw [totalled_of_within sum net, if_neg (Nat.not_lt.mpr total)]
  rfl

end

/-! ### The base price (R92) -/

theorem based_failure {basis : Basis} (beyond : Config.priceLimit < p0) :
    (u.based basis p0).failure = some ⟨.priceLimit, some .base, some p0, none⟩ := by
  rw [RatingRun.based, if_pos beyond]
  rfl

theorem based_of_within {basis : Basis} (within : p0 ≤ Config.priceLimit) :
    u.based basis p0 = u.totalled { u.result with basis := some basis, p0 := some p0 } p0 :=
  if_neg (Nat.not_lt.mpr within)

/-- The stages on a base price keep what the stages before gave (R92, R99). -/
theorem based_keeps (basis : Basis) : (u.based basis p0).basis = some basis ∧ (u.based basis p0).p0 = some p0 ∧
    (u.based basis p0).dims = u.result.dims ∧ (u.based basis p0).zone = u.result.zone ∧
    (u.based basis p0).cw = u.result.cw := by
  unfold RatingRun.based
  dsimp only
  rw [totalled_eq]
  split_ifs <;> exact ⟨rfl, rfl, rfl, rfl, rfl⟩

end

/-- Settles O34: the base price from the answer, and each amount from the bounds its rounding gives. -/
theorem moneyStages : Obligations.MoneyStages := by
  intro u a basis cw p0 most mid least girth unfailed zoned dims girthed weighed price h applies amount list sum fails
  have surcharges : u.surcharges p0 = list := by
    simp only [RatingRun.surcharges, dims, girthed, weighed]
    rfl
  have sums : surchargeSum (u.surcharges p0) = sum := by rw [surcharges]; rfl
  obtain ⟨showsBasis, showsPrice, keepsDims, keepsZone, keepsWeight⟩ := based_keeps (u := u) (p0 := p0) basis
  refine ⟨_, (answered_priced zoned a).trans (priced_based weighed price), showsBasis, showsPrice, keepsDims, keepsZone,
    keepsWeight.trans weighed, based_failure, fun within => ?_⟩
  rw [based_of_within within]
  refine ⟨totalled_surcharges.trans (congrArg some surcharges), ?_⟩
  rw [← sums]
  refine ⟨totalled_failure_surcharge, fun sumWithin => ?_⟩
  rintro dsc net discBelow discAbove rfl
  rw [← discount_eq discBelow discAbove]
  obtain ⟨showsDiscount, showsNet⟩ := totalled_net sumWithin
  refine ⟨showsDiscount, showsNet, totalled_failure_net sumWithin, fun netWithin => ?_⟩
  intro tax total taxAbove taxBelow multiple totalAbove totalBelow
  obtain rfl : taxOf u p0 = tax := taxOf_eq taxAbove taxBelow
  obtain rfl : totalOf u p0 = total := nearestMultiple_eq multiple totalAbove totalBelow
  obtain ⟨showsTax, showsRaw, showsTotal, showsRounding⟩ := totalled_total sumWithin netWithin
  exact ⟨showsTax, showsRaw, showsTotal, showsRounding, totalled_failure_total sumWithin netWithin,
    fun totalWithin => (totalled_failure_of_within sumWithin netWithin totalWithin).trans unfailed⟩

end Sys2Proof.Machine.RatingStages

namespace Sys2Proof.Machine.RatingArbiter

open RatingEnds

/-! ## The position that comes next (R78) -/

/-- The search through the positions from k on finds the first that has a request. -/
theorem go_finds {s : State} {q : RateRequest} (n : Nat) : ∀ (fuel : Nat) (k : Pos), n < fuel →
    s.rating.pendingList.find? (fun q => q.position == times Pos.next n k) = some q →
    (∀ m < n, ∀ o ∈ s.rating.pendingList, o.position ≠ times Pos.next m k) →
    State.nextRequest.go s fuel k = some q := by
  induction n with
  | zero =>
    intro fuel k enough here _
    obtain ⟨fuel, rfl⟩ := Nat.exists_eq_succ_of_ne_zero (Nat.ne_of_gt enough)
    rw [State.nextRequest.go, show s.rating.pendingList.find? (fun q => q.position == k) = some q from here]
  | succ n ih =>
    intro fuel k enough there before
    obtain ⟨fuel, rfl⟩ := Nat.exists_eq_succ_of_ne_zero (Nat.ne_zero_of_lt enough)
    have none : s.rating.pendingList.find? (fun q => q.position == k) = none := by
      simpa [times] using before 0 (Nat.succ_pos n)
    rw [State.nextRequest.go, none]
    exact ih fuel k.next (Nat.lt_of_succ_lt_succ enough) there fun m less => before (m + 1) (Nat.succ_lt_succ less)

/-- The request of the position that comes next after last served is chosen. -/
theorem nextRequest_eq {s : State} {q : RateRequest} {n : Nat} (round : n < 6)
    (there : s.rating.pendingList.find? (fun q => q.position == times Pos.next (n + 1) s.rating.lastServed) = some q)
    (before : ∀ m < n, ∀ o ∈ s.rating.pendingList, o.position ≠ times Pos.next (m + 1) s.rating.lastServed) :
    s.nextRequest = some q :=
  go_finds n 6 s.rating.lastServed.next round there before

/-! ## A lookup that waits for a walk (R65, R79) -/

theorem startRating_waits {s : State} {q : RateRequest} {u : RatingRun} {w : Walk} (walk : s.cache.walk = some w)
    (goesOn : q.start (s.tariffInForce.map (·.2)) s.tariff.generation = .goesOn u) :
    s.startRating q = { s with
      rating := { s.rating with current := some u }, cache := { s.cache with waiting := some u.lookup } } := by
  have busy : (s.onRating fun n => { n with current := some u }).cache.walk.isSome = true := by simp [walk]
  simp only [State.startRating, goesOn, State.workStage, State.giveOn, State.giveLookup, busy, if_true]
  rfl

/-- A chosen request whose lookup waits for a walk is the arbiter's only choice: it keeps the unit busy. -/
theorem arbitrate_waits {s : State} {q : RateRequest} {u : RatingRun} {w : Walk} (current : s.rating.current = none)
    (next : s.nextRequest = some q) (walk : (chosen s q).cache.walk = some w)
    (goesOn : q.start ((chosen s q).tariffInForce.map (·.2)) (chosen s q).tariff.generation = .goesOn u) :
    s.arbitrate = { chosen s q with
      rating := { (chosen s q).rating with current := some u }
      cache := { (chosen s q).cache with waiting := some u.lookup } } := by
  obtain ⟨n, length⟩ := Nat.exists_eq_succ_of_ne_zero (List.length_pos_of_mem (nextRequest_mem next)).ne'
  rw [State.arbitrate, length, arbitrateN_chooses current next, startRating_waits walk goesOn]
  exact arbitrateN_stays (.inl (Option.some_ne_none u)) n

/-- Settles O35: the choice is the first find of the search, and a rating in progress leaves the arbiter nothing. -/
theorem arbiterOrder : Obligations.ArbiterOrder := by
  intro s
  refine ⟨fun busy => arbitrateN_stays (.inl busy) _, arbitrate_empty, ?chosen,
    fun q busy => arbitrateN_stays (s := placed s q) (.inl busy) _⟩
  intro n q round current there before
  have next := nextRequest_eq round there before
  refine ⟨next, fun u it ph i w walk slot goesOn => ?_⟩
  have begun := chosen_eq slot
  rw [arbitrate_waits current next (by rw [begun]; exact walk) (by rw [begun]; exact goesOn), begun]

end Sys2Proof.Machine.RatingArbiter
end

section
/-! PROOFS of 95_what_each_step_holds.md: every step keeps the tariff memory canonical (R37, log 5), the account of the
items (R121), the bounded stores within their sizes (R113, R118, R140, R194, R196) and the names of the queue's entries
apart (log 18). Each operation keeps them by its frame, or by what it does to the queue, the register and the link. -/

namespace Sys2Proof.Machine.AccountLaws

/-! ## What flags and labels leave of the tracking queue -/

/-- From `s` to `t` entries of the queue change in flag and body only, and the rest of the belt stays. -/
structure SameEntries (s t : State) : Prop where
  belt : t.belt = { s.belt with queue := t.belt.queue }
  ids : t.belt.queue.map (·.id) = s.belt.queue.map (·.id)

namespace SameEntries
variable {s t u : State}

theorem refl (s : State) : SameEntries s s := ⟨rfl, rfl⟩

theorem andThen (a : SameEntries s t) (b : SameEntries t u) : SameEntries s u :=
  ⟨by rw [b.belt, a.belt], b.ids.trans a.ids⟩

theorem ite {c : Prop} [Decidable c] (a : SameEntries s t) (b : SameEntries s u) :
    SameEntries s (if c then t else u) := by split <;> assumption

/-- The belt is as it was. -/
theorem same (belt : t.belt = s.belt) : SameEntries s t := ⟨by rw [belt], by rw [belt]⟩

theorem onEntry (s : State) (id : Nat) {f : Entry → Entry} (keeps : ∀ e, (f e).id = e.id) :
    SameEntries s (s.onEntry id f) := by
  refine ⟨rfl, ?_⟩
  simp only [State.onEntry, State.onBelt, List.map_map]
  refine List.map_congr_left fun e _ => ?_
  dsimp only [Function.comp]
  split
  · exact keeps e
  · rfl

theorem length (a : SameEntries s t) : t.belt.queue.length = s.belt.queue.length := by
  simpa using congrArg List.length a.ids

end SameEntries

open SameEntries (same)

theorem setLabel_entries (s : State) (id : Nat) (l : LabelState) : SameEntries s (s.setLabel id l) := by
  unfold State.setLabel
  split
  · exact .refl s
  · exact (SameEntries.onEntry s id (Entry.withLabel_id l)).andThen (same rfl)

theorem eject_entries (s : State) (owner : Option Nat) (l : LabelState) : SameEntries s (s.eject owner l) := by
  cases owner with
  | none => exact same rfl
  | some id =>
    exact (SameEntries.ite (c := (s.labelOf id).any (fun l => !finalLabel l) = true) (setLabel_entries s id l)
      (.refl s)).andThen (same rfl)

theorem loseLabel_entries (s : State) (id : Nat) : SameEntries s (s.loseLabel id) := by
  unfold State.loseLabel
  split
  · exact setLabel_entries s id _
  · exact (setLabel_entries s id _).andThen (same rfl)
  · exact .ite ((eject_entries s (some id) .wasted).andThen (same rfl)) (.refl s)
  all_goals exact .refl s

theorem reportFlag_entries (s : State) (id n : Nat) (r : RejectReason) : SameEntries s (s.reportFlag id n r) :=
  .andThen (t := s.onItem n fun q => { q with reject := some r }) (same rfl) (loseLabel_entries _ id)

theorem flagEntry_entries (s : State) (r : RejectReason) (id : Nat) : SameEntries s (s.flagEntry r id) := by
  unfold State.flagEntry
  split
  · exact .refl s
  · refine .ite (.refl s) ?_
    have flagged := SameEntries.onEntry s id (f := fun e => { e with flag := some r }) fun _ => rfl
    dsimp only
    split
    · exact flagged
    · exact flagged.andThen (reportFlag_entries _ id _ r)

theorem flagAll_entries (s : State) (r : RejectReason) (ids : List Nat) : SameEntries s (s.flagAll r ids) := by
  unfold State.flagAll
  induction ids generalizing s with
  | nil => exact .refl s
  | cons id rest ih => exact (flagEntry_entries s r id).andThen (ih _)

/-! ## The laws -/

/-- The laws at a state. -/
structure Sound (s : State) : Prop where
  memory : Memory.wf s.flash.cells = true
  account : s.items.accountLaw
  register : s.items.register.length ≤ 32
  queue : s.belt.queue.length ≤ 24
  pool : s.items.pool.length ≤ 4
  notices : s.link.notices.length ≤ 64
  busy : s.link.busyList.length ≤ 8
  names : s.belt.namesLaw

/-- From `s` to `t` the laws are kept. -/
def Keeps (s t : State) : Prop := Sound s → Sound t

namespace Keeps
variable {s t u : State}

theorem refl (s : State) : Keeps s s := id

theorem andThen (a : Keeps s t) (b : Keeps t u) : Keeps s u := b ∘ a

theorem ite {c : Prop} [Decidable c] (a : Keeps s t) (b : Keeps s u) : Keeps s (if c then t else u) := by
  split <;> assumption

/-- What the laws speak of is as it was, but for the queue and the link, which keep theirs. -/
theorem same (flash : t.flash = s.flash) (items : t.items = s.items)
    (belt : s.belt.queue.length ≤ 24 → s.belt.namesLaw → t.belt.queue.length ≤ 24 ∧ t.belt.namesLaw)
    (link : s.link.notices.length ≤ 64 → s.link.busyList.length ≤ 8 →
      t.link.notices.length ≤ 64 ∧ t.link.busyList.length ≤ 8) : Keeps s t := fun l =>
  have tracked := belt l.queue l.names
  have linked := link l.notices l.busy
  ⟨flash ▸ l.memory, items ▸ l.account, items ▸ l.register, tracked.1, items ▸ l.pool, linked.1, linked.2, tracked.2⟩

theorem ofLine (a : LineFrame s t) : Keeps s t := fun l => {
  memory := a.flash ▸ l.memory
  account := by
    have kept := a.account
    have was := l.account
    simp only [Items.accountLaw, a.confirmed] at *
    omega
  register := Nat.le_trans a.occupancy l.register
  queue := a.queue l.queue
  pool := a.pool ▸ l.pool
  notices := a.notices l.notices
  busy := by simpa only [Link.busyList, a.ready] using l.busy
  names := a.names l.names }

theorem ofTariff (a : TariffFrame s t) : Keeps s t := fun l => {
  memory := a.memory l.memory
  account := by
    have was := l.account
    simpa only [Items.accountLaw, Items.closed, a.confirmed, a.register, a.labelled, a.rejected, a.missing, a.voided]
      using was
  register := a.register ▸ l.register
  queue := a.belt ▸ l.queue
  pool := a.pool ▸ l.pool
  notices := a.notices l.notices
  busy := a.busyList ▸ l.busy
  names := a.belt ▸ l.names }

theorem ofCounter (a : CounterFrame s t) : Keeps s t := ofTariff (.ofCounter a)

/-- The belt changed, but for the queue and the names given. -/
theorem viaBelt (s : State) (f : Belt → Belt) (queue : (f s.belt).queue = s.belt.queue)
    (next : (f s.belt).nextId = s.belt.nextId) : Keeps s (s.onBelt f) := by
  refine same rfl rfl (fun fits apart => ⟨?_, ?_⟩) fun notices busy => ⟨notices, busy⟩
  · exact queue ▸ fits
  · show (f s.belt).namesLaw
    simpa only [Belt.namesLaw, queue, next] using apart

theorem viaLink (s : State) (f : Link → Link) (notices : (f s.link).notices.length ≤ s.link.notices.length)
    (busy : s.link.busyList.length ≤ 8 → (f s.link).busyList.length ≤ 8) : Keeps s (s.onLink f) :=
  same rfl rfl And.intro fun fits held => ⟨Nat.le_trans notices fits, busy held⟩

theorem onTariff (s : State) (f : Tariff → Tariff) : Keeps s (s.onTariff f) := same rfl rfl And.intro And.intro

theorem onRelease (s : State) (f : Release → Release) : Keeps s (s.onRelease f) := same rfl rfl And.intro And.intro

theorem onLabel (s : State) (f : LabelUnit → LabelUnit) : Keeps s (s.onLabel f) := same rfl rfl And.intro And.intro

theorem onTime (s : State) (f : Time → Time) : Keeps s (s.onTime f) := same rfl rfl And.intro And.intro

theorem onPins (s : State) (f : Pins → Pins) : Keeps s (s.onPins f) := same rfl rfl And.intro And.intro

theorem onSettings (s : State) (f : Settings → Settings) : Keeps s (s.onSettings f) := same rfl rfl And.intro And.intro

theorem onWeighing (s : State) (f : Weighing → Weighing) : Keeps s (s.onWeighing f) := same rfl rfl And.intro And.intro

theorem draw (s : State) : Keeps s s.draw.2 := same rfl rfl And.intro And.intro

/-- An answer given in the end. -/
theorem answer (a : Keeps s t) (i : SlotId) (r : Reply) : Keeps s (t.answer i r) :=
  a.andThen (ofCounter (.viaAnswer t i r))

/-- A request answered, and nothing else done. -/
theorem answered (s : State) (i : SlotId) (r : Reply) : Keeps s (s.answer i r) := (refl s).answer i r

/-- A notice offered in the end. -/
theorem offer (a : Keeps s t) (n : Notice) : Keeps s (t.offer n) := a.andThen (ofCounter (.viaOffer t n))

/-- What follows on the line in the end (log 11). -/
theorem settle (a : Keeps s t) (before : State) : Keeps s (State.settle before t) :=
  a.andThen (ofLine (t.settle_frame before))

/-- A request that names a position (R193). -/
theorem named (n : Nat) (f : FieldName) (i : SlotId) {serve : Pos → State} (h : ∀ k, Keeps s (serve k)) :
    Keeps s (atPosition n f i s serve) := by
  unfold atPosition
  split
  · exact answered s i _
  · exact h _

/-- The same operation made for each of a list. -/
theorem foldl {α : Type} {f : State → α → State} (h : ∀ t a, Keeps t (f t a)) (l : List α) (s : State) :
    Keeps s (l.foldl f s) := by
  induction l generalizing s with
  | nil => exact refl s
  | cons a rest ih => exact (h s a).andThen (ih _)

/-- An operation that a part without power or held in reset leaves undone. -/
theorem whenRunning {f : State → State} (h : Keeps s (f s)) : Keeps s (s.whenRunning f) := ite h (refl s)

end Keeps

open Keeps (ofLine ofCounter ofTariff answered)

/-! ## The tracking queue -/

/-- A new entry takes a place of the queue and the next name. -/
theorem insertNew_keeps (s : State) (front tail : Coord) (flag : Option RejectReason) (body : EntryBody)
    (fits : s.belt.queue.length < 24) : Keeps s (s.insertNew front tail flag body) :=
  ofLine (s.insertNew_frame front tail flag body fits)

theorem setEye_keeps (s : State) (k : Pos) (r : EyeRecord) : Keeps s (s.setEye k r) := .viaBelt s _ rfl rfl

theorem blockApplicator_keeps (s : State) (id : Option Nat) : Keeps s (s.blockApplicator id) := .viaBelt s _ rfl rfl

theorem changeDrive_keeps (s : State) (f : Belt → Belt) (queue : (f s.belt).queue = s.belt.queue)
    (next : (f s.belt).nextId = s.belt.nextId) : Keeps s (s.changeDrive f) :=
  .ite (.viaBelt s f queue next) ((Keeps.viaBelt s f queue next).offer _)

theorem length_insertEntry (p : Coord) (e : Entry) (q : List Entry) : (insertEntry p e q).length = q.length + 1 :=
  (State.insertEntry_perm p e q).length_eq

/-- An entry of the queue placed anew under its own name (R144). -/
theorem replaced_keeps (s : State) {e item : Entry} (there : e ∈ s.belt.queue) (id : item.id = e.id) :
    Keeps s (s.onBelt fun b => { b with
      queue := insertEntry b.p item (b.queue.filter fun o => o.id != e.id) }) := by
  refine .same rfl rfl (fun fits apart => ?_) And.intro
  have perm := State.insertEntry_perm s.belt.p item (s.belt.queue.filter fun o => o.id != e.id)
  have fewer : (s.belt.queue.filter fun o => o.id != e.id).length < s.belt.queue.length :=
    List.length_filter_lt_length_iff_exists.mpr ⟨e, there, by simp⟩
  refine ⟨?_, ((perm.map (·.id)).nodup_iff).mpr (List.nodup_cons.mpr ⟨?_, ?_⟩), fun o ho => ?_⟩
  · show (insertEntry _ _ _).length ≤ 24
    rw [length_insertEntry]
    omega
  · simp [id]
  · exact apart.1.sublist (List.filter_sublist.map _)
  · obtain rfl | left := List.mem_cons.mp (perm.mem_iff.mp ho)
    · exact id ▸ apart.2 e there
    · exact apart.2 o (List.mem_of_mem_filter left)

/-! ## The belt -/

theorem estopPath_keeps (s : State) (r : StopReason) : Keeps s (s.estopPath r) :=
  (changeDrive_keeps s _ rfl rfl).andThen (ofLine (((State.dropReservations_frame _).andThen
    (State.flagAll_frame _ _ _)).andThen (State.retractTamp_frame _)))

theorem reverse_keeps (s : State) : Keeps s s.reverse := by
  unfold State.reverse
  exact (ofLine (((LineFrame.viaOffer s _).andThen (State.flagAll_frame _ _ _)).andThen
    (State.dropReservations_frame _))).andThen (.viaBelt _ _ rfl rfl)

theorem markHigh_keeps (s : State) : Keeps s s.markHigh :=
  .ite (.viaBelt s _ rfl rfl) (.ite (reverse_keeps s) (.refl s))

theorem growInduct_keeps (s : State) (k : Pos) : Keeps s (s.growInduct k) := by
  unfold State.growInduct
  dsimp only
  split
  · exact .refl s
  · exact (ofLine (StepLaws.growEntry_frame s _ _)).andThen (.viaBelt _ _ rfl rfl)

theorem growApplicator_keeps (s : State) : Keeps s s.growApplicator := by
  unfold State.growApplicator
  split
  · exact .refl s
  · exact .ite (.refl s) ((ofLine (StepLaws.growEntry_frame s _ _)).andThen (.viaBelt _ _ rfl rfl))

theorem beltStep_keeps (before s : State) : Keeps s (State.beltStep before s) :=
  ((((markHigh_keeps s).andThen (.foldl growInduct_keeps _ _)).andThen (growApplicator_keeps _)).andThen
    (ofLine (State.endUnused_frame _))).settle before

theorem encoderCount_keeps (s : State) (forward : Bool) : Keeps s (s.encoderCount forward) := by
  have counted (b : BitVec 2) (n : Int) : Keeps s (s.onBelt fun x => { x with sub := b, windowCount := n }) :=
    .viaBelt s _ rfl rfl
  have stepped (t : State) (p : Coord) : Keeps t (State.beltStep s (t.onBelt fun b => { b with p := p })) :=
    Keeps.andThen (.viaBelt t _ rfl rfl) (beltStep_keeps s _)
  cases forward with
  | true => exact .ite ((counted _ _).andThen (stepped _ _)) (counted _ _)
  | false => exact .ite ((counted _ _).andThen (stepped _ _)) (counted _ _)

theorem ramp_keeps (s : State) : Keeps s s.ramp := .ite (.refl s) ((changeDrive_keeps s _ rfl rfl).settle s)

theorem speedWindow_keeps (s : State) : Keeps s s.speedWindow :=
  .ite ((Keeps.andThen (.offer (.andThen (.viaBelt s _ rfl rfl) (.viaBelt _ _ rfl rfl)) _) (estopPath_keeps _ _)).settle s)
    (.viaBelt s _ rfl rfl)

theorem assertStop_keeps (s : State) : Keeps s s.assertStop :=
  .ite (.offer (.onPins s _) _) (.settle (.offer (.andThen (.onPins s _) (estopPath_keeps _ _)) _) s)

theorem reservationAt_mem {s : State} {k : Pos} {e : Entry} {n : Nat} (found : s.reservationAt k = some (e, n)) :
    e ∈ s.belt.queue := by
  obtain ⟨o, there, reads⟩ := List.exists_of_findSome?_eq_some found
  split at reads
  · split at reads <;> cases reads
    exact there
  · cases reads
  · cases reads

theorem induct_keeps (s : State) (k : Pos) {e : Entry} (n : Nat) (there : e ∈ s.belt.queue) :
    Keeps s (s.induct k e n) := by
  have released (t : State) :
      Keeps t (t.onRelease fun r => if r.lit.any (fun l => l.item == n) then r.endLit else r) := .onRelease t _
  have mirrored (item : Entry) (id : item.id = e.id) (r : EyeRecord) (f : RegEntry → RegEntry) :=
    (((replaced_keeps s there id).andThen (setEye_keeps _ k r)).andThen (ofLine (State.onItem_frame _ n f))).andThen
      (released _)
  unfold State.induct
  dsimp only
  split
  · exact (mirrored _ (by rfl) _ _).andThen
      (ofLine ((State.reportFlag_frame _ _ _ _).andThen (State.displace_frame _)))
  · exact (mirrored _ (by rfl) _ _).andThen (ofLine (State.displace_frame _))

theorem strayAt_keeps (s : State) (k : Pos) : Keeps s (s.strayAt k) := by
  have flagged (ids : List Nat) : Keeps s (s.flagAll .overlap ids) := ofLine (s.flagAll_frame _ ids)
  refine .offer (.andThen ?_ (setEye_keeps _ _ _)) _
  split
  · rename_i fits
    refine (flagged _).andThen (insertNew_keeps _ _ _ _ _ ?_)
    rw [(flagAll_entries s _ _).length]
    exact of_decide_eq_true fits
  · exact (flagged _).offer _

theorem inductFront_keeps (s : State) (k : Pos) : Keeps s (s.inductFront k) := by
  unfold State.inductFront
  split
  · exact setEye_keeps s _ _
  · split
    · rename_i found
      exact (induct_keeps s _ _ (reservationAt_mem found)).settle s
    · exact (strayAt_keeps s k).settle s

theorem inductTrailing_keeps (s : State) (k : Pos) : Keeps s (s.inductTrailing k) := by
  have cleared := setEye_keeps s k (State.clearedEye (s.belt.eyes.get k))
  unfold State.inductTrailing
  dsimp only
  split
  · exact .ite cleared ((cleared.andThen (ofLine (StepLaws.measure_frame _ _ _))).settle s)
  · exact cleared

theorem matchHead_keeps (s : State) (e : Entry) : Keeps s (s.matchHead e) := by
  have marked := (ofLine (s.onEntry_frame e.id _ Entry.asMatched_id)).andThen (blockApplicator_keeps _ (some e.id))
  exact .ite (marked.andThen (ofLine (State.matchLabel_frame _ _))) marked

theorem unknownObject_keeps (s : State) : Keeps s s.unknownObject := by
  unfold State.unknownObject
  dsimp only
  split
  · rename_i fits
    exact ((insertNew_keeps s _ _ _ _ fits).andThen (blockApplicator_keeps _ _)).offer _
  · exact ((blockApplicator_keeps s none).offer _).offer _

theorem applicatorFront_keeps (s : State) : Keeps s s.applicatorFront := by
  refine .settle (.andThen (ofLine (StepLaws.removeMissing_frame s.belt.queue.length s)) ?_) s
  split
  · exact .ite (matchHead_keeps _ _) (unknownObject_keeps _)
  · exact unknownObject_keeps _

theorem applicatorTrailing_keeps (s : State) : Keeps s s.applicatorTrailing := by
  have cleared : Keeps s (s.onBelt fun b => { b with applicator := State.clearedEye s.belt.applicator }) :=
    .viaBelt s _ rfl rfl
  unfold State.applicatorTrailing
  dsimp only
  split
  · exact .ite cleared ((cleared.andThen (ofLine (StepLaws.measure_frame _ _ _))).settle s)
  · exact cleared

/-! ## Weighing, gauges and the cache -/

theorem serveWSet_keeps (c n b : Nat) (e : Enables) (i : SlotId) (s : State) : Keeps s (serveWSet c n b e i s) :=
  .named _ _ _ fun k =>
    .answer (ofCounter ((CounterFrame.viaChannel s k _).andThen (State.changeNotice_counter _ _ _))) _ _

theorem serveWTimeout_keeps (ms : Nat) (i : SlotId) (s : State) : Keeps s (serveWTimeout ms i s) :=
  .answer (.onWeighing s _) _ _

/-- A channel changed and the request answered, or the request refused. -/
theorem channelRequest_keeps (s : State) (k : Pos) (r : Option Reason) (f : Channel → Channel) (i : SlotId) :
    Keeps s (match r with | some r => s.refuse i r | none => (s.onChannel k f).ok i) := by
  cases r with
  | some r => exact answered s _ _
  | none => exact (ofCounter (.viaChannel s k f)).answer _ _

theorem serveWCalibrateZero_keeps (c : Nat) (i : SlotId) (s : State) : Keeps s (serveWCalibrateZero c i s) := by
  refine .named _ _ _ fun k => ?_
  split
  · exact answered s _ _
  · exact .answer (ofCounter ((CounterFrame.viaChannel s k _).andThen (State.changeNotice_counter _ _ _))) _ _

theorem serveLatch_keeps (i : SlotId) (s : State) (g : Pos) (u : Gauge) : Keeps s (serveGLatch.serveLatch i s g u) := by
  unfold serveGLatch.serveLatch
  split
  · exact (ofCounter (.viaGauge s g _)).answer _ _
  · split <;> exact (ofCounter (.viaGauge s g _)).answer _ _

theorem serveGLatch_keeps (g : Nat) (i : SlotId) (s : State) : Keeps s (serveGLatch g i s) := by
  refine .named _ _ _ fun k => ?_
  dsimp only
  split
  · exact .ite (answered s _ _) (serveLatch_keeps i s k _)
  · exact serveLatch_keeps i s k _

theorem serveCRead_keeps (k : CacheKind) (n : Nat) (i : SlotId) (s : State) : Keeps s (serveCRead k n i s) := by
  cases k with
  | point | band | lookaside => unfold serveCRead; dsimp only; split <;> exact answered s _ _
  | other => exact answered s _ _

/-! ## Items -/

theorem serveIOpen_keeps (f : OpenFields) (i : SlotId) (s : State) : Keeps s (serveIOpen f i s) := by
  unfold serveIOpen
  split
  · exact answered s _ _
  · exact .named _ _ _ fun k => .ite (answered s _ _)
      (.ite (answered s _ _) ((ofCounter (.viaSlot s k _)).answer _ _))

theorem serveIAmend_keeps (f : AmendFields) (i : SlotId) (s : State) : Keeps s (serveIAmend f i s) := by
  unfold serveIAmend
  split
  · exact answered s _ _
  · refine .named _ _ _ fun k => ?_
    dsimp only
    split
    · exact answered s _ _
    · exact answered s _ _
    · exact .ite (answered s _ _) ((ofCounter (State.amend_counter s _ _ _)).answer _ _)
    · exact .ite (answered s _ _)
        ((ofCounter ((State.unloadLimit_counter s k).andThen (State.amend_counter _ _ _ _))).answer _ _)

theorem serveIRate_keeps (p : Nat) (i : SlotId) (s : State) : Keeps s (serveIRate p i s) := by
  refine .named _ _ _ fun k => ?_
  split
  · exact answered s _ _
  · exact answered s _ _
  · exact ofCounter (State.beginRate_counter s _ _ _)
  · exact ofCounter ((State.unloadLimit_counter s k).andThen (State.beginRate_counter _ _ _ _))

/-- Blocks, issued record and low mark changed, the pool within its size. -/
theorem pool_keeps (s : State) (f : Items → Items) (pool : s.items.pool.length ≤ 4 → (f s.items).pool.length ≤ 4)
    (register : (f s.items).register = s.items.register) (confirmed : (f s.items).confirmed = s.items.confirmed)
    (closed : (f s.items).closed = s.items.closed) : Keeps s (s.onItems f) := fun l =>
  { l with
    account := by
      have was := l.account
      show (f s.items).accountLaw
      simpa only [Items.accountLaw, register, confirmed, closed] using was
    register := register ▸ l.register
    pool := pool l.pool }

theorem issueSerial_length {pool left : List SerialBlock} {n : Nat} (issues : issueSerial pool = some (n, left)) :
    left.length ≤ pool.length := by
  cases pool with
  | nil => cases issues
  | cons b rest =>
    simp only [issueSerial, Option.some.injEq, Prod.mk.injEq] at issues
    obtain ⟨-, rfl⟩ := issues
    split <;> simp

theorem issued_keeps (s : State) {n : Nat} {left : List SerialBlock}
    (issues : issueSerial s.items.pool = some (n, left)) : Keeps s (s.issued n left) := by
  have marked (t : State) : Keeps t (t.onItems fun m => { m with lowMark := true }) :=
    pool_keeps t _ id rfl rfl rfl
  refine .andThen (pool_keeps s _ (fun fits => ?_) rfl rfl rfl) (.ite ((marked _).offer _) (.refl _))
  exact Nat.le_trans (issueSerial_length issues) fits

/-- A confirmed item joins a register that has room (R109, R118). -/
theorem register_keeps (s : State) (k : Pos) (it : OpenItem) (e : RegEntry) (room : s.items.register.length < 32) :
    Keeps s (s.register k it e) := by
  have joined : Keeps s (s.onItems fun m => { m with register := m.register ++ [e], confirmed := m.confirmed + 1 }) :=
    fun l => { l with
      account := by
        have was := l.account
        simp only [Items.accountLaw, State.onItems, List.length_append, List.length_singleton, Items.closed] at *
        omega
      register := by
        simp only [State.onItems, List.length_append, List.length_singleton]
        omega }
  have weighed (t : State) := (CounterFrame.viaChannel t k (fun c => { c with interlock := true })).andThen
    (State.releaseCapture_counter _ k)
  have latched (t : State) := CounterFrame.ite (c := it.latched.isSome = true)
    ((weighed t).andThen (State.releaseLatch_counter _ k)) (weighed t)
  exact joined.andThen (ofCounter ((latched _).andThen (.viaSlot _ k _)))

theorem issued_register (s : State) (n : Nat) (pool : List SerialBlock) :
    (s.issued n pool).items.register = s.items.register := by
  unfold State.issued State.crossLow
  dsimp only
  split <;> rfl

theorem serveIConfirm_keeps (p : Nat) (i : SlotId) (s : State) : Keeps s (serveIConfirm p i s) := by
  have refused (r : Reason) : Keeps s (s.refuse i r) := answered s _ _
  refine .named _ _ _ fun k => ?_
  split
  · exact refused _
  · exact refused _
  · exact refused _
  · refine .ite (refused _) ?_
    split
    · exact refused _
    · split
      · exact refused _
      · rename_i room
        split
        · exact refused _
        · rename_i issues
          refine (((issued_keeps s issues).andThen (register_keeps _ _ _ _ ?_)).settle s).answer _ _
          rw [issued_register]
          exact Nat.lt_of_not_le room

theorem serveICancel_keeps (p : Nat) (i : SlotId) (s : State) : Keeps s (serveICancel p i s) := by
  refine .named _ _ _ fun k => ?_
  have idled (it : OpenItem) := (State.giveBack_counter s k it).andThen (.viaSlot _ k .idle)
  split
  · exact answered s _ _
  · exact (ofCounter (idled _)).answer _ _
  · exact (ofCounter (idled _)).answer _ _
  · exact ((ofCounter ((idled _).andThen (State.withdrawRating_counter _ k))).answer _ _).answer _ _

theorem serveIVoid_keeps (ds : List Nat) (i : SlotId) (s : State) : Keeps s (serveIVoid ds i s) := by
  unfold serveIVoid
  split
  · exact answered s _ _
  · split
    · exact answered s _ _
    · split
      · exact ((ofLine (s.closeItem_frame _ _)).settle s).answer _ _
      · exact ((ofLine ((s.endVoided_frame _).andThen (State.closeItem_frame _ _ _))).settle s).answer _ _
      · refine .ite (answered s _ _) ?_
        split
        · exact ((ofLine (s.flagEntry_frame _ _)).settle s).answer _ _
        · exact answered s _ _

theorem serveIRead_keeps (ds : List Nat) (i : SlotId) (s : State) : Keeps s (serveIRead ds i s) := by
  unfold serveIRead
  split
  · exact answered s _ _
  · split <;> exact answered s _ _

/-- A pool that is full takes no block (R113, R114). -/
theorem loadRefusal_none {m : Items} {first count : Nat} (accepted : m.loadRefusal first count = none) :
    m.pool.length < 4 := by
  by_contra full
  have : Config.poolBlocks ≤ m.pool.length := Nat.le_of_not_lt full
  simp only [Items.loadRefusal, this, if_true] at accepted
  split at accepted
  · cases accepted
  · split at accepted <;> cases accepted

theorem serveNLoad_keeps (f c : Nat) (i : SlotId) (s : State) : Keeps s (serveNLoad f c i s) := by
  unfold serveNLoad
  split
  · exact answered s _ _
  · rename_i accepted
    have room := loadRefusal_none accepted
    refine .answer (pool_keeps s _ (fun _ => ?_) rfl rfl rfl) _ _
    simpa using room

/-! ## Tariff -/

theorem serveTOpen_keeps (b : Option Bank) (n : Nat) (c : BitVec 32) (i : SlotId) (s : State) :
    Keeps s (serveTOpen b n c i s) := by
  unfold serveTOpen
  split
  · exact answered s _ _
  · rename_i k
    refine .ite (answered s _ _) ?_
    split
    · exact answered s _ _
    · rename_i h
      refine ofTariff (s.openSession_tariff k n c i fun loading => ?_)
      cases st : s.bankState k <;> simp [State.openRefusal, st, loading] at h

theorem serveTData_keeps (o : Nat) (d : List Byte) (i : SlotId) (s : State) : Keeps s (serveTData o d i s) := by
  unfold serveTData
  split
  · exact answered s _ _
  · exact (Keeps.onTariff s _).andThen (.foldl (fun t _ => ofTariff (t.askPort_tariff _)) _ _)

theorem serveTClose_keeps (i : SlotId) (s : State) : Keeps s (serveTClose i s) := by
  unfold serveTClose
  split
  · exact answered s _ _
  · exact .ite (answered s _ _) ((Keeps.andThen (.onTariff s _) (.onTariff _ _)).andThen
      (ofTariff (State.turnVerifier_tariff _)))

theorem serveTDiscard_keeps (b : Option Bank) (i : SlotId) (s : State) : Keeps s (serveTDiscard b i s) := by
  unfold serveTDiscard
  split
  · exact answered s _ _
  · split
    · exact answered s _ _
    · exact answered s _ _
    · exact answered s _ _
    · exact ((Keeps.onTariff s _).andThen (ofTariff (State.discardBank_tariff _ _))).answer _ _
    · exact (ofTariff (s.discardBank_tariff _)).answer _ _
    · split
      · exact (ofTariff (s.discardBank_tariff _)).answer _ _
      · exact ((ofTariff (s.endSession_tariff _ _)).andThen (.onTariff _ _)).answer _ _

theorem serveTActivate_keeps (i : SlotId) (s : State) : Keeps s (serveTActivate i s) := by
  unfold serveTActivate
  split
  · exact answered s _ _
  · exact (ofTariff (s.activate_tariff _ _ _)).answer _ _

/-! ## Verification and the start-up scan -/

theorem enterReady_keeps (s : State) : Keeps s s.enterReady := by
  have ready : Keeps s (s.onLink fun l => { l with part := .ready }) := .viaLink s _ (Nat.le_refl _) id
  exact .ite ((ready.andThen (estopPath_keeps _ _)).settle _) ready

theorem scanOn_keeps (s : State) (check : Bool) : Keeps s (s.scanOn check) := by
  have checked := TariffFrame.ite (c := check = true) s.effectiveCheck_tariff (.refl s)
  exact .ite ((ofTariff (checked.andThen (State.scanGeneration_tariff _))).andThen (enterReady_keeps _))
    (ofTariff s.turnVerifier_tariff)

theorem scanPassed_keeps (s : State) (k : Bank) (t : Summary) : Keeps s (s.scanPassed k t) := by
  have left := ofTariff (s.leaveScan_tariff k .passed)
  exact .ite ((left.andThen (.onTariff _ _)).andThen (scanOn_keeps _ _))
    ((left.andThen (.onTariff _ _)).andThen (scanOn_keeps _ _))

theorem scanFailed_keeps (s : State) (k : Bank) (c : VerifyCheck) (n : Nat) : Keeps s (s.scanFailed k c n) := by
  have left := ofTariff (s.leaveScan_tariff k (.failed c n))
  have damaged := (left.andThen (.onTariff _ fun t => { t with
    banks := t.banks.set k { t.banks.get k with state := .damaged } })).andThen
    (ofTariff (State.rewriteRecord_tariff _ k .damaged (s.descriptionOf k)))
  have emptied := left.andThen (ofTariff ((State.emptyBank_tariff _ k).andThen
    (State.rewriteRecord_tariff _ k .empty none)))
  exact .ite ((damaged.offer _).andThen (scanOn_keeps _ _)) (emptied.andThen (scanOn_keeps _ _))

theorem verifyRead_keeps (s : State) (bs : List Byte) : Keeps s (s.verifyRead bs) := by
  have ended (v : Verify) (r : Except (VerifyCheck × Nat) Summary) : Keeps s (s.endVerify v r) := by
    unfold State.endVerify
    split
    · split
      · exact scanPassed_keeps s _ _
      · exact scanFailed_keeps s _ _ _
    · split
      · exact ofTariff (s.verifyPassed_tariff _ _)
      · exact ofTariff (s.verifyFailed_tariff _ _ _)
      · exact .refl s
  unfold State.verifyRead
  split
  · exact .refl s
  · split
    · exact ofTariff (s.askVerify_tariff _)
    · exact ended _ _
    · exact ended _ _

theorem beginScan_keeps (s : State) : Keeps s s.beginScan := by
  have rewritten (t : State) (k : Bank) (c : Bool) :
      TariffFrame t (if c = true then t.rewriteRecord k .empty none else t) :=
    .ite (t.rewriteRecord_tariff _ _ _) (.refl t)
  unfold State.beginScan State.scanFrom
  dsimp only
  exact ((Keeps.onTariff s _).andThen (ofTariff ((rewritten _ _ _).andThen (rewritten _ _ _)))).andThen
    (scanOn_keeps _ _)

/-! ## Resets -/

/-- A reset leaves the memory canonical, whatever access it cuts short (R59, log 22). -/
theorem cutAccess_memory (s : State) (was : Memory.wf s.flash.cells = true) :
    Memory.wf s.cutAccess.flash.cells = true := by
  unfold State.cutAccess
  split
  · exact was
  · exact was
  · exact was
  · exact (s.spoil_tariff _ _).memory was
  · exact (s.spoil_tariff _ _).memory was
  · split <;> exact was
  · exact was

theorem cutStore_flash (s : State) : s.cutStore.flash = s.flash := by
  unfold State.cutStore
  split <;> rfl

/-- A part whose volatile state is lost counts and tracks nothing (R206). -/
theorem cold_keeps (s : State) (t : Time) : Keeps s (s.cold t) := fun l => {
  memory := by
    show Memory.wf s.cutAccess.cutStore.flash.cells = true
    rw [cutStore_flash]
    exact cutAccess_memory s l.memory
  account := rfl
  register := Nat.zero_le _
  queue := Nat.zero_le _
  pool := Nat.zero_le _
  notices := Nat.zero_le _
  busy := Nat.zero_le _
  names := ⟨List.nodup_nil, List.forall_mem_nil _⟩ }

theorem loadSettings_keeps (s : State) : Keeps s s.loadSettings := by
  have loaded (r : SettingsRecord) (source : Source) (seq : BitVec 32) : Keeps s (s.loadRecord r source seq) :=
    .same rfl rfl And.intro And.intro
  unfold State.loadSettings
  split
  · exact loaded _ _ _
  · exact (loaded _ _ _).offer _

theorem start_keeps (s : State) (sensor : PadSensor) : Keeps s (s.start sensor) := by
  have switches (t : State) : Keeps t t.readSwitches :=
    .foldl (fun u _ => .foldl (fun v _ => .ite (ofCounter (v.homeEvent_counter _ _)) (.refl v)) _ u) _ _
  have pad (u : State) : Keeps u (u.readPad sensor) := by
    cases sensor with
    | clear => exact .refl u
    | label => exact ofLine u.countWasted_frame
  exact (((loadSettings_keeps s).andThen (switches _)).andThen (pad _)).andThen (beginScan_keeps _)

theorem startUp_keeps (s : State) (sensor : PadSensor) : Keeps s (s.startUp sensor) :=
  .ite ((cold_keeps s {}).andThen (start_keeps _ _)) (cold_keeps s {})

theorem restart_keeps (s : State) : Keeps s s.restart :=
  ((Keeps.draw s).andThen (cold_keeps _ _)).andThen (start_keeps _ _)

/-! ## The Release Controller and the Label Unit -/

theorem servePClose_keeps (p : Nat) (i : SlotId) (s : State) : Keeps s (servePClose p i s) := by
  have closed (t : State) (k : Pos) : Keeps t (t.onRelease fun r => r.closePlace k) := .onRelease t _
  refine .named _ _ _ fun k => .ite (answered s _ _) (.answer (.settle (.andThen ?_ (closed _ k)) s) _ _)
  exact .ite (ofLine s.endUninducted_frame) (.refl s)

theorem rotationExpires_keeps (s : State) (k : Pos) : Keeps s (s.rotationExpires k) :=
  .ite (.ite (.settle (.andThen (.offer (.onRelease s _) _) (.onRelease _ _)) s) (.onRelease s _)) (.refl s)

theorem passToken_keeps (s : State) : Keeps s s.passToken := by
  unfold State.passToken
  split
  · exact .refl s
  · exact .settle (.onRelease s _) s

theorem printerReady_keeps (s : State) : Keeps s s.printerReady := by
  have ended := (LineFrame.viaLabel s fun u => { u with printer := .ready }).andThen
    (State.printerNotice_frame _ .state)
  unfold State.printerReady
  split
  · exact .refl s
  · exact .refl s
  · exact .settle (ofLine (s.resendJob_frame false)) s
  · exact .settle (ofLine (.ite (ended.andThen (State.resendJob_frame _ true)) ended)) s

theorem printerPresented_keeps (s : State) : Keeps s s.printerPresented := by
  have unexpected : Keeps s s.unexpectedLabel :=
    ofLine (((LineFrame.ite (s.eject_frame none .wasted) (.refl s)).andThen (.viaLabel _ _)).andThen
      (State.printerNotice_frame _ _))
  have presented (j : Job) : Keeps s (s.jobPresented j) := by
    have done := LineFrame.viaLabel s fun u => { u with job := none, printer := .presented }
    exact ofLine (.ite (done.andThen (State.eject_frame _ _ _))
      (((done.andThen (State.setLabel_frame _ _ _)).andThen (.viaLabel _ _)).andThen (State.displace_frame _)))
  unfold State.printerPresented
  split
  · exact (presented _).settle s
  all_goals exact unexpected.settle s

theorem printerFaulted_keeps (s : State) (kind : FaultKind) : Keeps s (s.printerFaulted kind) := by
  unfold State.printerFaulted
  split
  · exact .ite (.refl s) (.offer (.onLabel s _) _)
  all_goals exact .settle (ofLine (s.enterFault_frame kind)) s

theorem jobExpires_keeps (s : State) : Keeps s s.jobExpires :=
  .ite (.settle (ofLine ((LineFrame.viaLabel s _).andThen (State.enterFault_frame _ _))) s) (.refl s)

theorem extendEnds_keeps (s : State) : Keeps s s.extendEnds := by
  unfold State.extendEnds
  split
  · exact .onLabel s _
  all_goals exact .refl s

theorem dwellEnds_keeps (s : State) : Keeps s s.dwellEnds := by
  unfold State.dwellEnds
  split
  · exact .onLabel s _
  all_goals exact .refl s

theorem retractEnds_keeps (s : State) (sensor : PadSensor) : Keeps s (s.retractEnds sensor) := by
  unfold State.retractEnds
  split
  · exact .settle (ofLine (s.verdict_frame _ _)) s
  all_goals exact .refl s

theorem runBelt_keeps (s : State) (v : Nat) : Keeps s (s.runBelt v) := by
  unfold State.runBelt
  split
  · exact .ite (.viaBelt s _ rfl rfl) (changeDrive_keeps s _ rfl rfl)
  · exact .viaBelt s _ rfl rfl
  · exact .viaBelt s _ rfl rfl
  · exact .viaBelt s _ rfl rfl
  · exact .refl s
  · exact .refl s

theorem serveBStop_keeps (i : SlotId) (s : State) : Keeps s (serveBStop i s) := by
  refine .ite (answered s _ _) (.answer (.settle (changeDrive_keeps s _ ?_ ?_) s) _ _)
  · split <;> rfl
  · split <;> rfl

/-! ## Settings, link and calendar -/

theorem store_keeps (s : State) (h : HostFields) (i : SlotId) : Keeps s (s.store h i) := by
  unfold State.store
  exact ((Keeps.onSettings s _).andThen (.viaBelt _ _ rfl rfl)).andThen (pool_keeps _ _ id rfl rfl rfl)

theorem serveSStore_keeps (h : HostFields) (i : SlotId) (s : State) : Keeps s (serveSStore h i s) := by
  unfold serveSStore
  split
  · exact answered s _ _
  · exact store_keeps s _ _

theorem storeDone_keeps (s : State) (success : Bool) : Keeps s (s.storeDone success) := by
  unfold State.storeDone
  split
  · exact .refl s
  · exact .ite (.answer (.onSettings s _) _ _) (.answer (.andThen (.draw s) (.onSettings _ _)) _ _)

theorem serveSClockSet_keeps (c : Clock) (i : SlotId) (s : State) : Keeps s (serveSClockSet c i s) := by
  unfold serveSClockSet
  split
  · exact answered s _ _
  · exact .answer (.andThen (.onTime s _) (ofTariff (State.effectiveCheck_tariff _))) _ _

theorem second_keeps (s : State) : Keeps s s.second := by
  have phased := Keeps.onTime s fun t => { t with msPhase := 0, calendar := t.calendar.bind Clock.next }
  unfold State.second
  dsimp only
  split
  · exact phased
  · exact .ite (phased.andThen (ofTariff (State.effectiveCheck_tariff _))) phased

theorem serveSStatus_keeps (c : Bool) (i : SlotId) (s : State) : Keeps s (serveSStatus c i s) :=
  .answer (.ite (.viaLink s _ (Nat.le_refl _) id) (.refl s)) _ _

theorem serveSRestart_keeps (i : SlotId) (s : State) : Keeps s (serveSRestart i s) :=
  .ite (answered s _ _) (.answer (.viaLink s _ (Nat.le_refl _) id) _ _)

/-! ## Every request, in a row of its own or in a frame (R192, R193) -/

theorem serve_keeps (r : Request) (i : SlotId) (s : State) : Keeps s (serve r i s) := by
  cases r with
  | wSet c n b e => exact serveWSet_keeps c n b e i s
  | wTimeout ms => exact serveWTimeout_keeps ms i s
  | wZero c | wTare c => exact .named _ _ _ fun k => channelRequest_keeps s k _ _ i
  | wClearTare c => exact .named _ _ _ fun k => .ite (answered s _ _) ((ofCounter (.viaChannel s k _)).answer _ _)
  | wCalibrateZero c => exact serveWCalibrateZero_keeps c i s
  | wCalibrateSpan c g => exact .named _ _ _ fun k => .ite (answered s _ _) (channelRequest_keeps s k _ _ i)
  | gLatch g => exact serveGLatch_keeps g i s
  | tOpen b n c => exact serveTOpen_keeps b n c i s
  | tData o d => exact serveTData_keeps o d i s
  | tClose => exact serveTClose_keeps i s
  | tDiscard b => exact serveTDiscard_keeps b i s
  | tActivate => exact serveTActivate_keeps i s
  | cPurge => exact (ofCounter (.viaCache s _)).answer _ _
  | cStats c => exact .answer (.ite (ofCounter (.viaCache s _)) (.refl s)) _ _
  | cRead k n => exact serveCRead_keeps k n i s
  | iOpen f => exact serveIOpen_keeps f i s
  | iAmend f => exact serveIAmend_keeps f i s
  | iRate p => exact serveIRate_keeps p i s
  | iConfirm p => exact serveIConfirm_keeps p i s
  | iCancel p => exact serveICancel_keeps p i s
  | iVoid n => exact serveIVoid_keeps n i s
  | iRead n => exact serveIRead_keeps n i s
  | nLoad f c => exact serveNLoad_keeps f c i s
  | bRun v => exact .ite (answered s _ _) (.ite (answered s _ _) (.answer (.settle (runBelt_keeps s _) s) _ _))
  | bStop => exact serveBStop_keeps i s
  | bReset => exact .ite (answered s _ _) (.ite (answered s _ _) (.answer (changeDrive_keeps s _ rfl rfl) _ _))
  | pOpen p t x => exact .named _ _ _ fun k => .ite (answered s _ _) (.answer (.settle (.onRelease s _) s) _ _)
  | pClose p => exact servePClose_keeps p i s
  | pStats c => exact .answer (.ite (.onRelease s _) (.refl s)) _ _
  | lStatus => exact (Keeps.draw s).answer _ _
  | lStats c => exact .answer (.ite (.onLabel s _) (.refl s)) _ _
  | sClockSet c => exact serveSClockSet_keeps c i s
  | sStore h => exact serveSStore_keeps h i s
  | sStatus c => exact serveSStatus_keeps c i s
  | sRestart => exact serveSRestart_keeps i s
  | wStatus n | gStatus n | iStatus n => exact .named _ _ _ fun _ => answered s _ _
  | tStatus | iList | iCounts | nStatus | bStatus | bQueue | pStatus | sGet => exact answered s _ _

theorem dispatch_keeps (s : State) (tag : Byte) (code : MsgCode) (known fits : Bool) {serve : SlotId → State → State}
    (h : ∀ i t, Keeps t (serve i t)) : Keeps s (s.dispatch tag code known fits serve) := by
  unfold State.dispatch
  split
  · obtain ⟨-, -, -, notices, busy⟩ := Link.busy_keeps tag code s.link
    exact .viaLink s _ notices busy
  · have held (i : SlotId) := ofCounter (CounterFrame.viaHold s i tag code)
    exact .ite ((held _).answer _ _) (.ite ((held _).answer _ _)
      (.ite ((held _).answer _ _) ((held _).andThen (h _ _))))

/-- A request row (R193). -/
theorem request_keeps (s : State) (tag : Byte) (name : ReqName) (r : Request) :
    Keeps s (s.request tag name (serve r)) := .whenRunning (dispatch_keeps s _ _ _ _ (serve_keeps r))

theorem dispatchPayload_keeps (s : State) (tag code : Byte) (fields : List Byte) :
    Keeps s (s.dispatchPayload tag code fields) := by
  unfold State.dispatchPayload
  split
  · exact dispatch_keeps s _ _ _ _ fun _ => .refl
  · exact dispatch_keeps s _ _ _ _ fun _ => .refl
  · exact dispatch_keeps s _ _ _ _ (serve_keeps _)

theorem discardFrame_keeps (s : State) : Keeps s s.discardFrame := .viaLink s _ (Nat.le_refl _) id

theorem takeByte_keeps (s : State) (b : Byte) : Keeps s (s.takeByte b) := by
  have received (r : Receiver) (n : Nat) : Keeps s (s.onLink fun l => { l with receiver := r, gap := n }) :=
    .viaLink s _ (Nat.le_refl _) id
  have tested (bs : List Byte) : Keeps s (s.testFrame bs) :=
    .ite (.andThen (received _ _) (dispatchPayload_keeps _ _ _ _)) (discardFrame_keeps s)
  unfold State.takeByte
  split
  · exact .ite (received _ _) (.refl s)
  · exact .ite (discardFrame_keeps s) (.ite (tested _) (received _ _))

theorem breakFrame_keeps (s : State) : Keeps s s.breakFrame := by
  unfold State.breakFrame
  split
  · exact .refl s
  · exact discardFrame_keeps s

/-- A frame has gone: what waits to leave is what waited, or all of it but the first (R195). -/
theorem sentOn_keeps (s : State) (f : Link → Link) (notices : (f s.link).notices = s.link.notices)
    (ready : (f s.link).ready.Sublist s.link.ready) : Keeps s (s.onLink fun l => Link.sendNext (f l)) := by
  refine .viaLink s _ (Nat.le_trans (LineFrame.sendNext_notices _) (by rw [notices])) fun held => ?_
  rw [Link.sendNext_busyList]
  exact Nat.le_trans (ready.filterMap _).length_le held

theorem frameSent_keeps (s : State) : Keeps s s.frameSent := by
  unfold State.frameSent
  split
  · exact .refl s
  · exact .ite (restart_keeps s) (sentOn_keeps s _ rfl (List.drop_sublist _ _))
  · exact sentOn_keeps s _ rfl (List.drop_sublist _ _)
  · exact sentOn_keeps s _ rfl (.refl _)

/-! ## A step -/

theorem exec_programmingAccess_keeps (ok : Bool) (s : State) :
    ∃ t, exec (.programmingAccessComplete ok) s = .next t ∧ Keeps s t := by
  refine ⟨_, rfl, .whenRunning ?_⟩
  split
  · exact .refl s
  · exact ofTariff ((TariffFrame.viaPort s _).andThen (State.programmingDone_tariff _ _ _))

theorem exec_verificationRead_keeps (d : Option (List Byte)) (s : State) :
    ∃ t, exec (.verificationReadComplete d) s = .next t ∧ Keeps s t := by
  refine ⟨_, rfl, .whenRunning ?_⟩
  split
  · exact .andThen (ofTariff (.viaPort s _)) (verifyRead_keeps _ _)
  · exact .refl s

theorem exec_walkRead_keeps (d : Option (List Byte)) (s : State) :
    ∃ t, exec (.walkReadComplete d) s = .next t ∧ Keeps s t := by
  refine ⟨_, rfl, .whenRunning ?_⟩
  split
  · exact ofTariff (s.walkDone_tariff _ _ _)
  · exact .refl s

/-- Every command goes on, and keeps the laws. -/
theorem exec_keeps (c : Instr) (s : State) : ∃ t, exec c s = .next t ∧ Keeps s t := by
  have row (tag : Byte) (name : ReqName) (r : Request) := request_keeps s tag name r
  cases c with
  | sampleArrival k raw => exact ⟨_, rfl, .whenRunning (ofCounter (s.sample_counter k _))⟩
  | sampleTimerExpiry k => exact ⟨_, rfl, .whenRunning (ofCounter (s.missSample_counter k))⟩
  | captureTimeout k => exact ⟨_, rfl, .whenRunning (ofCounter (s.captureExpires_counter k))⟩
  | encoderStep g a p =>
    exact ⟨_, rfl, .ite (ofCounter (s.phasePair_counter g a p)) (ofCounter (s.setAxis_counter g a _))⟩
  | homeEvent g a => exact ⟨_, rfl, .ite (ofCounter (s.homeEvent_counter g a)) (ofCounter (s.setAxis_counter g a _))⟩
  | homeSwitchOpened g a => exact ⟨_, rfl, ofCounter (s.setAxis_counter g a _)⟩
  | buttonPress g => exact ⟨_, rfl, .ite (ofCounter (s.buttonPress_counter g)) (ofCounter (.viaGauge s g _))⟩
  | buttonRelease g => exact ⟨_, rfl, ofCounter (.viaGauge s g _)⟩
  | programmingAccessComplete ok => exact exec_programmingAccess_keeps ok s
  | verificationReadComplete d => exact exec_verificationRead_keeps d s
  | walkReadComplete d => exact exec_walkRead_keeps d s
  | beltEncoderCount forward => exact ⟨_, rfl, .whenRunning (encoderCount_keeps s forward)⟩
  | speedWindowEnd => exact ⟨_, rfl, .whenRunning (.andThen (.onTime s _) (speedWindow_keeps _))⟩
  | rampStep => exact ⟨_, rfl, .whenRunning (.andThen (.onTime s _) (ramp_keeps _))⟩
  | emergencyStopAsserted => exact ⟨_, rfl, .ite (.refl s) (.ite (assertStop_keeps s) (.onPins s _))⟩
  | emergencyStopReleased =>
    exact ⟨_, rfl, .ite (.refl s) (.ite (.offer (.onPins s _) _) (.onPins s _))⟩
  | inductEyeFrontEdge k => exact ⟨_, rfl, .ite (.refl s) (.ite (inductFront_keeps s k) (setEye_keeps s k _))⟩
  | inductEyeTrailingEdge k => exact ⟨_, rfl, .ite (.refl s) (.ite (inductTrailing_keeps s k) (setEye_keeps s k _))⟩
  | applicatorEyeFrontEdge =>
    exact ⟨_, rfl, .ite (.refl s) (.ite (applicatorFront_keeps s) (.viaBelt s _ rfl rfl))⟩
  | applicatorEyeTrailingEdge =>
    exact ⟨_, rfl, .ite (.refl s) (.ite (applicatorTrailing_keeps s) (.viaBelt s _ rfl rfl))⟩
  | negotiationTimerExpiry => exact ⟨_, rfl, .whenRunning (.ite (.settle (.onRelease s _) s) (.refl s))⟩
  | rotationTimerExpiry k => exact ⟨_, rfl, .whenRunning (rotationExpires_keeps s k)⟩
  | tokenPass => exact ⟨_, rfl, .whenRunning (passToken_keeps s)⟩
  | thtExpiry => exact ⟨_, rfl, .whenRunning (.ite (.settle (.onRelease s _) s) (.refl s))⟩
  | expressWaitExpiry => exact ⟨_, rfl, .whenRunning (.ite (.settle (.onRelease s _) s) (.refl s))⟩
  | printerReadyReport => exact ⟨_, rfl, .whenRunning (printerReady_keeps s)⟩
  | printerPresentedReport => exact ⟨_, rfl, .whenRunning (printerPresented_keeps s)⟩
  | printerFaultReport kind => exact ⟨_, rfl, .whenRunning (printerFaulted_keeps s _)⟩
  | jobTimerExpiry => exact ⟨_, rfl, .whenRunning (jobExpires_keeps s)⟩
  | queryTimerExpiry => exact ⟨_, rfl, .whenRunning (.ite (.onLabel s _) (.refl s))⟩
  | tampExtendEnd => exact ⟨_, rfl, .whenRunning (extendEnds_keeps s)⟩
  | tampDwellEnd => exact ⟨_, rfl, .whenRunning (dwellEnds_keeps s)⟩
  | tampRetractEnd sensor => exact ⟨_, rfl, .whenRunning (retractEnds_keeps s sensor)⟩
  | frameReceived b => exact ⟨_, rfl, .whenRunning (takeByte_keeps s b)⟩
  | byteReceived b => exact ⟨_, rfl, .whenRunning (takeByte_keeps s b)⟩
  | byteFramingError => exact ⟨_, rfl, .whenRunning (breakFrame_keeps s)⟩
  | byteGapTimeout => exact ⟨_, rfl, .whenRunning (breakFrame_keeps s)⟩
  | transmitFrameEnd => exact ⟨_, rfl, .whenRunning (frameSent_keeps s)⟩
  | calendarSecond => exact ⟨_, rfl, .whenRunning (second_keeps s)⟩
  | storeWriteComplete ok => exact ⟨_, rfl, .whenRunning (storeDone_keeps s ok)⟩
  | powerOnReset sensor => exact ⟨_, rfl, (Keeps.onPins s _).andThen (startUp_keeps _ sensor)⟩
  | pinReset sensor => exact ⟨_, rfl, (Keeps.onPins s _).andThen (startUp_keeps _ sensor)⟩
  | resetLineAsserted => exact ⟨_, rfl, (Keeps.onPins s _).andThen (cold_keeps _ _)⟩
  | powerLoss => exact ⟨_, rfl, (Keeps.onPins s _).andThen (cold_keeps _ _)⟩
  | tData tag o d => exact ⟨_, rfl, .whenRunning (dispatch_keeps s _ _ _ _ (serve_keeps (.tData o d)))⟩
  | wSet tag c n b e => exact ⟨_, rfl, row tag _ (.wSet c n b e)⟩
  | wTimeout tag ms => exact ⟨_, rfl, row tag _ (.wTimeout ms)⟩
  | wZero tag c => exact ⟨_, rfl, row tag _ (.wZero c)⟩
  | wTare tag c => exact ⟨_, rfl, row tag _ (.wTare c)⟩
  | wClearTare tag c => exact ⟨_, rfl, row tag _ (.wClearTare c)⟩
  | wCalibrateZero tag c => exact ⟨_, rfl, row tag _ (.wCalibrateZero c)⟩
  | wCalibrateSpan tag c g => exact ⟨_, rfl, row tag _ (.wCalibrateSpan c g)⟩
  | wStatus tag c => exact ⟨_, rfl, row tag _ (.wStatus c)⟩
  | gLatch tag g => exact ⟨_, rfl, row tag _ (.gLatch g)⟩
  | gStatus tag g => exact ⟨_, rfl, row tag _ (.gStatus g)⟩
  | tOpen tag b n c => exact ⟨_, rfl, row tag _ (.tOpen b n c)⟩
  | tClose tag => exact ⟨_, rfl, row tag _ .tClose⟩
  | tDiscard tag b => exact ⟨_, rfl, row tag _ (.tDiscard b)⟩
  | tActivate tag => exact ⟨_, rfl, row tag _ .tActivate⟩
  | tStatus tag => exact ⟨_, rfl, row tag _ .tStatus⟩
  | cPurge tag => exact ⟨_, rfl, row tag _ .cPurge⟩
  | cStats tag c => exact ⟨_, rfl, row tag _ (.cStats c)⟩
  | cRead tag k n => exact ⟨_, rfl, row tag _ (.cRead k n)⟩
  | iOpen tag f => exact ⟨_, rfl, row tag _ (.iOpen f)⟩
  | iAmend tag f => exact ⟨_, rfl, row tag _ (.iAmend f)⟩
  | iRate tag p => exact ⟨_, rfl, row tag _ (.iRate p)⟩
  | iConfirm tag p => exact ⟨_, rfl, row tag _ (.iConfirm p)⟩
  | iCancel tag p => exact ⟨_, rfl, row tag _ (.iCancel p)⟩
  | iVoid tag n => exact ⟨_, rfl, row tag _ (.iVoid n)⟩
  | iStatus tag p => exact ⟨_, rfl, row tag _ (.iStatus p)⟩
  | iRead tag n => exact ⟨_, rfl, row tag _ (.iRead n)⟩
  | iList tag => exact ⟨_, rfl, row tag _ .iList⟩
  | iCounts tag => exact ⟨_, rfl, row tag _ .iCounts⟩
  | nLoad tag f c => exact ⟨_, rfl, row tag _ (.nLoad f c)⟩
  | nStatus tag => exact ⟨_, rfl, row tag _ .nStatus⟩
  | bRun tag v => exact ⟨_, rfl, row tag _ (.bRun v)⟩
  | bStop tag => exact ⟨_, rfl, row tag _ .bStop⟩
  | bReset tag => exact ⟨_, rfl, row tag _ .bReset⟩
  | bStatus tag => exact ⟨_, rfl, row tag _ .bStatus⟩
  | bQueue tag => exact ⟨_, rfl, row tag _ .bQueue⟩
  | pOpen tag p t x => exact ⟨_, rfl, row tag _ (.pOpen p t x)⟩
  | pClose tag p => exact ⟨_, rfl, row tag _ (.pClose p)⟩
  | pStatus tag => exact ⟨_, rfl, row tag _ .pStatus⟩
  | pStats tag c => exact ⟨_, rfl, row tag _ (.pStats c)⟩
  | lStatus tag => exact ⟨_, rfl, row tag _ .lStatus⟩
  | lStats tag c => exact ⟨_, rfl, row tag _ (.lStats c)⟩
  | sClockSet tag c => exact ⟨_, rfl, row tag _ (.sClockSet c)⟩
  | sStore tag h => exact ⟨_, rfl, row tag _ (.sStore h)⟩
  | sGet tag => exact ⟨_, rfl, row tag _ .sGet⟩
  | sStatus tag c => exact ⟨_, rfl, row tag _ (.sStatus c)⟩
  | sRestart tag => exact ⟨_, rfl, row tag _ .sRestart⟩

theorem step_keeps {s t : State} (next : step s = .next t) : Keeps s t := by
  unfold step at next
  split at next
  · cases next
    exact .whenRunning (.same rfl rfl And.intro And.intro)
  · rename_i c rest _
    obtain ⟨u, executed, kept⟩ := exec_keeps c { s with pending := rest }
    cases executed.symm.trans next
    exact Keeps.andThen (t := { s with pending := rest }) (.same rfl rfl And.intro And.intro) kept

/-- Settles O59: a step is a millisecond event or a command, and each keeps the laws. -/
theorem stepKeepsMemoryAccountsAndSizes : Obligations.StepKeepsMemoryAccountsAndSizes := by
  rintro s t ⟨memory, account, ⟨register, queue, pool, notices, busy⟩, names⟩ next
  have l := step_keeps next ⟨memory, account, register, queue, pool, notices, busy, names⟩
  exact ⟨l.memory, l.account, ⟨l.register, l.queue, l.pool, l.notices, l.busy⟩, l.names⟩

end Sys2Proof.Machine.AccountLaws
end

section
/-! PROOFS of 06_items_and_numbers.md: the number pool (R113 to R117). The refusals of N_LOAD and the block it appends,
the ranges an issue marks, and the digits of an item number with the check digit that guards each of them. -/

namespace Sys2Proof.Machine.NumberPool

/-! ## N_LOAD (R114, R116) -/

/-- N_LOAD that takes a slot is served there (R193). -/
theorem exec_nLoad {s : State} {i : SlotId} (takes : s.takes i) (tag : Byte) (first count : Nat) :
    exec (.nLoad tag first count) s = .next (serveNLoad first count i (s.held i tag .nLoad)) :=
  congrArg _ (s.request_takes takes tag .nLoad _)

section
variable {s : State} {i : SlotId} (takes : s.takes i) (tag : Byte) {first count : Nat}
include takes

/-- A load for which a refusal is found is refused with it. -/
theorem nLoad_refused {r : Reason} {f : Fields} (refused : s.items.loadRefusal first count = some (r, f)) :
    exec (.nLoad tag first count) s = s.refuses i tag .nLoad r f := by
  have held : (s.held i tag .nLoad).items.loadRefusal first count = some (r, f) := refused
  rw [exec_nLoad takes, serveNLoad, held]
  rfl

/-- A load for which none is found appends its block, and the low mark stays only while the pool is low. -/
theorem nLoad_accepted (accepted : s.items.loadRefusal first count = none) :
    let pool := s.items.pool ++ [⟨first, first + count - 1, first⟩]
    let left := (pool.map (fun o => o.last + 1 - o.next)).sum
    exec (.nLoad tag first count) s = (s.onItems (fun m => { m with
      pool := pool
      lowMark := m.lowMark && decide (left < s.settings.host.lowWater) })).answers i tag .nLoad
        (.ok (.remaining left)) := by
  have held : (s.held i tag .nLoad).items.loadRefusal first count = none := accepted
  rw [exec_nLoad takes, serveNLoad, held]
  rfl

end

section
variable {m : Items} {first count : Nat}

theorem loadRefusal_count (outside : count < 1 ∨ 1000000 < count) :
    m.loadRefusal first count = some (.badField, .field .count) := if_pos outside

variable (inside : ¬(count < 1 ∨ 1000000 < count))
include inside

theorem loadRefusal_last (beyond : 9999999 < first + count - 1) :
    m.loadRefusal first count = some (.badField, .field .firstSerial) := (if_neg inside).trans (if_pos beyond)

variable (within : ¬9999999 < first + count - 1)
include within

theorem loadRefusal_full (full : 4 ≤ m.pool.length) : m.loadRefusal first count = some (.poolFull, .none) :=
  (if_neg inside).trans ((if_neg within).trans (if_pos full))

variable (room : ¬4 ≤ m.pool.length)
include room

/-- With the fields right and room in the pool, the conflicts and the issued record decide. -/
theorem loadRefusal_conflicts : m.loadRefusal first count =
    match m.pool.find? (fun o => decide (first ≤ o.last) && decide (o.first ≤ first + count - 1)) with
    | some b => some (.overlap, .serialBlock b)
    | none =>
      match m.issued.find? (fun x => decide (first ≤ x.2) && decide (x.1 ≤ first + count - 1)) with
      | some r => some (.overlap, .serialRange r.1 r.2)
      | none => if 64 < m.issued.length + m.pool.length + 1 then some (.historyFull, .none) else none :=
  (if_neg inside).trans ((if_neg within).trans (if_neg room))

end

/-- No run of a list shares a serial with the load. -/
theorem find?_none_of_apart {α : Type} {l : List α} {lo hi : α → Nat} {first last : Nat}
    (apart : ∀ x ∈ l, hi x < first ∨ last < lo x) :
    l.find? (fun x => decide (first ≤ hi x) && decide (lo x ≤ last)) = none := by
  refine List.find?_eq_none.mpr fun x there => ?_
  have := apart x there
  simp only [Bool.and_eq_true, decide_eq_true_eq]
  omega

/-! ## The issued record (R115) -/

/-- A serial lies in one of the ranges. -/
def Covers (l : List (Nat × Nat)) (x : Nat) : Prop := ∃ r ∈ l, r.1 ≤ x ∧ x ≤ r.2

theorem covers_cons (r : Nat × Nat) (l : List (Nat × Nat)) (x : Nat) :
    Covers (r :: l) x ↔ (r.1 ≤ x ∧ x ≤ r.2) ∨ Covers l x := List.exists_mem_cons_iff _ _ _

/-- An issue adds its serial to the ranges and no other, and leaves each range in order. -/
theorem addIssued_covers (n : Nat) (l : List (Nat × Nat)) (ordered : ∀ r ∈ l, r.1 ≤ r.2) :
    (∀ x, Covers (addIssued n l) x ↔ x = n ∨ Covers l x) ∧ ∀ r ∈ addIssued n l, r.1 ≤ r.2 := by
  induction l with
  | nil => simp [addIssued, Covers, Nat.le_antisymm_iff, and_comm]
  | cons r rest ih =>
    obtain ⟨a, b⟩ := r
    obtain ⟨first, later⟩ := List.forall_mem_cons.mp ordered
    obtain ⟨added, kept⟩ := ih later
    dsimp only at first
    simp only [addIssued]
    split
    · refine ⟨fun x => ?_, List.forall_mem_cons.mpr ⟨Nat.le_refl n, ordered⟩⟩
      rw [covers_cons]
      exact or_congr_left (by dsimp only; omega)
    · split
      · refine ⟨fun x => ?_, List.forall_mem_cons.mpr ⟨by dsimp only; omega, later⟩⟩
        rw [covers_cons, covers_cons, ← or_assoc]
        exact or_congr_left (by dsimp only; omega)
      · split
        · refine ⟨fun x => ?_, ordered⟩
          rw [covers_cons, ← or_assoc]
          exact or_congr_left (by dsimp only; omega)
        · split
          · cases rest with
            | nil =>
              refine ⟨fun x => ?_, List.forall_mem_singleton.mpr (by dsimp only; omega)⟩
              rw [covers_cons, covers_cons, ← or_assoc]
              exact or_congr_left (by dsimp only; omega)
            | cons c more =>
              obtain ⟨c, d⟩ := c
              obtain ⟨second, others⟩ := List.forall_mem_cons.mp later
              dsimp only at second ⊢
              split
              · refine ⟨fun x => ?_, List.forall_mem_cons.mpr ⟨by dsimp only; omega, others⟩⟩
                rw [covers_cons, covers_cons, covers_cons, ← or_assoc, ← or_assoc]
                exact or_congr_left (by dsimp only; omega)
              · refine ⟨fun x => ?_, List.forall_mem_cons.mpr ⟨by dsimp only; omega, later⟩⟩
                rw [covers_cons (a, n), covers_cons (a, b), ← or_assoc]
                exact or_congr_left (by omega)
          · refine ⟨fun x => ?_, List.forall_mem_cons.mpr ⟨first, kept⟩⟩
            rw [covers_cons, covers_cons, added, or_left_comm]

/-! ## Digits (R117) -/

theorem length_digitsOf (w n : Nat) : (digitsOf w n).length = w := by
  induction w generalizing n with
  | zero => rfl
  | succ w ih => simp [digitsOf, ih]

theorem digitsOf_le (w n : Nat) : ∀ d ∈ digitsOf w n, d ≤ 9 := by
  induction w generalizing n with
  | zero => exact List.forall_mem_nil _
  | succ w ih =>
    rw [digitsOf]
    exact List.forall_mem_append.mpr ⟨ih _, List.forall_mem_singleton.mpr (by omega)⟩

theorem ofDigits_append_singleton (ds : List Nat) (d : Nat) : ofDigits (ds ++ [d]) = ofDigits ds * 10 + d := by
  simp [ofDigits]

theorem ofDigits_digitsOf (w n : Nat) (fits : n < 10 ^ w) : ofDigits (digitsOf w n) = n := by
  induction w generalizing n with
  | zero =>
    obtain rfl : n = 0 := by simpa using fits
    rfl
  | succ w ih =>
    rw [digitsOf, ofDigits_append_singleton, ih (n / 10) (by rw [Nat.pow_succ] at fits; omega)]
    omega

/-- The digits of a number of two parts are those of the parts. -/
theorem digitsOf_append (a b high low : Nat) (fits : low < 10 ^ b) :
    digitsOf (a + b) (high * 10 ^ b + low) = digitsOf a high ++ digitsOf b low := by
  induction b generalizing low with
  | zero =>
    obtain rfl : low = 0 := by simpa using fits
    simp [digitsOf]
  | succ b ih =>
    rw [Nat.pow_succ] at fits ⊢
    have tens : (high * (10 ^ b * 10) + low) / 10 = high * 10 ^ b + low / 10 := by
      rw [← Nat.mul_assoc]
      omega
    have ones : (high * (10 ^ b * 10) + low) % 10 = low % 10 := by
      rw [← Nat.mul_assoc]
      omega
    show digitsOf (a + b) _ ++ _ = _
    rw [tens, ones, ih (low / 10) (by omega), List.append_assoc]
    rfl

/-! ## The check digit (R117) -/

/-- The weight of the digit at a place. -/
def weightAt (p : Nat) : Nat := if p % 3 = 0 then 7 else if p % 3 = 1 then 3 else 1

/-- A digit counts in the sum with the weight of its place. -/
theorem weighDigits_set (ds : List Nat) (p d : Nat) (there : p < ds.length) :
    weighDigits (ds.set p d) + weightAt p * ds.getD p 0 = weighDigits ds + weightAt p * d := by
  induction ds using weighDigits.induct generalizing p with
  | case1 => simp at there
  | case2 a =>
    obtain rfl : p = 0 := by simpa using there
    simp [weighDigits, weightAt]
    omega
  | case3 a b =>
    obtain rfl | rfl : p = 0 ∨ p = 1 := by simp at there; omega
    · simp [weighDigits, weightAt]; omega
    · simp [weighDigits, weightAt]; omega
  | case4 a b c rest ih =>
    match p with
    | 0 => simp [weighDigits, weightAt]; omega
    | 1 => simp [weighDigits, weightAt]; omega
    | 2 => simp [weighDigits, weightAt]; omega
    | p + 3 =>
      have later := ih p (by simpa using there)
      have weight : weightAt (p + 3) = weightAt p := by simp [weightAt]
      simp only [List.set_cons_succ, weighDigits, List.getD_cons_succ, weight]
      omega

/-- No weight shares a factor with 10, so another digit gives another check digit. -/
theorem checkDigit_set_ne (ds : List Nat) {p d : Nat} (there : p < ds.length) (old : ds.getD p 0 ≤ 9) (new : d ≤ 9)
    (changed : d ≠ ds.getD p 0) : checkDigit (ds.set p d) ≠ checkDigit ds := by
  have sum := weighDigits_set ds p d there
  generalize ds.getD p 0 = e at *
  simp only [checkDigit]
  obtain weight | weight | weight : weightAt p = 7 ∨ weightAt p = 3 ∨ weightAt p = 1 := by
    unfold weightAt
    split
    · exact .inl rfl
    · split
      · exact .inr (.inl rfl)
      · exact .inr (.inr rfl)
  all_goals
    rw [weight] at sum
    omega

theorem checkDigit_le (ds : List Nat) : checkDigit ds ≤ 9 := by
  unfold checkDigit
  omega

/-! ## Item numbers (R117) -/

/-- A digit of a number that is accepted cannot be another one. -/
theorem numberField_set_none {ds : List Nat} {n p d : Nat} (accepted : numberField ds = some n) (place : p < 12)
    (digit : d ≤ 9) (changed : d ≠ ds.getD p 0) : numberField (ds.set p d) = none := by
  unfold numberField at accepted
  split at accepted
  case isFalse => cases accepted
  case isTrue right =>
    obtain ⟨length, digits, check⟩ := right
    refine if_neg fun ⟨_, _, still⟩ => ?_
    have old : ds.getD p 0 ≤ 9 := by
      rw [List.getD_eq_getElem _ _ (by omega)]
      exact of_decide_eq_true (List.all_eq_true.mp digits _ (List.getElem_mem _))
    by_cases last : p = 11
    · subst last
      rw [List.take_set_of_le (Nat.le_refl _), check] at still
      exact changed (by simpa [List.getD, length] using still.symm)
    · have place : p < (ds.take 11).length := by rw [List.length_take]; omega
      have same : (ds.take 11).getD p 0 = ds.getD p 0 := by
        simp [List.getD, show p < 11 by omega]
      rw [List.take_set] at still
      refine checkDigit_set_ne _ place (same ▸ old) digit (same ▸ changed) ?_
      rw [still, check]
      simp [List.getD, List.getElem?_set_ne last]

theorem digitsOf_one {d : Nat} (digit : d ≤ 9) : digitsOf 1 d = [d] := by
  rw [digitsOf, digitsOf, Nat.mod_eq_of_lt (Nat.lt_succ_of_le digit)]
  rfl

/-- An item number spells its office, its serial and their check digit. -/
theorem digitsOf_itemNumber (office : Nat) {serial : Nat} (fits : serial ≤ 9999999) :
    digitsOf 12 (itemNumber office serial) =
      (digitsOf 4 office ++ digitsOf 7 serial) ++ [checkDigit (digitsOf 4 office ++ digitsOf 7 serial)] := by
  have check := checkDigit_le (digitsOf 4 office ++ digitsOf 7 serial)
  unfold itemNumber
  generalize checkDigit (digitsOf 4 office ++ digitsOf 7 serial) = d at check ⊢
  rw [← digitsOf_append 4 7 office serial (Nat.lt_succ_of_le fits), ← digitsOf_one check]
  exact digitsOf_append 11 1 _ d (Nat.lt_succ_of_le check)

/-- An item number is accepted. -/
theorem numberField_itemNumber {office serial : Nat} (officeFits : office ≤ 9999) (serialFits : serial ≤ 9999999) :
    numberField (digitsOf 12 (itemNumber office serial)) = some (itemNumber office serial) := by
  have check := checkDigit_le (digitsOf 4 office ++ digitsOf 7 serial)
  have length : (digitsOf 4 office ++ digitsOf 7 serial).length = 11 := by simp [length_digitsOf]
  have fits : itemNumber office serial < 10 ^ 12 := by
    unfold itemNumber
    omega
  unfold numberField
  rw [if_pos, ofDigits_digitsOf 12 _ fits]
  refine ⟨length_digitsOf _ _, List.all_eq_true.mpr fun d there => decide_eq_true (digitsOf_le _ _ d there), ?_⟩
  rw [digitsOf_itemNumber office serialFits, List.take_left' length, List.getD_eq_getElem?_getD,
    List.getElem?_append_right (Nat.le_of_eq length), length]
  rfl

/-- Settles O40: a load by the first refusal of its order, an issue by where its serial lies among the ranges, and a
digit by the weight it counts with. -/
theorem numbersLoadedAndIssued : Obligations.NumbersLoadedAndIssued := by
  refine ⟨fun s i tag first count takes => ?load, addIssued_covers, fun office serial officeFits serialFits => ?number⟩
  case load =>
    have refused {r : Reason} {f : Fields} := nLoad_refused (first := first) (count := count) (r := r) (f := f) takes tag
    refine ⟨fun outside => ⟨_, refused (loadRefusal_count outside)⟩, fun low high => ?_⟩
    have inside : ¬(count < 1 ∨ 1000000 < count) := by omega
    refine ⟨fun beyond => ⟨_, refused (loadRefusal_last inside beyond)⟩, fun within => ?_⟩
    have within := Nat.not_lt.mpr within
    refine ⟨fun full => refused (loadRefusal_full inside within full), fun room => ?_⟩
    have conflicts := loadRefusal_conflicts inside within (Nat.not_le.mpr room)
    refine ⟨fun o found => refused (by rw [conflicts, found]), fun apart => ?_⟩
    rw [find?_none_of_apart apart] at conflicts
    refine ⟨fun x found => refused (by rw [conflicts, found]), fun unissued => ?_⟩
    rw [find?_none_of_apart unissued] at conflicts
    exact ⟨fun full => refused (conflicts.trans (if_pos full)),
      fun fits => nLoad_accepted takes tag (conflicts.trans (if_neg (Nat.not_lt.mpr fits)))⟩
  case number =>
    have check := checkDigit_le (digitsOf 4 office ++ digitsOf 7 serial)
    have accepted := numberField_itemNumber officeFits serialFits
    refine ⟨?_, ?_, accepted, fun p d place digit changed => numberField_set_none accepted place digit changed⟩
    · unfold itemNumber
      omega
    · unfold itemNumber
      omega

end Sys2Proof.Machine.NumberPool
end

section
/-! PROOFS of 06_items_and_numbers.md: the limits of an item's fields (R103), the opening of an item (R102) and what an
amendment takes and gives up (R104). -/

namespace Sys2Proof.Machine.OpenItems

open CounterFrame

/-! ## Field limits (R103) -/

theorem isNone_ofNumber_iff (n : Nat) : (Pos.ofNumber n).isNone = false ↔ 1 ≤ n ∧ n ≤ 6 := by
  match n with
  | 0 | 1 | 2 | 3 | 4 | 5 | 6 => simp [Pos.ofNumber]
  | n + 7 => simp [Pos.ofNumber]

theorem postcodeOk_iff (ds : List Nat) : postcodeOk ds = true ↔ ds.length = 5 ∧ ∀ d ∈ ds, d ≤ 9 := by
  simp [postcodeOk]

theorem linesOk_iff (l : List (List Byte)) : linesOk l = true ↔
    l.length ≤ 4 ∧ ∀ x ∈ l, 1 ≤ x.length ∧ x.length ≤ 32 ∧ ∀ c ∈ x, 0x20 ≤ c.toNat ∧ c.toNat ≤ 0x7E := by
  simp [linesOk, printable, and_assoc]

/-- The keyed dimensions are all absent, or all given and within their limits. -/
theorem keyedOf_isNone_iff (k : KeyedField) : (keyedOf k).isNone = false ↔
    (k.l = none ∧ k.w = none ∧ k.h = none) ∨
      ∃ l w h, k.l = some l ∧ k.w = some w ∧ k.h = some h ∧
        (1 ≤ l ∧ l ≤ 150) ∧ (1 ≤ w ∧ w ≤ 150) ∧ (1 ≤ h ∧ h ≤ 150) := by
  obtain ⟨l, w, h⟩ := k
  cases l <;> cases w <;> cases h <;> simp [keyedOf]

/-- Keyed dimensions within their limits are the three given. -/
theorem keyedOf_eq_given {k : KeyedField} (ok : (keyedOf k).isNone = false) (l w h : Nat) :
    keyedOf k = some (some ⟨l, w, h⟩) ↔ k.l = some l ∧ k.w = some w ∧ k.h = some h := by
  obtain ⟨none, none', none''⟩ | ⟨x, y, z, hx, hy, hz, low, mid, high⟩ := (keyedOf_isNone_iff k).mp ok
  · simp [keyedOf, none, none', none'']
  · simp [keyedOf, hx, hy, hz, low, mid, high]

/-- A check passes, and those after it, when no fault is found. -/
theorem ite_some_eq_none {α : Type} {c : Prop} [Decidable c] {x : α} {o : Option α} :
    (if c then some x else o) = none ↔ ¬c ∧ o = none := by
  split <;> simp_all

theorem openFields_fault_eq_none (f : OpenFields) : f.fault = none ↔
    (Pos.ofNumber f.position).isNone = false ∧ serviceOk f.service = true ∧ postcodeOk f.postcode = true ∧
    valueOk f.value = true ∧ flagsOk f.flags = true ∧ tierOk f.tier = true ∧ linesOk f.lines = true ∧
    (keyedOf f.keyed).isNone = false := by
  simp only [OpenFields.fault, ite_some_eq_none, Bool.not_eq_true, Bool.not_eq_eq_eq_not, Bool.not_true,
    Bool.not_eq_false, and_true]

/-- A check of a field that an I_AMEND may leave out. -/
theorem any_not_eq_false {α : Type} (o : Option α) (ok : α → Bool) :
    (o.any fun v => !ok v) = false ↔ ∀ v, o = some v → ok v = true := by
  cases o <;> simp

theorem amendFields_fault_eq_none (f : AmendFields) : f.fault = none ↔
    (Pos.ofNumber f.position).isNone = false ∧ (∀ v, f.service = some v → serviceOk v = true) ∧
    (∀ v, f.postcode = some v → postcodeOk v = true) ∧ (∀ v, f.value = some v → valueOk v = true) ∧
    (∀ v, f.flags = some v → flagsOk v = true) ∧ (∀ v, f.tier = some v → tierOk v = true) ∧
    (∀ v, f.lines = some v → linesOk v = true) ∧ (keyedOf f.keyed).isNone = false := by
  simp only [AmendFields.fault, ite_some_eq_none, Bool.not_eq_true, any_not_eq_false, and_true]

theorem serviceOk_iff (n : Nat) : serviceOk n = true ↔ 1 ≤ n ∧ n ≤ 16 := by simp [serviceOk]
theorem valueOk_iff (n : Nat) : valueOk n = true ↔ n ≤ 10000000 := by simp [valueOk]
theorem flagsOk_iff (f : FlagField) : flagsOk f = true ↔ f.other = false := by simp [flagsOk]
theorem tierOk_iff (n : Nat) : tierOk n = true ↔ n ≤ 3 := by simp [tierOk]

/-! ## I_OPEN (R102) -/

theorem exec_iOpen {s : State} {i : SlotId} (takes : s.takes i) (tag : Byte) (f : OpenFields) :
    exec (.iOpen tag f) s = .next (serveIOpen f i (s.held i tag .iOpen)) :=
  congrArg _ (s.request_takes takes tag .iOpen _)

section
variable {s : State} {f : OpenFields} (i : SlotId)

theorem serveIOpen_fault {name : FieldName} (fault : f.fault = some name) :
    serveIOpen f i s = s.refuse i .badField (.field name) := by
  rw [serveIOpen, fault]
  rfl

variable {k : Pos} (ok : f.fault = none) (named : Pos.ofNumber f.position = some k)
include ok named

theorem serveIOpen_ok : serveIOpen f i s =
    if (s.release.places.get k).staffed = false then s.refuse i .positionClosed
    else if s.openSlot k ≠ .idle then s.refuse i .slotBusy
    else (s.setOpenSlot k (.opened { fields := f.item, keyed := (keyedOf f.keyed).getD none })).ok i := by
  rw [serveIOpen, ok]
  simp only [atPosition, named, Bool.not_eq_true']

end

/-- The keyed dimensions of an item just opened. -/
theorem keyedOf_getD {k : KeyedField} (ok : (keyedOf k).isNone = false) :
    (keyedOf k).getD none = match k.l, k.w, k.h with
      | some l, some w, some h => some (Three.mk l w h)
      | _, _, _ => none := by
  obtain ⟨none, none', none''⟩ | ⟨x, y, z, hx, hy, hz, low, mid, high⟩ := (keyedOf_isNone_iff k).mp ok
  · simp [keyedOf, none, none', none'']
  · simp [keyedOf, hx, hy, hz, low, mid, high]

/-! ## I_AMEND (R104) -/

theorem exec_iAmend {s : State} {i : SlotId} (takes : s.takes i) (tag : Byte) (f : AmendFields) :
    exec (.iAmend tag f) s = .next (serveIAmend f i (s.held i tag .iAmend)) :=
  congrArg _ (s.request_takes takes tag .iAmend _)

/-- The dimensions keyed with an amendment. -/
theorem getD_keyedOf_eq_some {k : KeyedField} {d : Three Nat} :
    (keyedOf k).getD none = some d ↔ keyedOf k = some (some d) := by
  cases keyedOf k <;> simp

section
variable {s : State} {f : AmendFields} (i : SlotId)

theorem serveIAmend_fault {name : FieldName} (fault : f.fault = some name) :
    serveIAmend f i s = s.refuse i .badField (.field name) := by
  rw [serveIAmend, fault]
  rfl

variable {k : Pos} (ok : f.fault = none) (named : Pos.ofNumber f.position = some k)
include ok named

theorem serveIAmend_idle (idle : s.openSlot k = .idle) : serveIAmend f i s = s.refuse i .noItem := by
  simp [serveIAmend, ok, atPosition, named, idle]

theorem serveIAmend_rating {it : OpenItem} {ph : RatePhase} {j : SlotId} (rating : s.openSlot k = .rating it ph j) :
    serveIAmend f i s = s.refuse i .busyRating := by
  simp [serveIAmend, ok, atPosition, named, rating]

/-- The state an amendment of an item of position k is carried out on: a RATED item's SERVICE_LIMIT is unloaded. -/
def amendedFrom (s : State) (k : Pos) : State :=
  match s.openSlot k with
  | .rated .. => s.unloadLimit k
  | .idle | .opened _ | .rating .. => s

variable {it : OpenItem} (holds : s.openSlot k = .opened it ∨ ∃ r stale, s.openSlot k = .rated it r stale)
include holds

theorem serveIAmend_conflict {d : Three Nat} (given : keyedOf f.keyed = some (some d)) (removes : f.removeKeyed = true) :
    serveIAmend f i s = s.refuse i .badField (.field .keyed) := by
  obtain opened | ⟨r, stale, rated⟩ := holds
  · simp [serveIAmend, ok, atPosition, named, opened, given, removes, State.badField]
  · simp [serveIAmend, ok, atPosition, named, rated, given, removes, State.badField]

theorem serveIAmend_amends (agrees : ¬((∃ d, keyedOf f.keyed = some (some d)) ∧ f.removeKeyed = true)) :
    serveIAmend f i s = ((amendedFrom s k).amend k it f).ok i := by
  have free : ¬(f.removeKeyed = true ∧ (keyedOf f.keyed).getD none ≠ none) := fun ⟨removes, keyed⟩ =>
    agrees ⟨(Option.ne_none_iff_exists'.mp keyed).imp fun _ => getD_keyedOf_eq_some.mp, removes⟩
  obtain opened | ⟨r, stale, rated⟩ := holds
  · simp only [serveIAmend, ok, atPosition, named, opened, free, amendedFrom, decide_false, Bool.false_eq_true, if_false]
  · simp only [serveIAmend, ok, atPosition, named, rated, free, amendedFrom, decide_false, Bool.false_eq_true, if_false]

end

/-! ### What an amendment takes and gives up -/

/-- The item as an amendment leaves it. -/
def amended (f : AmendFields) (it : OpenItem) : OpenItem :=
  let changed := (amendDims f { it with fields := f.apply it.fields }).1
  if f.reweigh then { changed with capture := none } else changed

section
variable (s : State) (k : Pos) (it : OpenItem) (f : AmendFields)

theorem amend_openSlot : (s.amend k it f).openSlot k = .opened (amended f it) := State.openSlot_setOpenSlot _ _ _

/-- What an amendment changes of the state: its slot, its channel and its gauge. -/
theorem amend_eq : s.amend k it f = { s with
    items := { s.items with slots := s.items.slots.set k (.opened (amended f it)) }
    weighing := { s.weighing with
      channels := s.weighing.channels.set k (if f.reweigh then (s.channel k).release else s.channel k) }
    gauges := if (amendDims f { it with fields := f.apply it.fields }).2 then
      s.gauges.set k { s.gauges.get k with record := none } else s.gauges } := by
  unfold State.amend amended State.channel
  dsimp only
  split <;> split <;> simp [State.setOpenSlot, State.releaseLatch, State.releaseCapture, State.onItems, State.onGauge,
    State.onChannel, State.onWeighing, *]

theorem amend_channel :
    (s.amend k it f).channel k = if f.reweigh then (s.channel k).release else s.channel k := by
  rw [amend_eq]
  exact Six.get_set_self _ _ _

theorem amend_gauge : (s.amend k it f).gauges.get k =
    if (amendDims f { it with fields := f.apply it.fields }).2 then { s.gauges.get k with record := none }
    else s.gauges.get k := by
  rw [amend_eq]
  dsimp only
  split
  · exact Six.get_set_self _ _ _
  · rfl

theorem amend_elsewhere {j : Pos} (other : j ≠ k) : (s.amend k it f).openSlot j = s.openSlot j ∧
    (s.amend k it f).channel j = s.channel j ∧ (s.amend k it f).gauges.get j = s.gauges.get j := by
  rw [amend_eq]
  refine ⟨Six.get_set_ne _ _ other, Six.get_set_ne _ _ other, ?_⟩
  dsimp only
  split
  · exact Six.get_set_ne _ _ other
  · rfl

end

section
variable {f : AmendFields} (it : OpenItem)

/-- Dimensions keyed take the place of those latched. -/
theorem amendDims_given {d : Three Nat} (given : keyedOf f.keyed = some (some d)) :
    amendDims f it = ({ it with keyed := some d, latched := none }, it.latched.isSome) := by
  rw [amendDims, given]
  rfl

theorem amendDims_kept (absent : ¬∃ d, keyedOf f.keyed = some (some d)) :
    amendDims f it = ({ it with
      keyed := if f.removeKeyed = true then none else it.keyed
      latched := if f.remeasure = true then none else it.latched }, f.remeasure && it.latched.isSome) := by
  have none : (keyedOf f.keyed).getD none = none :=
    Option.eq_none_iff_forall_ne_some.mpr fun d keyed => absent ⟨d, getD_keyedOf_eq_some.mp keyed⟩
  rw [amendDims, none]
  cases f.removeKeyed <;> cases f.remeasure <;> rfl

theorem amendDims_fields : (amendDims f it).1.fields = it.fields := by
  by_cases given : ∃ d, keyedOf f.keyed = some (some d)
  · obtain ⟨d, given⟩ := given
    rw [amendDims_given it given]
  · rw [amendDims_kept it given]

theorem amendDims_capture : (amendDims f it).1.capture = it.capture := by
  by_cases given : ∃ d, keyedOf f.keyed = some (some d)
  · obtain ⟨d, given⟩ := given
    rw [amendDims_given it given]
  · rw [amendDims_kept it given]

/-- An amendment discards the capture where it asks for another weight, and takes the rest of the item as the fields
and the dimensions give it. -/
theorem amended_eq : amended f it = { (amendDims f { it with fields := f.apply it.fields }).1 with
    capture := if f.reweigh = true then none else it.capture } := by
  unfold amended
  dsimp only
  split
  · rfl
  · exact congrArg (fun c => { (amendDims f { it with fields := f.apply it.fields }).1 with capture := c })
      (amendDims_capture _)

theorem amended_fields : (amended f it).fields = f.apply it.fields := by
  rw [amended_eq]
  exact amendDims_fields _

theorem amended_given {d : Three Nat} (given : keyedOf f.keyed = some (some d)) :
    (amended f it).keyed = some d ∧ (amended f it).latched = none := by
  rw [amended_eq, amendDims_given _ given]
  exact ⟨rfl, rfl⟩

theorem amended_kept (absent : ¬∃ d, keyedOf f.keyed = some (some d)) :
    (amended f it).keyed = (if f.removeKeyed = true then none else it.keyed) ∧
    (amended f it).latched = if f.remeasure = true then none else it.latched := by
  rw [amended_eq, amendDims_kept _ absent]
  exact ⟨rfl, rfl⟩

/-- The gauge's record is given up with the latched dimensions. -/
theorem amendDims_releases (x : ItemFields) (latched : it.latched.isSome = true)
    (drops : (∃ d, keyedOf f.keyed = some (some d)) ∨ f.remeasure = true) :
    (amendDims f { it with fields := x }).2 = true := by
  by_cases given : ∃ d, keyedOf f.keyed = some (some d)
  · obtain ⟨d, given⟩ := given
    rw [amendDims_given _ given]
    exact latched
  · rw [amendDims_kept _ given, drops.resolve_left given]
    exact latched

theorem amendDims_holds (x : ItemFields)
    (keeps : it.latched = none ∨ (¬(∃ d, keyedOf f.keyed = some (some d)) ∧ f.remeasure = false)) :
    (amendDims f { it with fields := x }).2 = false := by
  by_cases given : ∃ d, keyedOf f.keyed = some (some d)
  · obtain none | ⟨absent, -⟩ := keeps
    · obtain ⟨d, given⟩ := given
      rw [amendDims_given _ given]
      simp [none]
    · exact absurd given absent
  · rw [amendDims_kept _ given]
    obtain none | ⟨-, stays⟩ := keeps
    · simp [none]
    · simp [stays]

end

theorem release_eq (c : Channel) :
    c.release = if c.capture ≠ none then { c with capture := none, disturb := none, limit := none } else c := by
  unfold Channel.release
  cases c.capture <;> simp

section
variable {s : State} {k : Pos} {it : OpenItem}

theorem amendedFrom_counter : CounterFrame s (amendedFrom s k) := by
  unfold amendedFrom
  split
  · exact s.unloadLimit_counter k
  all_goals exact refl s

/-- What an item's amendment begins with: the state as it is but for an unloaded SERVICE_LIMIT of the channel. -/
theorem amendedFrom_eq (holds : s.openSlot k = .opened it ∨ ∃ r stale, s.openSlot k = .rated it r stale) :
    ∃ c, amendedFrom s k = s.onChannel k (fun _ => c) ∧ (s.openSlot k = .opened it → c = s.channel k) ∧
      (s.openSlot k ≠ .opened it → c = { s.channel k with limit := none }) := by
  obtain opened | ⟨r, stale, rated⟩ := holds
  · refine ⟨s.channel k, ?_, fun _ => rfl, fun other => absurd opened other⟩
    simp [amendedFrom, opened, State.onChannel, State.onWeighing, State.channel]
  · refine ⟨{ s.channel k with limit := none }, ?_, fun opened => ?_, fun _ => rfl⟩
    · simp only [amendedFrom, rated]
      rfl
    · cases opened.symm.trans rated

end

/-- Settles O36: the limits field by field, and each request by its refusals; an amendment by whether dimensions are
keyed with it. -/
theorem itemOpenedAndAmended : Obligations.ItemOpenedAndAmended := by
  refine ⟨fun f => ?openLimits, fun s i tag f takes => ⟨fun name fault => ?openFault, fun k ok named => ?opens⟩,
    fun f => ⟨?amendLimits, fun l w h ok => keyedOf_eq_given ((amendFields_fault_eq_none f).mp ok).2.2.2.2.2.2.2 l w h⟩,
    fun s i tag f takes => ⟨fun name fault => ?amendFault, fun k ok named => ⟨fun idle => ?idle,
      fun it ph j rating => ?rating, fun it holds => ⟨fun ⟨d, given⟩ removes => ?conflict, fun agrees => ?amends⟩⟩⟩⟩
  case openLimits =>
    simp only [openFields_fault_eq_none, isNone_ofNumber_iff, serviceOk_iff, postcodeOk_iff, valueOk_iff, flagsOk_iff,
      tierOk_iff, linesOk_iff, keyedOf_isNone_iff, and_assoc]
  case amendLimits =>
    simp only [amendFields_fault_eq_none, isNone_ofNumber_iff, serviceOk_iff, postcodeOk_iff, valueOk_iff, flagsOk_iff,
      tierOk_iff, linesOk_iff, keyedOf_isNone_iff, and_assoc]
  case openFault =>
    rw [exec_iOpen takes, serveIOpen_fault i fault]
    rfl
  case opens =>
    have keyed := keyedOf_getD ((openFields_fault_eq_none f).mp ok).2.2.2.2.2.2.2
    rw [exec_iOpen takes, serveIOpen_ok i ok named, keyed]
    refine ⟨fun closed => congrArg _ (if_pos closed), fun staffed busy => ?_, fun staffed idle => ?_⟩
    · exact congrArg _ ((if_neg (ne_false_of_eq_true staffed)).trans (if_pos busy))
    · exact congrArg _ ((if_neg (ne_false_of_eq_true staffed)).trans (if_neg (not_not.mpr idle)))
  case amendFault =>
    rw [exec_iAmend takes, serveIAmend_fault i fault]
    rfl
  case idle =>
    rw [exec_iAmend takes, serveIAmend_idle (s := s.held i tag .iAmend) i ok named idle]
    rfl
  case rating =>
    rw [exec_iAmend takes, serveIAmend_rating (s := s.held i tag .iAmend) i ok named rating]
    rfl
  case conflict =>
    rw [exec_iAmend takes, serveIAmend_conflict (s := s.held i tag .iAmend) i ok named holds given removes]
    rfl
  case amends =>
    obtain ⟨c, from_, opened, rated⟩ := amendedFrom_eq (s := s.held i tag .iAmend) holds
    rw [exec_iAmend takes, serveIAmend_amends (s := s.held i tag .iAmend) i ok named holds agrees]
    refine ⟨_, c, rfl, ?frame, ?link, ?cache, ?rating, ⟨amended f it, amend_openSlot _ k it f, amended_fields it,
      fun d given => (amended_given it given).1, fun absent => (amended_kept it absent).1,
      fun ⟨d, given⟩ => (amended_given it given).2, fun absent => (amended_kept it absent).2, by rw [amended_eq]⟩,
      fun j other => ?elsewhere, ⟨opened, rated⟩, ?channel, fun latched drops => ?releases, fun keeps => ?holds⟩
    case frame =>
      exact (((viaHold s i tag _).andThen amendedFrom_counter).andThen (State.amend_counter _ k it f)).andThen
        (viaAnswer _ i _)
    case link => rw [from_, amend_eq]; rfl
    case cache => rw [from_, amend_eq]; rfl
    case rating => rw [from_, amend_eq]; rfl
    case elsewhere =>
      obtain ⟨slot, channel, gauge⟩ := amend_elsewhere (amendedFrom (s.held i tag .iAmend) k) k it f other
      rw [from_] at slot channel gauge
      refine ⟨?_, ?_, ?_⟩ <;> rw [from_]
      · exact slot
      · exact channel.trans (State.channel_onChannel_ne _ _ other)
      · exact gauge
    case channel =>
      have changed := amend_channel (amendedFrom (s.held i tag .iAmend) k) k it f
      rw [from_, State.channel_onChannel, release_eq] at changed
      rw [from_]
      refine changed.trans ?_
      by_cases reweigh : f.reweigh = true <;> simp [reweigh]
    case releases =>
      have gauge := amend_gauge (amendedFrom (s.held i tag .iAmend) k) k it f
      rw [amendDims_releases it _ latched drops, from_] at gauge
      rw [from_]
      exact gauge
    case holds =>
      have gauge := amend_gauge (amendedFrom (s.held i tag .iAmend) k) k it f
      rw [amendDims_holds it _ keeps, from_] at gauge
      rw [from_]
      exact gauge

end Sys2Proof.Machine.OpenItems
end

section
/-! PROOFS of 06_items_and_numbers.md, 07_belt_drive_and_tracking.md and 09_labels_applicator_and_diverter.md: what the
operations on a tracked entry, its register entry and its label come to, case by case, and that nothing follows on a
line at rest (log 11). -/

namespace Sys2Proof.Machine.LineOperations

variable {s : State}

/-! ## Entries found by their names -/

theorem findEntry_id {id : Nat} {e : Entry} (found : s.findEntry id = some e) : e.id = id := by
  simpa using List.find?_some found

/-- Where no two entries have one name, an entry of the queue is the one its name finds. -/
theorem findEntry_of_mem (apart : (s.belt.queue.map (·.id)).Nodup) {e : Entry} (there : e ∈ s.belt.queue) :
    s.findEntry e.id = some e := by
  obtain ⟨o, found⟩ := Option.isSome_iff_exists.mp
    (List.find?_isSome.mpr ⟨e, there, beq_self_eq_true _⟩ : (s.belt.queue.find? fun o => o.id == e.id).isSome = true)
  have same : o.id = e.id := by simpa using List.find?_some found
  rw [List.inj_on_of_nodup_map apart (List.mem_of_find?_eq_some found) there same] at found
  exact found

/-- An entry changed under its own name is found changed. -/
theorem findEntry_onEntry {f : Entry → Entry} (keeps : ∀ e, (f e).id = e.id) (id : Nat) :
    (s.onEntry id f).findEntry id = (s.findEntry id).map f := by
  simp only [State.findEntry, State.onEntry, State.onBelt]
  induction s.belt.queue with
  | nil => rfl
  | cons e rest ih =>
    by_cases here : e.id = id
    · simp [here, keeps]
    · simpa [here] using ih

theorem labelOf_eq {id : Nat} {e : Entry} (found : s.findEntry id = some e) : s.labelOf id = e.label? := by
  rw [State.labelOf, found]
  rfl

/-- An entry whose name no other has is changed where it stands. -/
theorem map_onEntry {a z : List Entry} {e : Entry} (apart : ((a ++ e :: z).map (·.id)).Nodup) (f : Entry → Entry) :
    (a ++ e :: z).map (fun o => if o.id = e.id then f o else o) = a ++ f e :: z := by
  have other : ∀ o ∈ a ++ z, (if o.id = e.id then f o else o) = o := by
    have fresh := (List.nodup_middle.mp (by simpa using apart : (a.map (·.id) ++ e.id :: z.map (·.id)).Nodup))
    intro o there
    refine if_neg fun same => (List.nodup_cons.mp fresh).1 ?_
    rw [← List.map_append, ← same]
    exact List.mem_map_of_mem there
  rw [List.map_append, List.map_cons, if_pos rfl,
    List.map_congr_left (g := id) fun o there => other o (List.mem_append_left _ there),
    List.map_congr_left (g := id) fun o there => other o (List.mem_append_right _ there), List.map_id, List.map_id]

theorem onEntry_split {a z : List Entry} {e : Entry} (queue : s.belt.queue = a ++ e :: z)
    (apart : (s.belt.queue.map (·.id)).Nodup) (f : Entry → Entry) :
    s.onEntry e.id f = s.onBelt fun q => { q with queue := a ++ f e :: z } := by
  show s.onBelt (fun q => { q with queue := s.belt.queue.map fun o => if o.id = e.id then f o else o }) = _
  rw [queue, map_onEntry (queue ▸ apart)]

/-! ## Labels (R119, R178, R183) -/

theorem setLabel_eq {id n : Nat} {e : Entry} (found : s.findEntry id = some e) (item : e.itemNumber? = some n)
    (l : LabelState) : s.setLabel id l = ((s.onEntry id (Entry.withLabel l)).onItem n
      (fun r => { r with label := some l })).onLabel (LabelUnit.count (State.countLabelState l)) := by
  rw [State.setLabel, found]
  simp only [Option.bind_some, item]

theorem setLabel_job (id : Nat) (l : LabelState) : (s.setLabel id l).label.job = s.label.job := by
  unfold State.setLabel
  split <;> rfl

theorem loseLabel_notStarted {id : Nat} (label : s.labelOf id = some .notStarted) :
    s.loseLabel id = s.setLabel id .skipped := by rw [State.loseLabel, label]

/-- A label being printed is wasted with its job: an interrupted job is given up, another runs on with its mark. -/
theorem loseLabel_printing {id : Nat} {j : Job} (label : s.labelOf id = some .printing) (job : s.label.job = some j)
    (own : j.entry = id) : s.loseLabel id = (s.setLabel id .wasted).onLabel (fun u => { u with
      job := if j.interrupted then none else some { j with waste := true }
      stats := { u.stats with wasted := if u.stats.wasted < 4294967295 then u.stats.wasted + 1 else u.stats.wasted } }) := by
  have job : (s.setLabel id .wasted).label.job = some j := (setLabel_job id _).trans job
  rw [State.loseLabel, label]
  simp only [State.wasteJob, State.countWasted, State.onLabel, LabelUnit.count, job, Option.bind_some, own, ne_eq,
    not_true_eq_false, if_false]
  rfl

/-- A tamp armed for an entry is RETRACTED again, and another stays. -/
theorem disarm_eq (s : State) (id : Nat) : s.disarm id = s.onLabel (fun u => { u with
    tamp := match u.tamp with
      | .armed a p => if a = id then .retracted else .armed a p
      | t => t }) := by
  refine congrArg s.onLabel (funext fun ⟨_, _, _, _, tamp, _, _, _⟩ => ?_)
  cases tamp with
  | armed a p => dsimp only; split <;> rfl
  | retracted | extend | dwell | retract => rfl

/-- A label on the pad is ejected, and a tamp armed for it returns. -/
theorem loseLabel_presented {id : Nat} (label : s.labelOf id = some .presented) (pad : s.label.pad = .holding id) :
    s.loseLabel id = (s.eject (some id) .wasted).onLabel (fun u => { u with
      tamp := match u.tamp with
        | .armed a p => if a = id then .retracted else .armed a p
        | t => t }) := by
  rw [State.loseLabel, label]
  exact (if_pos pad).trans (disarm_eq _ id)

/-- A label that stands elsewhere, or is final, is not lost. -/
theorem loseLabel_stays {id : Nat} (stays : (s.labelOf id = some .presented ∧ s.label.pad ≠ .holding id) ∨
    s.labelOf id = some .applied ∨ s.labelOf id = some .skipped ∨ s.labelOf id = some .wasted) :
    s.loseLabel id = s := by
  obtain ⟨label, pad⟩ | label | label | label := stays
  · rw [State.loseLabel, label]
    exact if_neg pad
  all_goals rw [State.loseLabel, label]

/-! ## The register (R121) -/

theorem closeItem_eq {n : Nat} {r : RegEntry} (found : s.findItem n = some r) (o : ItemOutcome) :
    s.closeItem n o = (s.onItems (fun m => State.countOutcome o { m with
      register := m.register.eraseP (fun q => q.number == n) })).offer
        (.itemClosed n r.position o r.label (r.result.total.getD 0)) := by rw [State.closeItem, found]

/-- An entry leaves the queue, and an interrupted job for it is given up (R176). -/
theorem removeEntry_eq (s : State) (id : Nat) : s.removeEntry id = (s.onBelt (fun q => { q with
    queue := q.queue.filter (fun o => o.id != id) })).onLabel (fun u => { u with
      job := u.job.filter (fun j => !(j.entry == id && j.interrupted)) }) := by
  simp only [State.removeEntry, bne, Bool.not_and]

/-! ## A line at rest (log 11) -/

/-- What the line is at rest by are its belt, its release and its label. -/
theorem atRest_of_same {t : State} (rest : s.atRest) (belt : t.belt = s.belt) (release : t.release = s.release)
    (label : t.label = s.label) : t.atRest := by
  rw [State.atRest, belt, release, label]
  exact rest

section
variable (rest : s.atRest)
include rest

theorem printOrder_atRest : s.printOrder = s := by
  obtain ⟨empty, -⟩ := rest
  unfold State.printOrder State.nextUnprinted
  rw [empty]
  exact ite_self s

theorem labelWaitRestart_atRest : s.labelWaitRestart = s := by
  obtain ⟨-, -, -, reason, -⟩ := rest
  exact if_neg fun waits => reason waits.1

theorem judgeCreep_atRest : s.judgeCreep = s := by
  obtain ⟨empty, -, -, -, drive, -⟩ := rest
  have none : s.creepEntry = none := by
    unfold State.creepEntry
    rw [empty]
    exact ite_self none
  rw [State.judgeCreep, none]
  exact if_neg drive

theorem follow_atRest (moving : Bool) : s.onRelease (fun r => r.follow moving) = s := by
  obtain ⟨-, -, -, -, -, idle | negotiating⟩ := rest
  · simp [State.onRelease, Release.follow, idle]
  · simp [State.onRelease, Release.follow, negotiating]

theorem settleRelease_atRest (again : Bool) : s.settleRelease again = s := by
  obtain ⟨-, -, -, -, -, idle | negotiating⟩ := rest
  · rw [State.settleRelease, idle]
  · rw [State.settleRelease, negotiating]

theorem divert_atRest : s.divert = s := by
  obtain ⟨empty, -, diverter, -⟩ := rest
  unfold State.divert
  rw [empty, if_neg (by simp), State.onLabel, ← diverter]

/-- Nothing follows on a line at rest. -/
theorem settle_atRest (before : State) : State.settle before s = s := by
  have fired : s.fireTamp = s := by rw [State.fireTamp, rest.2.1]
  have retired : s.retireAll = s := by rw [State.retireAll, rest.1]; rfl
  have settled : s.settleBelt = s := by
    rw [State.settleBelt, fired, retired, printOrder_atRest rest, labelWaitRestart_atRest rest, judgeCreep_atRest rest]
    exact follow_atRest rest _
  rw [State.settle, settled, settleRelease_atRest rest]
  exact divert_atRest rest

end

end Sys2Proof.Machine.LineOperations
end

section
/-! PROOFS of 06_items_and_numbers.md: an item confirmed (R109), cancelled (R110) or voided (R120). -/

namespace Sys2Proof.Machine.ItemEnds

open LineOperations OpenItems

/-! ## I_CONFIRM (R109) -/

theorem exec_iConfirm {s : State} {i : SlotId} (takes : s.takes i) (tag : Byte) (n : Nat) :
    exec (.iConfirm tag n) s = .next (serveIConfirm n i (s.held i tag .iConfirm)) :=
  congrArg _ (s.request_takes takes tag .iConfirm _)

section
variable {s : State} {n : Nat} {k : Pos} (named : Pos.ofNumber n = some k) (i : SlotId)
include named

theorem serveIConfirm_unrated (unrated : ∀ it r stale, s.openSlot k ≠ .rated it r stale) :
    serveIConfirm n i s = s.refuse i .notRated := by
  simp only [serveIConfirm, atPosition, named]
  cases slot : s.openSlot k with
  | idle | opened | rating => rfl
  | rated it r stale => exact absurd slot (unrated it r stale)

variable {it : OpenItem} {r : RateResult}

theorem serveIConfirm_stale (rated : s.openSlot k = .rated it r true) :
    serveIConfirm n i s = s.refuse i .ratingStale := by
  simp only [serveIConfirm, atPosition, named, rated, if_true]

variable (rated : s.openSlot k = .rated it r false)
include rated

theorem serveIConfirm_unset (unset : s.time.calendar = none) : serveIConfirm n i s = s.refuse i .clockUnset := by
  simp only [serveIConfirm, atPosition, named, rated, State.minuteNow, unset, Option.map_none, Bool.false_eq_true,
    if_false]

variable {now : Clock} (set : s.time.calendar = some now)
include set

theorem serveIConfirm_full (full : 32 ≤ s.items.register.length) :
    serveIConfirm n i s = s.refuse i .registerFull := by
  simp only [serveIConfirm, atPosition, named, rated, State.minuteNow, set, Option.map_some, Bool.false_eq_true,
    if_false]
  exact if_pos full

variable (room : ¬32 ≤ s.items.register.length)
include room

theorem serveIConfirm_dry (dry : s.items.pool = []) : serveIConfirm n i s = s.refuse i .noNumbers := by
  simp only [serveIConfirm, atPosition, named, rated, State.minuteNow, set, Option.map_some, Bool.false_eq_true,
    if_false, dry, issueSerial]
  exact if_neg room

theorem serveIConfirm_confirms {block : SerialBlock} {rest : List SerialBlock} (pool : s.items.pool = block :: rest) :
    serveIConfirm n i s =
      let left := if block.next < block.last then { block with next := block.next + 1 } :: rest else rest
      let number := itemNumber s.settings.host.office block.next
      (State.settle s ((s.issued block.next left).register k it (it.confirmed k number now.minute r))).ok i
        (.confirmed number (r.total.getD 0) (s.items.register.length + 1)) := by
  simp only [serveIConfirm, atPosition, named, rated, State.minuteNow, set, Option.map_some, Bool.false_eq_true,
    if_false, pool, issueSerial]
  exact if_neg room

end

/-- A pool that has come low is marked, with its notice (R116). -/
theorem crossLow_eq (s : State) : s.crossLow =
    let left := (s.items.pool.map (fun o => o.last + 1 - o.next)).sum
    let low : Prop := left < s.settings.host.lowWater ∧ s.items.lowMark = false
    { s with
      items := { s.items with lowMark := if low then true else s.items.lowMark }
      link := if low then
        s.link.offer (.numbersLow left s.items.pool.length (s.items.pool.head?.map (·.next))) else s.link } := by
  dsimp only
  by_cases low : (s.items.pool.map (fun o => o.last + 1 - o.next)).sum < s.settings.host.lowWater ∧
      s.items.lowMark = false
  · rw [if_pos low, if_pos low]
    exact if_pos ⟨low.1, by simp [low.2]⟩
  · rw [if_neg low, if_neg low]
    exact if_neg fun ⟨few, unmarked⟩ => low ⟨few, by simpa using unmarked⟩

/-- An issue changes the pool, the issued record and, where the pool comes low, the low mark with its notice. -/
theorem issued_eq (s : State) (serial : Nat) (pool : List SerialBlock) : s.issued serial pool =
    let left := (pool.map (fun o => o.last + 1 - o.next)).sum
    let low : Prop := left < s.settings.host.lowWater ∧ s.items.lowMark = false
    { s with
      items := { s.items with
        pool := pool, issued := addIssued serial s.items.issued
        lowMark := if low then true else s.items.lowMark }
      link := if low then s.link.offer (.numbersLow left pool.length (pool.head?.map (·.next))) else s.link } :=
  crossLow_eq _

/-- A confirmed item joins the register; its channel is interlocked, its capture and its claimed record are released,
and its slot is IDLE. -/
theorem register_eq (s : State) (k : Pos) (it : OpenItem) (e : RegEntry) : s.register k it e =
    let c := { s.channel k with interlock := true }
    { s with
      items := { s.items with
        slots := s.items.slots.set k .idle, register := s.items.register ++ [e], confirmed := s.items.confirmed + 1 }
      weighing := { s.weighing with
        channels := s.weighing.channels.set k (if c.capture = none then c else
          { c with capture := none, disturb := none, limit := none }) }
      gauges := if it.latched = none then s.gauges else
        s.gauges.set k { s.gauges.get k with record := none } } := by
  have channels (v : Six Channel) (x y : Channel) : (v.set k x).set k y = v.set k y := by cases k <;> rfl
  have released := release_eq { s.channel k with interlock := true }
  simp only [ne_eq, ite_not] at released
  dsimp only
  rw [← released]
  cases latched : it.latched with
  | none =>
    simp [State.register, latched, State.onItems, State.onChannel, State.onWeighing, State.releaseCapture,
      State.setOpenSlot, State.channel, channels]
  | some r =>
    simp [State.register, latched, State.onItems, State.onChannel, State.onWeighing, State.releaseCapture,
      State.releaseLatch, State.onGauge, State.setOpenSlot, State.channel, channels]

/-- Settles O38: the refusals in order; an item confirmed by its issue and what joins the register. -/
theorem itemConfirmed : Obligations.ItemConfirmed := by
  intro s i tag n k takes named
  rw [exec_iConfirm takes]
  refine ⟨fun unrated => ?_, fun it r rated => ?_, fun it r rated => ⟨fun unset => ?_, fun now set =>
    ⟨fun full => ?_, fun room dry => ?_, fun block rest room pool => ?_⟩⟩⟩
  · rw [serveIConfirm_unrated (s := s.held i tag .iConfirm) named i unrated]
    rfl
  · rw [serveIConfirm_stale (s := s.held i tag .iConfirm) named i rated]
    rfl
  · rw [serveIConfirm_unset (s := s.held i tag .iConfirm) named i rated unset]
    rfl
  · rw [serveIConfirm_full (s := s.held i tag .iConfirm) named i rated set full]
    rfl
  · rw [serveIConfirm_dry (s := s.held i tag .iConfirm) named i rated set (Nat.not_le.mpr room) dry]
    rfl
  · intro number entry c left _ low served done
    have confirms : ((s.held i tag .iConfirm).issued block.next left).register k it entry = done := by
      rw [register_eq, issued_eq]
      rfl
    refine ⟨congrArg _ ?_, fun rests =>
      settle_atRest (s := done) (atRest_of_same rests rfl rfl rfl) served⟩
    exact (serveIConfirm_confirms (s := s.held i tag .iConfirm) named i rated set (Nat.not_le.mpr room) pool).trans
      (congrArg (fun t => (State.settle served t).ok i _) confirms)

/-! ## I_CANCEL (R110) -/

theorem exec_iCancel {s : State} {i : SlotId} (takes : s.takes i) (tag : Byte) (n : Nat) :
    exec (.iCancel tag n) s = .next (serveICancel n i (s.held i tag .iCancel)) :=
  congrArg _ (s.request_takes takes tag .iCancel _)

/-- What a cancelled item held is given back, and its slot is IDLE. -/
theorem giveBack_eq (s : State) (k : Pos) (it : OpenItem) : (s.giveBack k it).setOpenSlot k .idle =
    let c := { s.channel k with waiting := none }
    { s with
      items := { s.items with slots := s.items.slots.set k .idle }
      weighing := { s.weighing with
        channels := s.weighing.channels.set k (if it.capture = none ∨ c.capture = none then c else
          { c with capture := none, disturb := none, limit := none }) }
      gauges := if it.latched = none then s.gauges else
        s.gauges.set k { s.gauges.get k with record := none } } := by
  have channels (v : Six Channel) (x y : Channel) : (v.set k x).set k y = v.set k y := by cases k <;> rfl
  have released := release_eq { s.channel k with waiting := none }
  simp only [ne_eq, ite_not] at released
  dsimp only
  cases capture : it.capture with
  | none =>
    cases latched : it.latched <;> simp [State.giveBack, capture, latched, State.onItems, State.onChannel,
      State.onWeighing, State.releaseLatch, State.onGauge, State.setOpenSlot, State.channel]
  | some x =>
    simp only [reduceCtorEq, false_or]
    rw [← released]
    cases latched : it.latched <;> simp [State.giveBack, capture, latched, State.onItems, State.onChannel,
      State.onWeighing, State.releaseCapture, State.releaseLatch, State.onGauge, State.setOpenSlot, State.channel,
      channels]

theorem giveBack_rating (s : State) (k : Pos) (it : OpenItem) :
    ((s.giveBack k it).setOpenSlot k .idle).rating = s.rating := by rw [giveBack_eq]

theorem giveBack_cache (s : State) (k : Pos) (it : OpenItem) :
    ((s.giveBack k it).setOpenSlot k .idle).cache = s.cache := by rw [giveBack_eq]

section
variable {s : State} {n : Nat} {k : Pos} (named : Pos.ofNumber n = some k) (i : SlotId)
include named

theorem serveICancel_idle (idle : s.openSlot k = .idle) : serveICancel n i s = s.refuse i .noItem := by
  simp only [serveICancel, atPosition, named, idle]

variable {it : OpenItem}

theorem serveICancel_holds (holds : s.openSlot k = .opened it ∨ ∃ r stale, s.openSlot k = .rated it r stale) :
    serveICancel n i s = ((s.giveBack k it).setOpenSlot k .idle).ok i := by
  obtain opened | ⟨r, stale, rated⟩ := holds
  · simp only [serveICancel, atPosition, named, opened]
  · simp only [serveICancel, atPosition, named, rated]

theorem serveICancel_rating {ph : RatePhase} {j : SlotId} (rating : s.openSlot k = .rating it ph j) :
    serveICancel n i s =
      ((((s.giveBack k it).setOpenSlot k .idle).withdrawRating k).refuse j .cancelled).ok i := by
  simp only [serveICancel, atPosition, named, rating]

end

section
variable {s : State} {k : Pos}

/-- A rating of another position goes on while the waiting request of this one is withdrawn (R80). -/
theorem withdrawRating_waiting (other : ∀ u, s.rating.current = some u → u.req.position ≠ k) :
    s.withdrawRating k = s.onRating (fun u => { u with
      pendingList := u.pendingList.filter (fun q => q.position != k) }) := by
  unfold State.withdrawRating
  split
  · rename_i u current
    exact if_neg (other u current)
  · rfl

variable {u : RatingRun} (current : s.rating.current = some u) (here : u.req.position = k)
include current here

/-- The rating in progress is withdrawn, and its lookup becomes the orphan where it is walked (R81). -/
theorem withdrawRating_walked (walked : s.cache.waiting = none) : s.withdrawRating k =
    ((s.onRating fun x => { x with orphan := some u.lookup }).onRating fun x => { x with current := none }).arbitrate := by
  simp [State.withdrawRating, State.leaveLookup, current, here, walked]

theorem withdrawRating_dropped (waits : s.cache.waiting ≠ none) : s.withdrawRating k =
    ((s.onCache fun x => { x with waiting := none }).onRating fun x => { x with current := none }).arbitrate := by
  simp [State.withdrawRating, State.leaveLookup, current, here, Option.isSome_iff_ne_none.mpr waits]

end

/-! ## I_VOID (R120) -/

theorem exec_iVoid {s : State} {i : SlotId} (takes : s.takes i) (tag : Byte) (ds : List Nat) :
    exec (.iVoid tag ds) s = .next (serveIVoid ds i (s.held i tag .iVoid)) :=
  congrArg _ (s.request_takes takes tag .iVoid _)

section
variable {s : State} {ds : List Nat} {n : Nat} (number : numberField ds = some n) (i : SlotId)
include number

theorem serveIVoid_unknown (unknown : s.findItem n = none) : serveIVoid ds i s = s.refuse i .noSuchItem := by
  simp only [serveIVoid, number, unknown]

variable {e : RegEntry} (found : s.findItem n = some e)
include found

theorem serveIVoid_awaiting (awaits : e.state = .awaitRelease) :
    serveIVoid ds i s = (State.settle s (s.closeItem n .voided)).ok i .voided := by
  simp only [serveIVoid, number, found, awaits]

theorem serveIVoid_released (released : e.state = .released) :
    serveIVoid ds i s = (State.settle s ((s.endVoided n).closeItem n .voided)).ok i .voided := by
  simp only [serveIVoid, number, found, released]

variable (onBelt : e.state = .onBelt)
include onBelt

theorem serveIVoid_rejected (rejected : e.reject.isSome = true) : serveIVoid ds i s = s.ok i .voidPending := by
  simp only [serveIVoid, number, found, onBelt, rejected, if_true]

theorem serveIVoid_onBelt {id : Nat} (sound : e.reject = none) (track : e.track = some id) :
    serveIVoid ds i s = (State.settle s (s.flagEntry .voided id)).ok i .voidPending := by
  simp only [serveIVoid, number, found, onBelt, sound, track, Option.isSome_none, Bool.false_eq_true, if_false]

end

/-- A lit release ends by void: its reservation is removed, and a pending negotiation begins (R168). -/
theorem endVoided_eq {s : State} {n : Nat} {l : LitRelease} (lit : s.release.lit = some l) (own : l.item = n) :
    s.endVoided n = (s.removeReservation n).onRelease Release.endLit := by
  simp [State.endVoided, lit, own]

/-- Settles O39: a cancellation by what the slot holds and where its lookup is, a void by the entry's state. -/
theorem itemCancelledOrVoided : Obligations.ItemCancelledOrVoided := by
  refine ⟨fun s i tag n k takes named => ?cancel, fun s i tag ds takes => ?void⟩
  case cancel =>
    rw [exec_iCancel takes]
    refine ⟨fun idle => ?_, fun it holds => ?_, fun it ph j rating other => ?_,
      fun it ph j u rating current here => ⟨fun walked => ?_, fun waits => ?_⟩⟩
    · rw [serveICancel_idle (s := s.held i tag .iCancel) named i idle]
      rfl
    · rw [serveICancel_holds (s := s.held i tag .iCancel) named i holds, giveBack_eq]
      rfl
    · have cancels := serveICancel_rating (s := s.held i tag .iCancel) named i rating
      rw [withdrawRating_waiting (by rw [giveBack_rating]; exact other), giveBack_eq] at cancels
      exact congrArg _ cancels
    · have cancels := serveICancel_rating (s := s.held i tag .iCancel) named i rating
      rw [withdrawRating_walked (by rw [giveBack_rating]; exact current) here (by rw [giveBack_cache]; exact walked),
        giveBack_eq] at cancels
      exact congrArg _ cancels
    · have cancels := serveICancel_rating (s := s.held i tag .iCancel) named i rating
      rw [withdrawRating_dropped (by rw [giveBack_rating]; exact current) here (by rw [giveBack_cache]; exact waits),
        giveBack_eq] at cancels
      exact congrArg _ cancels
  case void =>
    rw [exec_iVoid takes]
    refine ⟨fun unread => ?_, fun n number => ⟨fun unknown => ?_, fun e found => ⟨fun awaits => ⟨?_, fun rests => ?_⟩,
      fun l released lit own => ?_, fun onBelt rejected => ?_, fun id onBelt sound track => ?_⟩⟩⟩
    · rw [serveIVoid, unread]
      rfl
    · rw [serveIVoid_unknown (s := s.held i tag .iVoid) number i unknown]
      rfl
    · rw [serveIVoid_awaiting (s := s.held i tag .iVoid) number i found awaits,
        closeItem_eq (s := s.held i tag .iVoid) found]
      rfl
    · refine settle_atRest ?_ _
      exact atRest_of_same rests rfl rfl rfl
    · have dark : ((s.held i tag .iVoid).endVoided n).findItem n = some e := by
        rw [endVoided_eq (s := s.held i tag .iVoid) lit own]
        exact found
      rw [serveIVoid_released (s := s.held i tag .iVoid) number i found released, closeItem_eq dark,
        endVoided_eq (s := s.held i tag .iVoid) lit own]
      rfl
    · rw [serveIVoid_rejected (s := s.held i tag .iVoid) number i found onBelt rejected]
      rfl
    · rw [serveIVoid_onBelt (s := s.held i tag .iVoid) number i found onBelt sound track]
      rfl

end Sys2Proof.Machine.ItemEnds
end

section
/-! PROOFS of 09_labels_applicator_and_diverter.md: label states and flags with what they count (R119, R140, R178, R183),
the match (R184), the firing tamp (R185) and the diverter (R187). -/

namespace Sys2Proof.Machine.LabelsAndFlags

open LineOperations

variable {s : State} {id n : Nat} {e : Entry}

/-- A label state counts in the statistic of its name, up to the top of its count. -/
theorem countLabelState_eq (l : LabelState) (c : LabelStats) : State.countLabelState l c = { c with
    presented := if l = .presented then (if c.presented < 4294967295 then c.presented + 1 else c.presented) else c.presented
    applied := if l = .applied then (if c.applied < 4294967295 then c.applied + 1 else c.applied) else c.applied
    skipped := if l = .skipped then (if c.skipped < 4294967295 then c.skipped + 1 else c.skipped) else c.skipped } := by
  cases l <;> rfl

/-! ## Flags (R140, R183) -/

/-- The entry and its register entry with a reject reason. -/
def marked (s : State) (id n : Nat) (r : RejectReason) : State :=
  (s.onEntry id fun e => { e with flag := some r }).onItem n fun q => { q with reject := some r }

theorem flagEntry_flagged (found : s.findEntry id = some e) (flagged : e.flag.isSome = true) (r : RejectReason) :
    s.flagEntry r id = s := by
  rw [State.flagEntry, found]
  exact if_pos flagged

/-- A flag marks the entry and its register entry, and acts on the label. -/
theorem flagEntry_eq (found : s.findEntry id = some e) (item : e.itemNumber? = some n) (free : e.flag = none)
    (r : RejectReason) : s.flagEntry r id = (marked s id n r).loseLabel id := by
  rw [State.flagEntry, found]
  simp only [free, item, Option.isSome_none, Bool.false_eq_true, if_false]
  rfl

theorem labelOf_marked (found : s.findEntry id = some e) (r : RejectReason) :
    (marked s id n r).labelOf id = e.label? := by
  have changed := findEntry_onEntry (s := s) (f := fun e => { e with flag := some r }) (fun _ => rfl) id
  rw [found] at changed
  exact labelOf_eq (s := marked s id n r) (e := { e with flag := some r }) changed

/-! ## The match (R184) -/

theorem matchLabel_flagged (flagged : e.flag.isSome = true) : s.matchLabel e = s := if_pos flagged

section
variable (free : e.flag = none)
include free

theorem matchLabel_armed (label : s.labelOf e.id = some .presented) (pad : s.label.pad = .holding e.id) :
    s.matchLabel e = s.onLabel (fun u => { u with
      tamp := .armed e.id (s.belt.p + BitVec.ofNat 32 s.settings.host.geo.aOff) }) := by
  simp only [State.matchLabel, free, label, pad, Option.isSome_none, Bool.false_eq_true, if_false, if_true]
  rfl

theorem matchLabel_late (label : s.labelOf e.id = some .notStarted ∨ s.labelOf e.id = some .printing) :
    s.matchLabel e = s.flagEntry .noLabel e.id := by
  obtain label | label := label <;>
    simp only [State.matchLabel, free, label, Option.isSome_none, Bool.false_eq_true, if_false]

end

/-! ## The diverter (R187) -/

/-- The open span of an entry holds P. -/
theorem spanHolds_iff (s : State) (e : Entry) : s.spanHolds e = true ↔
    e.isReservation = false ∧ e.flag.isSome = true ∧
      ahead (e.front + BitVec.ofNat 32 s.settings.host.geo.dDiv - 100) s.belt.p ≤ 0 ∧
      ahead s.belt.p (e.tail + BitVec.ofNat 32 (s.settings.host.geo.dDiv + 100)) ≤ 0 := by
  simp only [State.spanHolds, within, Bool.and_eq_true, Bool.not_eq_true', decide_eq_true_eq, and_assoc]
  rfl

theorem divert_held (held : s.belt.queue.any s.spanHolds = true) : s.divert = s.onLabel (fun u => { u with
    diverter := .reject
    stats := { u.stats with diversions :=
      if u.diverter = .pass ∧ u.stats.diversions < 4294967295 then u.stats.diversions + 1
      else u.stats.diversions } }) := by
  unfold State.divert
  rw [if_pos held]
  cases diverter : s.label.diverter with
  | reject =>
    simp only [State.onLabel, diverter, if_true, reduceCtorEq, false_and, if_false]
    rw [← diverter]
  | pass =>
    simp only [State.onLabel, diverter, reduceCtorEq, if_false, true_and]
    rfl

theorem divert_free (free : ¬s.belt.queue.any s.spanHolds = true) :
    s.divert = s.onLabel (fun u => { u with diverter := .pass }) := if_neg free

/-- Settles O53: a label state by its entry, a flag and a match by the label the entry has, the diverter by the spans. -/
theorem labelsFlagsAndDiverter : Obligations.LabelsFlagsAndDiverter := by
  refine ⟨fun s id n e l found item => ?label, fun s id n e r found item => ⟨fun flagged => ?kept, fun free =>
    ⟨fun label => ?skips, fun j label job own => ?wastes, fun label pad => ?ejects, fun label pad => ?elsewhere,
      fun label => ?final⟩⟩, fun s e found => ⟨fun flagged => matchLabel_flagged flagged, fun free =>
    ⟨fun label pad => ?arms, fun label => ?late⟩⟩, fun s => ⟨fun e p armed => ?fires, fun held => ?rejects,
      fun free => ?passes, ?only⟩⟩
  case label =>
    rw [setLabel_eq found item]
    exact congrArg (State.onLabel _) (funext fun u => congrArg (fun c => { u with stats := c }) (countLabelState_eq l _))
  case kept => exact flagEntry_flagged found flagged r
  case skips =>
    rw [flagEntry_eq found item free]
    exact loseLabel_notStarted ((labelOf_marked found r).trans label)
  case wastes =>
    rw [flagEntry_eq found item free]
    exact loseLabel_printing (s := marked s id n r) ((labelOf_marked found r).trans label) job own
  case ejects =>
    rw [flagEntry_eq found item free]
    exact loseLabel_presented (s := marked s id n r) ((labelOf_marked found r).trans label) pad
  case elsewhere =>
    rw [flagEntry_eq found item free]
    exact loseLabel_stays (s := marked s id n r) (.inl ⟨(labelOf_marked found r).trans label, pad⟩)
  case final =>
    rw [flagEntry_eq found item free]
    refine loseLabel_stays (s := marked s id n r) (.inr ?_)
    rw [labelOf_marked found r]
    exact label
  case arms => exact matchLabel_armed free ((labelOf_eq found).trans label) pad
  case late =>
    refine matchLabel_late free ?_
    rw [labelOf_eq found]
    exact label
  case fires =>
    rw [State.fireTamp, armed]
    rfl
  case rejects =>
    obtain ⟨e, there, holds⟩ := held
    rw [divert_held (List.any_eq_true.mpr ⟨e, there, (spanHolds_iff s e).mpr holds⟩)]
    rfl
  case passes =>
    rw [divert_free fun any => free ((List.any_eq_true.mp any).imp fun e => .imp_right (spanHolds_iff s e).mp)]
    rfl
  case only =>
    by_cases held : s.belt.queue.any s.spanHolds = true
    · rw [divert_held held]
      rfl
    · rw [divert_free held]
      rfl

end Sys2Proof.Machine.LabelsAndFlags
end

section
/-! PROOFS of 07_belt_drive_and_tracking.md: what follows from an event on the line (log 11): the print order (R174,
R180), creep and the label-wait stop (R135, R136), the release and its candidate (R163, R170), and retirement (R149). -/

namespace Sys2Proof.Machine.LineSettled

open LineOperations AccountLaws

variable {s : State}

/-! ## The print order (R174, R180) -/

theorem unprinted_iff (e : Entry) :
    e.unprinted = true ↔ (∃ n k len m, e.body = .item n k len .notStarted false m) ∧ e.flag = none := by
  obtain ⟨id, front, tail, flag, body⟩ := e
  cases body with
  | reservation | stray => simp [Entry.unprinted, Entry.live, Entry.itemNumber?]
  | item n k len l m d =>
    simp [Entry.unprinted, Entry.live, Entry.itemNumber?, Entry.matched, Entry.label?]
    tauto

/-- The first unprinted ITEM of the queue is the one before which none is. -/
theorem nextUnprinted_eq {a z : List Entry} {e : Entry} (queue : s.belt.queue = a ++ e :: z)
    (before : ∀ x ∈ a, x.unprinted = false) (unprinted : e.unprinted = true) : s.nextUnprinted = some e := by
  rw [State.nextUnprinted, queue, List.find?_append, List.find?_eq_none.mpr fun x there => by simp [before x there],
    List.find?_cons_of_pos unprinted]
  rfl

theorem printOrder_sends {e : Entry} {r : RegEntry} {n : Nat} (ready : s.label.printer = .ready)
    (pad : s.label.pad = .empty) (free : s.label.job = none) (next : s.nextUnprinted = some e)
    (item : e.itemNumber? = some n) (found : s.findItem n = some r) :
    s.printOrder = (s.setLabel e.id .printing).onLabel (fun u => { u with
      printer := .printing
      job := some ⟨e.id, jobRecord r, s.jobTime, false, false⟩
      sent := some (.job (jobRecord r))
      stats := { u.stats with jobs := bump Config.stat32 u.stats.jobs } }) := by
  rw [State.printOrder, if_pos ⟨ready, pad, by simp [free]⟩, next]
  simp only [State.sendJob, item, Option.bind_some, found]

/-- A label that begins to print is counted nowhere (R178). -/
theorem setLabel_printing {a z : List Entry} {e : Entry} {n : Nat} (queue : s.belt.queue = a ++ e :: z)
    (apart : (s.belt.queue.map (·.id)).Nodup) (item : e.itemNumber? = some n) :
    s.setLabel e.id .printing = (s.onBelt fun q => { q with queue := a ++ e.withLabel .printing :: z }).onItem n
      (fun q => { q with label := some .printing }) := by
  have found := findEntry_of_mem apart (queue ▸ List.mem_append_right a (List.mem_cons_self))
  rw [setLabel_eq found item, onEntry_split queue apart]
  rfl

theorem printOrder_stays (stays : s.label.printer ≠ .ready ∨ s.label.pad ≠ .empty ∨ s.label.job ≠ none ∨
    ∀ e ∈ s.belt.queue, e.unprinted = false) : s.printOrder = s := by
  unfold State.printOrder
  split
  · rename_i free
    obtain ⟨ready, pad, job⟩ := free
    have none : ∀ e ∈ s.belt.queue, e.unprinted = false := by
      obtain printer | held | busy | none := stays
      · exact absurd ready printer
      · exact absurd pad held
      · exact absurd (by simpa using job) busy
      · exact none
    rw [State.nextUnprinted, List.find?_eq_none.mpr fun e there => by simp [none e there]]
  · rfl

/-! ## The drive -/

theorem moving_iff (d : Drive) : d.moving = true ↔ d = .starting ∨ d = .running ∨ d = .creeping := by
  cases d <;> simp [Drive.moving]

theorem not_moving {d : Drive} (h : d = .stopping ∨ d = .stopped ∨ d = .estopped) : d.moving = false := by
  obtain rfl | rfl | rfl := h <;> rfl

/-- A drive changed to another state is reported (R127). -/
theorem changeDrive_told {f : Belt → Belt} (other : (f s.belt).drive ≠ s.belt.drive) :
    s.changeDrive f = (s.onBelt f).beltNotice := if_neg other

/-! ## Creep (R135, R136) -/

/-- The ITEM that comes near with its label late (R135). -/
def Near (s : State) (e : Entry) : Prop :=
  s.belt.queue.find? Entry.live = some e ∧ e.label? ≠ some .presented ∧
    ahead e.front s.belt.p ≤ s.settings.host.geo.slow

theorem creepEntry_still (still : s.belt.drive.moving = false) : s.creepEntry = none :=
  if_neg (ne_true_of_eq_false still)

theorem creepEntry_near {e : Entry} (moving : s.belt.drive.moving = true) (near : Near s e) : s.creepEntry = some e := by
  obtain ⟨first, late⟩ := near
  rw [State.creepEntry, if_pos moving, first]
  exact if_pos late

theorem creepEntry_none (far : ∀ e, ¬Near s e) : s.creepEntry = none := by
  unfold State.creepEntry
  split
  · split
    · rfl
    · rename_i e first
      exact if_neg fun late => far e ⟨first, late⟩
  · rfl

theorem printerFault_iff (s : State) : s.printerFault = true ↔ ∃ f, s.label.printer = .fault f := by
  unfold State.printerFault
  cases s.label.printer <;> simp

theorem judgeCreep_near {e : Entry} (entry : s.creepEntry = some e) (works : ∀ f, s.label.printer ≠ .fault f) :
    s.judgeCreep = if s.belt.drive = .creeping then s else
      (s.onBelt fun q => { q with drive := .creeping, target := 100 }).beltNotice := by
  have works : ¬s.printerFault = true := fun fault => ((printerFault_iff s).mp fault).elim works
  rw [State.judgeCreep, entry]
  dsimp only
  rw [if_neg works]
  split
  · rfl
  · rename_i other
    exact changeDrive_told (Ne.symm other)

theorem judgeCreep_fault {e : Entry} {f : FaultKind} (entry : s.creepEntry = some e)
    (fault : s.label.printer = .fault f) (moving : s.belt.drive.moving = true) :
    s.judgeCreep = (s.onBelt fun q => { q with
      drive := .stopping, target := 0, reason := .labelWait, waitEntry := some e.id }).beltNotice := by
  rw [State.judgeCreep, entry]
  dsimp only
  rw [if_pos ((printerFault_iff s).mpr ⟨f, fault⟩)]
  exact changeDrive_told fun stopping => by simp [← stopping, Drive.moving] at moving

theorem judgeCreep_none (entry : s.creepEntry = none) (steady : s.belt.drive ≠ .creeping) : s.judgeCreep = s := by
  rw [State.judgeCreep, entry]
  exact if_neg steady

theorem judgeCreep_leaves (entry : s.creepEntry = none) (creeps : s.belt.drive = .creeping) :
    let starting := (s.onBelt fun q => { q with drive := .starting, target := q.runTarget }).beltNotice
    s.judgeCreep = if s.belt.setpoint = s.belt.runTarget * 100 then
      (starting.onBelt fun q => { q with drive := .running }).beltNotice else starting := by
  have starting : s.changeDrive (fun b => { b with drive := .starting, target := b.runTarget }) =
      (s.onBelt fun q => { q with drive := .starting, target := q.runTarget }).beltNotice :=
    changeDrive_told (by rw [creeps]; nofun)
  rw [State.judgeCreep, entry]
  refine (if_pos creeps).trans ?_
  rw [State.leaveCreep, starting]
  rfl

/-! ## The label-wait stop (R136) -/

/-- The label the drive waits for is PRESENTED, or its entry is flagged or gone. -/
theorem labelWaitOver_iff (s : State) : s.labelWaitOver = true ↔ ∃ id, s.belt.waitEntry = some id ∧
    (s.findEntry id = none ∨ ∃ e, s.findEntry id = some e ∧ (e.flag.isSome = true ∨ e.label? = some .presented)) := by
  unfold State.labelWaitOver
  cases s.belt.waitEntry with
  | none => simp
  | some id => cases found : s.findEntry id <;> simp [found]

theorem labelWaitRestart_stays (stays : s.belt.reason ≠ .labelWait ∨ ¬s.labelWaitOver = true) :
    s.labelWaitRestart = s :=
  if_neg fun ⟨waits, ended⟩ => stays.elim (· waits) (· ended)

theorem labelWaitRestart_restarts (waits : s.belt.reason = .labelWait) (ended : s.labelWaitOver = true)
    (still : s.belt.drive = .stopping ∨ s.belt.drive = .stopped) :
    s.labelWaitRestart = (s.onBelt fun q => { q with
      drive := .starting, target := q.runTarget, reason := .none, waitEntry := none }).beltNotice :=
  (if_pos ⟨waits, ended⟩).trans (changeDrive_told fun starting => by simp [← starting] at still)

/-! ## The release (R163, R170) -/

section
variable {r : Release} {moving : Bool}

theorem follow_suspends (still : moving = false) (rotating : r.state = .rotating) :
    r.follow moving = { r with state := .suspended } := if_pos ⟨rotating, by simp [still]⟩

theorem follow_resumes (moves : moving = true) (suspended : r.state = .suspended) :
    r.follow moving = { r with state := .rotating } :=
  (if_neg (by simp [suspended])).trans (if_pos ⟨suspended, moves⟩)

theorem follow_stays (stays : (r.state = .rotating → moving = true) ∧ (r.state = .suspended → moving = false)) :
    r.follow moving = r := by
  obtain ⟨moves, rests⟩ := stays
  unfold Release.follow
  rw [if_neg fun ⟨rotating, still⟩ => by simp [moves rotating] at still,
    if_neg fun ⟨suspended, moving⟩ => by simp [rests suspended] at moving]

end

theorem keepCandidate_keeps (awaited : ∀ c, s.release.candidate = some c →
    ∃ e ∈ s.items.register, e.number = c.item ∧ e.state = .awaitRelease) : s.keepCandidate = s := by
  have kept : s.release.candidate.filter (fun c =>
      s.items.register.any fun e => e.number == c.item && e.state == .awaitRelease) = s.release.candidate := by
    cases candidate : s.release.candidate with
    | none => rfl
    | some c => exact Option.filter_eq_some_iff.mpr ⟨rfl, by simpa using awaited c candidate⟩
  exact congrArg (fun c => { s with release := { s.release with candidate := c } }) kept

theorem keepCandidate_drops {c : Candidate} (candidate : s.release.candidate = some c)
    (gone : ∀ e ∈ s.items.register, e.number = c.item → e.state ≠ .awaitRelease) :
    s.keepCandidate = s.onRelease fun r => { r with candidate := none } := by
  have dropped : s.release.candidate.filter (fun c =>
      s.items.register.any fun e => e.number == c.item && e.state == .awaitRelease) = none := by
    rw [candidate]
    exact Option.filter_eq_none_iff.mpr (by simpa using gone)
  exact congrArg (fun c => { s with release := { s.release with candidate := c } }) dropped

theorem asksAgain_iff (before now : State) : State.asksAgain before now = true ↔
    before.belt.p ≠ now.belt.p ∨ (∃ e ∈ before.belt.queue, ∀ f ∈ now.belt.queue, f.id ≠ e.id) ∨
    (before.release.state = .suspended ∧ now.release.state = .rotating) := by
  simp [State.asksAgain, or_assoc]

/-! ## Retirement (R149) -/

/-- A tamp cycle is that of an entry from its arming to its verdict (R185). -/
theorem inTampCycle_iff (s : State) (id : Nat) : s.inTampCycle id = true ↔
    ∃ n p, s.label.tamp = .armed id p ∨ s.label.tamp = .extend id n ∨ s.label.tamp = .dwell id n ∨
      s.label.tamp = .retract id n := by
  unfold State.inTampCycle
  cases s.label.tamp <;> simp

section
variable {e : Entry} (found : s.findEntry e.id = some e)
include found

theorem retireStep_stays (stays : e.isReservation = true ∨ ¬(s.retirePassed e || e.retireMarked) = true) :
    s.retireStep e.id = s := by
  rw [State.retireStep, found]
  dsimp only
  obtain reserved | early := stays
  · exact if_pos reserved
  · rw [if_neg early]
    exact ite_self s

variable (placed : e.isReservation = false) (due : (s.retirePassed e || e.retireMarked) = true)
include placed due

theorem retireStep_waits (cycle : s.inTampCycle e.id = true) :
    s.retireStep e.id = s.onEntry e.id Entry.asRetireDue := by
  rw [State.retireStep, found]
  dsimp only
  rw [if_neg (ne_true_of_eq_false placed), if_pos due, if_pos cycle]

theorem retireStep_retires (verdict : ¬s.inTampCycle e.id = true) : s.retireStep e.id = s.retire e := by
  rw [State.retireStep, found]
  dsimp only
  rw [if_neg (ne_true_of_eq_false placed), if_pos due, if_neg verdict]

end

theorem retire_stray {e : Entry} (other : e.itemNumber? = none) : s.retire e = s.removeEntry e.id := by
  rw [State.retire, other]

section
variable {e : Entry} {n : Nat} (item : e.itemNumber? = some n)
include item

theorem retire_unmatched (missing : e.matched = false) : s.retire e = s.dropMissing e := by
  rw [State.retire, item]
  exact if_neg (ne_true_of_eq_false missing)

/-- A matched ITEM leaves the register with its outcome, and the queue. -/
theorem retire_matched (matched : e.matched = true) {r : RegEntry} (found : s.findItem n = some r) {o : ItemOutcome}
    (outcome : State.retireOutcome e = o) : s.retire e =
      ((s.onItems (fun m => State.countOutcome o { m with
        register := m.register.eraseP (fun q => q.number == n) })).offer
          (.itemClosed n r.position o r.label (r.result.total.getD 0))).removeEntry e.id := by
  rw [State.retire, item]
  refine (if_pos matched).trans ?_
  rw [outcome, closeItem_eq found]

end

theorem closeItem_entries (s : State) (n : Nat) (o : ItemOutcome) : SameEntries s (s.closeItem n o) := by
  unfold State.closeItem
  split <;> exact .same rfl

/-- An entry that retires leaves no entry of its name in the queue. -/
theorem retire_removes (s : State) (e : Entry) : ∃ t, SameEntries s t ∧ s.retire e = t.removeEntry e.id := by
  unfold State.retire State.dropMissing
  cases item : e.itemNumber? with
  | none => exact ⟨s, .refl s, rfl⟩
  | some n =>
    dsimp only
    split
    · exact ⟨_, closeItem_entries s n _, rfl⟩
    · exact ⟨_, (closeItem_entries s n _).andThen (loseLabel_entries _ _), rfl⟩

/-- A sole entry whose point is passed leaves the queue empty. -/
theorem retireAll_sole {e : Entry} (sole : s.belt.queue = [e]) (placed : e.isReservation = false)
    (passed : s.retirePassed e = true) (home : s.label.tamp = .retracted) : s.retireAll.belt.queue = [] := by
  have found : s.findEntry e.id = some e := by simp [State.findEntry, sole]
  have retires : s.retireAll = s.retire e := by
    rw [State.retireAll, sole]
    exact retireStep_retires found placed (by simp [passed]) (by simp [State.inTampCycle, home])
  obtain ⟨t, same, removes⟩ := retire_removes s e
  rw [retires, removes]
  refine List.filter_eq_nil_iff.mpr fun o there => ?_
  have name : o.id ∈ t.belt.queue.map (·.id) := List.mem_map_of_mem there
  rw [same.ids, sole] at name
  simpa using name

/-- Settles O47: each operation that follows on the line by its own cases, in the order of the settling. -/
theorem lineFollows : Obligations.LineFollows := by
  refine ⟨fun before s => s.settle_frame before, fun before s rest => settle_atRest rest before, unprinted_iff,
    ?sends, fun s => printOrder_stays, ?record, fun s => ?creep, fun s => ?labelWait, fun d r => ?follow,
    fun s again => ⟨?idle, fun suspended => ⟨fun absent => ?absent, fun c candidate => ⟨fun awaits => ?stands,
      fun gone => ?dropped⟩⟩⟩, asksAgain_iff, fun _ _ => rfl, fun _ => rfl, fun s e found => ?retires,
    fun s e sole placed passed home => retireAll_sole sole placed (decide_eq_true passed) home⟩
  case sends =>
    intro s a z e r n ready pad free queue apart before unprinted item found
    rw [printOrder_sends ready pad free (nextUnprinted_eq queue before unprinted) item found,
      setLabel_printing queue apart item]
    rfl
  case record =>
    intro r service zone cw total hasService hasZone hasCw hasTotal
    simp [jobRecord, hasService, hasZone, hasCw, hasTotal]
  case creep =>
    have still (h : ¬(s.belt.drive = .starting ∨ s.belt.drive = .running ∨ s.belt.drive = .creeping)) :
        s.belt.drive.moving = false := by simpa using fun moving => h ((moving_iff _).mp moving)
    refine ⟨fun stands => ?_, fun e moves near works => ?_, fun e f moves near fault => ?_, fun far steady => ?_,
      fun far creeps => ?_⟩
    · exact judgeCreep_none (creepEntry_still (still stands)) fun creeps => stands (.inr (.inr creeps))
    · exact judgeCreep_near (creepEntry_near ((moving_iff _).mpr moves) near) works
    · exact judgeCreep_fault (creepEntry_near ((moving_iff _).mpr moves) near) fault ((moving_iff _).mpr moves)
    · exact judgeCreep_none (creepEntry_none far) steady
    · exact judgeCreep_leaves (creepEntry_none far) creeps
  case labelWait =>
    exact ⟨fun stays => labelWaitRestart_stays (stays.imp_right (mt (labelWaitOver_iff s).mp)),
      fun waits ended still => labelWaitRestart_restarts waits ((labelWaitOver_iff s).mpr ended) still⟩
  case follow =>
    refine ⟨moving_iff d, fun halts rotating => follow_suspends (not_moving halts) rotating,
      fun moves suspended => follow_resumes ((moving_iff d).mpr moves) suspended, fun moves rotating => ?_,
      fun halts suspended => ?_, fun parked => ?_⟩
    · exact follow_stays ⟨fun _ => (moving_iff d).mpr moves, fun suspended => (by cases rotating.symm.trans suspended)⟩
    · exact follow_stays ⟨fun rotating => (by cases rotating.symm.trans suspended), fun _ => not_moving halts⟩
    · obtain parked | parked := parked <;>
        exact follow_stays ⟨fun rotating => (by cases parked.symm.trans rotating),
          fun suspended => (by cases parked.symm.trans suspended)⟩
  case idle =>
    rintro (idle | negotiating)
    · rw [State.settleRelease, idle]
    · rw [State.settleRelease, negotiating]
  case absent =>
    rw [State.settleRelease, suspended]
    exact keepCandidate_keeps fun c candidate => by cases absent.symm.trans candidate
  case stands =>
    rw [State.settleRelease, suspended]
    refine keepCandidate_keeps fun d other => ?_
    cases candidate.symm.trans other
    exact awaits
  case dropped =>
    rw [State.settleRelease, suspended]
    exact keepCandidate_drops candidate gone
  case retires =>
    intro due cycle removed
    have due_iff : due ↔ (s.retirePassed e || e.retireMarked) = true := by
      rw [Bool.or_eq_true, or_comm]
      exact or_congr_right (decide_eq_true_iff).symm
    have retires (placed : e.isReservation = false) (h : due) (verdict : ¬cycle) : s.retireStep e.id = s.retire e :=
      retireStep_retires found placed (due_iff.mp h) (mt (inTampCycle_iff s e.id).mp verdict)
    refine ⟨fun stays => retireStep_stays found (stays.imp_right (mt due_iff.mpr)), fun placed h waits =>
      retireStep_waits found placed (due_iff.mp h) ((inTampCycle_iff s e.id).mpr waits), fun placed h verdict =>
      ⟨fun other => ?_, fun n item missing => ?_, fun n r item matched there => ?_⟩⟩
    · rw [retires placed h verdict, retire_stray other, removeEntry_eq]
    · rw [retires placed h verdict, retire_unmatched item missing]
    · have closes (o : ItemOutcome) (outcome : State.retireOutcome e = o) :=
        (retires placed h verdict).trans (retire_matched item matched there outcome)
      simp only [removeEntry_eq] at closes
      exact ⟨fun why flagged => closes (.rejected why) (by rw [State.retireOutcome, flagged]),
        fun free applied => closes .labelled (by rw [State.retireOutcome, free]; exact if_pos applied),
        fun free bare => closes (.rejected .noLabel) (by rw [State.retireOutcome, free]; exact if_neg bare)⟩

end Sys2Proof.Machine.LineSettled
end

section
/-! PROOFS of 07_belt_drive_and_tracking.md: what flags leave of the tracking queue and of the link (R140), and what an
edge at an eye leaves alone (R143 to R148). -/

namespace Sys2Proof.Machine.EyeFrames

open LineOperations LabelsAndFlags AccountLaws

variable {s t u : State}

/-! ## What a label leaves of the entries -/

/-- An entry by its name, its stretch and its flag. -/
def stretch (e : Entry) : Nat × Coord × Coord × Option RejectReason := (e.id, e.front, e.tail, e.flag)

theorem stretch_withLabel (l : LabelState) (e : Entry) : stretch (e.withLabel l) = stretch e := by
  unfold Entry.withLabel
  split <;> rfl

/-- From `s` to `t` the entries of the queue change in body only, and the link stays. -/
structure SameStretches (s t : State) : Prop where
  stretches : t.belt.queue.map stretch = s.belt.queue.map stretch
  link : t.link = s.link

namespace SameStretches

theorem refl (s : State) : SameStretches s s := ⟨rfl, rfl⟩

theorem andThen (a : SameStretches s t) (b : SameStretches t u) : SameStretches s u :=
  ⟨b.stretches.trans a.stretches, b.link.trans a.link⟩

theorem ite {c : Prop} [Decidable c] (a : SameStretches s t) (b : SameStretches s u) :
    SameStretches s (if c then t else u) := by split <;> assumption

/-- The belt and the link are as they were. -/
theorem same (belt : t.belt = s.belt) (link : t.link = s.link) : SameStretches s t := ⟨by rw [belt], link⟩

/-- An entry of `s` stands in `t` under its name, with its stretch and its flag. -/
theorem mem (a : SameStretches s t) {e : Entry} (there : e ∈ s.belt.queue) :
    ∃ q ∈ t.belt.queue, stretch q = stretch e :=
  List.mem_map.mp (a.stretches ▸ List.mem_map_of_mem there)

end SameStretches

open SameStretches (same)

theorem setLabel_stretches (s : State) (id : Nat) (l : LabelState) : SameStretches s (s.setLabel id l) := by
  unfold State.setLabel
  split
  · exact .refl s
  · refine ⟨?_, rfl⟩
    simp only [State.onLabel, State.onItem, State.onItems, State.onEntry, State.onBelt, List.map_map]
    refine List.map_congr_left fun e _ => ?_
    dsimp only [Function.comp]
    split
    · exact stretch_withLabel l e
    · rfl

theorem eject_stretches (s : State) (owner : Option Nat) (l : LabelState) : SameStretches s (s.eject owner l) := by
  cases owner with
  | none => exact same rfl rfl
  | some id =>
    exact (SameStretches.ite (c := (s.labelOf id).any (fun l => !finalLabel l) = true) (setLabel_stretches s id l)
      (.refl s)).andThen (same rfl rfl)

theorem loseLabel_stretches (s : State) (id : Nat) : SameStretches s (s.loseLabel id) := by
  unfold State.loseLabel
  split
  · exact setLabel_stretches s id _
  · exact (setLabel_stretches s id _).andThen (same rfl rfl)
  · exact .ite ((eject_stretches s (some id) .wasted).andThen (same rfl rfl)) (.refl s)
  all_goals exact .refl s

/-! ## What a flag does to the entries (R140) -/

/-- An entry that takes a flag where `c` holds and it has none. -/
def flaggedIf (r : RejectReason) (c : Prop) [Decidable c] (e : Entry) : Entry :=
  { e with flag := if c ∧ e.flag = none then some r else e.flag }

theorem flaggedIf_free {r : RejectReason} {c : Prop} [Decidable c] {e : Entry} (free : ¬(c ∧ e.flag = none)) :
    flaggedIf r c e = e := by
  rw [flaggedIf, if_neg free]

theorem flaggedIf_hit {r : RejectReason} {c : Prop} [Decidable c] {e : Entry} (hit : c) (free : e.flag = none) :
    flaggedIf r c e = { e with flag := some r } := by
  rw [flaggedIf, if_pos ⟨hit, free⟩]

/-- The entry named is flagged where it is unflagged, and no other changes. -/
theorem flagEntry_stretches (apart : (s.belt.queue.map (·.id)).Nodup) (r : RejectReason) (id : Nat) {e : Entry}
    (there : e ∈ s.belt.queue) : ∃ q ∈ (s.flagEntry r id).belt.queue, stretch q = stretch (flaggedIf r (e.id = id) e) := by
  cases found : s.findEntry id with
  | none =>
    have other : e.id ≠ id := fun same => by simp [← same, findEntry_of_mem apart there] at found
    rw [State.flagEntry, found, flaggedIf_free fun hit => other hit.1]
    exact ⟨e, there, rfl⟩
  | some o =>
    have own : e.id = id → o = e := fun same => by
      rw [← same, findEntry_of_mem apart there] at found
      exact (Option.some.inj found).symm
    by_cases flagged : o.flag.isSome = true
    · rw [flagEntry_flagged found flagged, flaggedIf_free fun ⟨hit, free⟩ => by simp [own hit, free] at flagged]
      exact ⟨e, there, rfl⟩
    · have marks : ∃ q ∈ (s.onEntry id fun e => { e with flag := some r }).belt.queue,
          stretch q = stretch (flaggedIf r (e.id = id) e) := by
        refine ⟨_, List.mem_map_of_mem there, ?_⟩
        split
        · rename_i hit
          rw [flaggedIf_hit hit (by simpa [own hit] using flagged)]
        · rename_i other
          rw [flaggedIf_free fun hit => other hit.1]
      rw [State.flagEntry, found]
      simp only [if_neg flagged]
      cases o.itemNumber? with
      | none => exact marks
      | some n =>
        obtain ⟨q, stands, same⟩ := marks
        obtain ⟨x, last, kept⟩ := (loseLabel_stretches ((s.onEntry id fun e => { e with flag := some r }).onItem n
          fun q => { q with reject := some r }) id).mem stands
        exact ⟨x, last, kept.trans same⟩

theorem flagEntry_link (s : State) (r : RejectReason) (id : Nat) : (s.flagEntry r id).link = s.link := by
  unfold State.flagEntry
  split
  · rfl
  · dsimp only
    split
    · rfl
    · split
      · rfl
      · exact (loseLabel_stretches _ id).link

theorem flagAll_link (s : State) (r : RejectReason) (ids : List Nat) : (s.flagAll r ids).link = s.link := by
  unfold State.flagAll
  induction ids generalizing s with
  | nil => rfl
  | cons id rest ih => exact (ih _).trans (flagEntry_link s r id)

/-- Of the entries named each unflagged one is flagged, and no other changes. -/
theorem flagAll_stretches (apart : (s.belt.queue.map (·.id)).Nodup) (r : RejectReason) (ids : List Nat) {e : Entry}
    (there : e ∈ s.belt.queue) : ∃ q ∈ (s.flagAll r ids).belt.queue, stretch q = stretch (flaggedIf r (e.id ∈ ids) e) := by
  induction ids generalizing s e with
  | nil => exact ⟨e, there, by rw [flaggedIf_free (by simp)]⟩
  | cons id rest ih =>
    obtain ⟨o, stands, first⟩ := flagEntry_stretches apart r id there
    obtain ⟨q, last, later⟩ := ih (s := s.flagEntry r id) (by rw [(flagEntry_entries s r id).ids]; exact apart) stands
    refine ⟨q, last, later.trans ?_⟩
    simp only [stretch, flaggedIf, Prod.mk.injEq] at first ⊢
    obtain ⟨name, front, tail, flag⟩ := first
    rw [name, front, tail, flag]
    refine ⟨rfl, rfl, rfl, ?_⟩
    by_cases here : e.id = id <;> cases e.flag <;> simp [here]

/-! ## What an edge leaves alone -/

/-- `t` follows from `s` by an edge at an eye: it is off the line as `s` is, P and the speed stay, and the eyes are
as given. -/
structure EdgeFrame (s : State) (eyes : Six EyeRecord) (applicator : EyeRecord) (t : State) : Prop where
  off : OffLine s t
  p : t.belt.p = s.belt.p
  setpoint : t.belt.setpoint = s.belt.setpoint
  eyes : t.belt.eyes = eyes
  applicator : t.belt.applicator = applicator

namespace EdgeFrame
variable {eyes : Six EyeRecord} {applicator : EyeRecord}

theorem refl (s : State) : EdgeFrame s s.belt.eyes s.belt.applicator s :=
  ⟨by constructor <;> rfl, rfl, rfl, rfl, rfl⟩

/-- The belt changes, but for P and the speed. -/
theorem onBelt (a : EdgeFrame s eyes applicator t) {f : Belt → Belt} {eyes' : Six EyeRecord} {applicator' : EyeRecord}
    (p : (f t.belt).p = t.belt.p) (setpoint : (f t.belt).setpoint = t.belt.setpoint) (seen : (f t.belt).eyes = eyes')
    (applied : (f t.belt).applicator = applicator') : EdgeFrame s eyes' applicator' (t.onBelt f) :=
  ⟨{ a.off with }, p.trans a.p, setpoint.trans a.setpoint, seen, applied⟩

/-- An operation of the line follows. -/
theorem line (a : EdgeFrame s eyes applicator t) (b : LineFrame t u) : EdgeFrame s eyes applicator u where
  off := {
    pins := b.pins.trans a.off.pins
    weighing := b.weighing.trans a.off.weighing
    gauges := b.gauges.trans a.off.gauges
    tariff := b.tariff.trans a.off.tariff
    flash := b.flash.trans a.off.flash
    port := b.port.trans a.off.port
    cache := b.cache.trans a.off.cache
    rating := b.rating.trans a.off.rating
    settings := b.settings.trans a.off.settings
    time := b.time.trans a.off.time
    fresh := b.fresh.trans a.off.fresh
    pending := b.pending.trans a.off.pending
    slots := b.slots.trans a.off.slots
    pool := b.pool.trans a.off.pool
    issued := b.issued.trans a.off.issued
    lowMark := b.lowMark.trans a.off.lowMark
    confirmed := b.confirmed.trans a.off.confirmed
    account := b.account.trans a.off.account
    receiver := b.receiver.trans a.off.receiver
    part := b.part.trans a.off.part
    frameErrors := b.frameErrors.trans a.off.frameErrors
    lostRequests := b.lostRequests.trans a.off.lostRequests
    restartSlot := b.restartSlot.trans a.off.restartSlot }
  p := b.p.trans a.p
  setpoint := b.setpoint.trans a.setpoint
  eyes := b.eyes.trans a.eyes
  applicator := b.applicator.trans a.applicator

theorem offer (a : EdgeFrame s eyes applicator t) (n : Notice) : EdgeFrame s eyes applicator (t.offer n) :=
  a.line (.viaOffer t n)

theorem settle (a : EdgeFrame s eyes applicator t) (before : State) :
    EdgeFrame s eyes applicator (State.settle before t) :=
  a.line (t.settle_frame before)

theorem ite {c : Prop} [Decidable c] (a : EdgeFrame s eyes applicator t) (b : EdgeFrame s eyes applicator u) :
    EdgeFrame s eyes applicator (if c then t else u) := by split <;> assumption

/-- An eye takes its record. -/
theorem setEye (a : EdgeFrame s eyes applicator t) (k : Pos) (r : EyeRecord) :
    EdgeFrame s (eyes.set k r) applicator (t.setEye k r) :=
  a.onBelt rfl rfl (congrArg (Six.set · k r) a.eyes) a.applicator

theorem blockApplicator (a : EdgeFrame s eyes applicator t) (id : Option Nat) :
    EdgeFrame s eyes ⟨true, s.belt.p, id, false, false⟩ (t.blockApplicator id) :=
  a.onBelt rfl rfl a.eyes (congrArg (EyeRecord.mk true · id false false) a.p)

theorem insertNew (a : EdgeFrame s eyes applicator t) (front tail : Coord) (flag : Option RejectReason)
    (body : EntryBody) : EdgeFrame s eyes applicator (t.insertNew front tail flag body) :=
  a.onBelt rfl rfl a.eyes a.applicator

end EdgeFrame

end Sys2Proof.Machine.EyeFrames
end

section
/-! PROOFS of 07_belt_drive_and_tracking.md: the edges at the induct eyes and at the applicator eye, each by the object
it finds (R121, R143 to R148). -/

namespace Sys2Proof.Machine.EyeEdges

open LineOperations LabelsAndFlags AccountLaws EyeFrames

variable {s : State} {k : Pos} {e : Entry} {n : Nat}

/-! ## The queue (R140) -/

/-- An entry is placed after those at or before its front, and before the next one further. -/
theorem insertEntry_split (p : Coord) (e : Entry) (l : List Entry) : ∃ a z, l = a ++ z ∧
    insertEntry p e l = a ++ e :: z ∧ (∀ x ∈ a, ahead x.front p ≤ ahead e.front p) ∧
    ∀ x y, z = x :: y → ahead e.front p < ahead x.front p := by
  induction l with
  | nil => exact ⟨[], [], rfl, rfl, by simp, by simp⟩
  | cons o rest ih =>
    by_cases before : ahead e.front p < ahead o.front p
    · refine ⟨[], o :: rest, rfl, by rw [insertEntry, if_pos before, List.nil_append], by simp, fun x y next => ?_⟩
      obtain ⟨rfl, -⟩ := List.cons.inj next
      exact before
    · obtain ⟨a, z, whole, placed, lower, next⟩ := ih
      refine ⟨o :: a, z, by rw [whole, List.cons_append], by rw [insertEntry, if_neg before, placed, List.cons_append],
        fun x there => ?_, next⟩
      obtain rfl | there := List.mem_cons.mp there
      · exact Int.not_lt.mp before
      · exact lower x there

/-- A placed entry is the one its name finds where no other has the name. -/
theorem find_insertEntry {p : Coord} {l : List Entry} (fresh : ∀ o ∈ l, o.id ≠ e.id) :
    (insertEntry p e l).find? (fun o => o.id == e.id) = some e := by
  obtain ⟨a, z, rfl, placed, -⟩ := insertEntry_split p e l
  rw [placed, List.find?_append, List.find?_eq_none.mpr fun o there => by simpa using fresh o (List.mem_append_left z there),
    List.find?_cons_of_pos (p := fun o : Entry => o.id == e.id) (beq_self_eq_true e.id)]
  rfl

/-- The queue without an entry whose name no other has. -/
theorem filter_split {a z : List Entry} (apart : ((a ++ e :: z).map (·.id)).Nodup) :
    (a ++ e :: z).filter (fun o => o.id != e.id) = a ++ z := by
  have fresh := (List.nodup_cons.mp (List.nodup_middle.mp
    (by simpa using apart : (a.map (·.id) ++ e.id :: z.map (·.id)).Nodup))).1
  have other : ∀ o ∈ a ++ z, (o.id != e.id) = true := fun o there => by
    refine bne_iff_ne.mpr fun same => fresh ?_
    rw [← List.map_append, ← same]
    exact List.mem_map_of_mem there
  rw [List.filter_append, List.filter_cons_of_neg (by simp), ← List.filter_append, List.filter_eq_self.mpr other]

/-! ## The object at an induct eye (R143) -/

theorem reservationAt_none (free : ∀ e ∈ s.belt.queue, ∀ p0 n, e.body ≠ .reservation k p0 n) :
    s.reservationAt k = none := by
  refine List.findSome?_eq_none_iff.mpr fun e there => ?_
  split
  · rename_i q p0 n body
    exact if_neg fun own : q = k => free e there p0 n (own ▸ body)
  · rfl
  · rfl

theorem reservationAt_first {a z : List Entry} {p0 : Coord} (queue : s.belt.queue = a ++ e :: z)
    (before : ∀ o ∈ a, ∀ p0 n, o.body ≠ .reservation k p0 n) (body : e.body = .reservation k p0 n) :
    s.reservationAt k = some (e, n) := by
  have none := reservationAt_none (s := { s with belt := { s.belt with queue := a } }) before
  rw [State.reservationAt] at none ⊢
  rw [queue, List.findSome?_append, none, List.findSome?_cons, body]
  simp

section
variable (running : s.running = true) (clear : (s.belt.eyes.get k).blocked = false)
include running clear

theorem inductEyeFrontEdge_eq : exec (.inductEyeFrontEdge k) s = .next (s.inductFront k) := by
  show Host.Outcome.next (if (s.belt.eyes.get k).blocked then s else if s.running then _ else _) = _
  rw [if_neg (ne_true_of_eq_false clear), if_pos running]

theorem inductEyeFrontEdge_passing (passing : s.passingAt k = some e) :
    exec (.inductEyeFrontEdge k) s = .next (s.setEye k ⟨true, s.belt.p, some e.id, true, false⟩) := by
  rw [inductEyeFrontEdge_eq running clear, State.inductFront, passing]

theorem inductEyeFrontEdge_inducts (passing : s.passingAt k = none) (reserved : s.reservationAt k = some (e, n)) :
    exec (.inductEyeFrontEdge k) s = .next (State.settle s (s.induct k e n)) := by
  rw [inductEyeFrontEdge_eq running clear, State.inductFront, passing, reserved]

theorem inductEyeFrontEdge_strays (passing : s.passingAt k = none) (reserved : s.reservationAt k = none) :
    exec (.inductEyeFrontEdge k) s = .next (State.settle s (s.strayAt k)) := by
  rw [inductEyeFrontEdge_eq running clear, State.inductFront, passing, reserved]

end

/-! ## The induct (R144) -/

/-- The ITEM that a RESERVATION becomes at its induct. -/
def inductedItem (s : State) (k : Pos) (e : Entry) (n : Nat) : Entry :=
  ⟨e.id, s.dueAt k, (s.dueAt k).beyond Config.itemLength, e.flag, .item n k none .notStarted false false⟩

/-- The ITEM placed among the `others`, mirrored in the register, and its lit release ended. -/
def inducted (s : State) (k : Pos) (e : Entry) (n : Nat) (others : List Entry) : State :=
  (((s.onBelt fun b => { b with queue := insertEntry b.p (inductedItem s k e n) others }).setEye k
    ⟨true, s.belt.p, some e.id, false, false⟩).onItem n fun q => { q with
      state := .onBelt, track := some e.id, label := some .notStarted }).onRelease fun r =>
        if r.lit.any (fun l => l.item == n) then r.endLit else r

section
variable {others : List Entry} (left : s.belt.queue.filter (fun o => o.id != e.id) = others)
include left

theorem induct_free (free : e.flag = none) : s.induct k e n = (inducted s k e n others).displace := by
  obtain ⟨id, front, tail, flag, body⟩ := e
  cases free
  subst left
  rfl

/-- The label of an ITEM inducted with a flag is SKIPPED at once (log 33). -/
theorem induct_flagged {r : RejectReason} (flagged : e.flag = some r) : s.induct k e n =
    (((inducted s k e n others).onItem n fun q => { q with reject := some r }).setLabel e.id .skipped).displace := by
  have fresh : ∀ o ∈ others, o.id ≠ e.id := fun o there => by
    subst left
    simpa using (List.mem_filter.mp there).2
  have label : ((inducted s k e n others).onItem n fun q => { q with reject := some r }).labelOf e.id =
      some .notStarted := labelOf_eq (e := inductedItem s k e n) (find_insertEntry (e := inductedItem s k e n) fresh)
  rw [← loseLabel_notStarted label]
  obtain ⟨id, front, tail, flag, body⟩ := e
  cases flagged
  subst left
  rfl

end

/-- No label on the pad, none displaced. -/
theorem displace_free (free : ∀ x, s.label.pad ≠ .holding x) : s.displace = s := by
  unfold State.displace
  split
  · rename_i id held
    exact absurd held (free id)
  · rfl
  · rfl

theorem setLabel_pad (s : State) (id : Nat) (l : LabelState) : (s.setLabel id l).label.pad = s.label.pad := by
  unfold State.setLabel
  split <;> rfl

/-! ## The stray (R145) -/

/-- The unflagged entries that a stray at eye `k` overlaps. -/
def overlapped (s : State) (k : Pos) (e : Entry) : Bool :=
  e.flag.isNone && stretchesOverlap e.front e.tail (s.dueAt k) ((s.dueAt k).beyond Config.itemLength)

/-- The queue as the stray finds it, with what it overlaps flagged. -/
def overlapsFlagged (s : State) (k : Pos) : State :=
  s.flagAll .overlap ((s.belt.queue.filter (overlapped s k)).map (·.id))

theorem strayAt_fits (fits : s.belt.queue.length < 24) : s.strayAt k = (((overlapsFlagged s k).insertNew (s.dueAt k)
    ((s.dueAt k).beyond Config.itemLength) (some .unknown) (.stray (some k) false)).setEye k
      ⟨true, s.belt.p, some s.belt.nextId, false, false⟩).offer (.stray (some k) s.belt.p (s.dueAt k)
        ((s.dueAt k).beyond Config.itemLength) true (s.belt.queue.filter (overlapped s k)).length) := by
  rw [← List.length_map (·.id)]
  unfold State.strayAt
  have fits : decide (s.belt.queue.length < Config.queueEntries) = true := decide_eq_true fits
  rw [fits]
  rfl

theorem strayAt_full (full : 24 ≤ s.belt.queue.length) : s.strayAt k = (((overlapsFlagged s k).offer .queueFull).setEye k
      ⟨true, s.belt.p, none, false, false⟩).offer (.stray (some k) s.belt.p (s.dueAt k)
        ((s.dueAt k).beyond Config.itemLength) false (s.belt.queue.filter (overlapped s k)).length) := by
  rw [← List.length_map (·.id)]
  unfold State.strayAt
  have full : decide (s.belt.queue.length < Config.queueEntries) = false := decide_eq_false (Nat.not_lt.mpr full)
  rw [full]
  rfl

theorem strayAt_empty (empty : s.belt.queue = []) : s.strayAt k = ((s.onBelt fun q => { q with
    queue := [⟨q.nextId, s.dueAt k, (s.dueAt k).beyond Config.itemLength, some .unknown, .stray (some k) false⟩]
    nextId := q.nextId + 1 }).setEye k ⟨true, s.belt.p, some s.belt.nextId, false, false⟩).offer
      (.stray (some k) s.belt.p (s.dueAt k) ((s.dueAt k).beyond Config.itemLength) true 0) := by
  have none : overlapsFlagged s k = s := by rw [overlapsFlagged, empty]; rfl
  rw [strayAt_fits (by simp [empty]), none, State.insertNew]
  simp only [State.onBelt, empty]
  rfl

theorem overlapsFlagged_nextId (s : State) (k : Pos) : (overlapsFlagged s k).belt.nextId = s.belt.nextId := by
  have same := flagAll_entries s .overlap ((s.belt.queue.filter (overlapped s k)).map (·.id))
  exact (congrArg Belt.nextId same.belt :)

/-- What the stray overlaps is flagged, and no other entry. -/
theorem overlapsFlagged_stretches (apart : (s.belt.queue.map (·.id)).Nodup) (there : e ∈ s.belt.queue) :
    ∃ q ∈ (overlapsFlagged s k).belt.queue, q.id = e.id ∧ q.front = e.front ∧ q.tail = e.tail ∧
      q.flag = if overlapped s k e = true then some .overlap else e.flag := by
  obtain ⟨q, stands, same⟩ := flagAll_stretches apart .overlap ((s.belt.queue.filter (overlapped s k)).map (·.id)) there
  have named : (e.id ∈ (s.belt.queue.filter (overlapped s k)).map (·.id) ∧ e.flag = none) ↔ overlapped s k e = true := by
    refine ⟨fun ⟨named, _⟩ => ?_, fun hit => ⟨List.mem_map_of_mem (List.mem_filter.mpr ⟨there, hit⟩), ?_⟩⟩
    · obtain ⟨o, found, name⟩ := List.mem_map.mp named
      obtain ⟨stood, hit⟩ := List.mem_filter.mp found
      exact List.inj_on_of_nodup_map apart stood there name ▸ hit
    · exact Option.isNone_iff_eq_none.mp (Bool.and_eq_true_iff.mp hit).1
  simp only [stretch, flaggedIf, Prod.mk.injEq] at same
  obtain ⟨name, front, tail, flag⟩ := same
  exact ⟨q, stands, name, front, tail, flag.trans (if_congr named rfl rfl)⟩

theorem overlapsFlagged_length (s : State) (k : Pos) :
    (overlapsFlagged s k).belt.queue.length = s.belt.queue.length := (flagAll_entries s _ _).length

/-- The stray takes a place of the queue and the next name while the queue has room. -/
theorem strayAt_inserts (fits : s.belt.queue.length < 24) : ∃ q, (s.strayAt k).belt.queue = q ∧
    q.Perm (⟨s.belt.nextId, s.dueAt k, (s.dueAt k).beyond Config.itemLength, some .unknown, .stray (some k) false⟩ ::
      (overlapsFlagged s k).belt.queue) ∧ (s.strayAt k).belt.nextId = s.belt.nextId + 1 := by
  rw [strayAt_fits fits, ← overlapsFlagged_nextId s k]
  exact ⟨_, rfl, State.insertEntry_perm _ _ _, rfl⟩

theorem strayAt_leaves (full : 24 ≤ s.belt.queue.length) :
    (s.strayAt k).belt.queue = (overlapsFlagged s k).belt.queue ∧ (s.strayAt k).belt.nextId = s.belt.nextId := by
  rw [strayAt_full full]
  exact ⟨rfl, overlapsFlagged_nextId s k⟩

theorem strayAt_link (s : State) (k : Pos) : (s.strayAt k).link =
    (if decide (s.belt.queue.length < 24) then s.link else s.link.offer .queueFull).offer (.stray (some k) s.belt.p
      (s.dueAt k) ((s.dueAt k).beyond Config.itemLength) (decide (s.belt.queue.length < 24))
        (s.belt.queue.filter (overlapped s k)).length) := by
  have flagged : (overlapsFlagged s k).link = s.link := flagAll_link s _ _
  obtain fits | full := Nat.lt_or_ge s.belt.queue.length 24
  · rw [strayAt_fits fits, decide_eq_true fits, if_pos rfl, ← flagged]
    rfl
  · rw [strayAt_full full, decide_eq_false (Nat.not_lt.mpr full), if_neg Bool.false_ne_true, ← flagged]
    rfl

/-! ## What an edge at an induct eye leaves alone -/

theorem inducted_edge (s : State) (k : Pos) (e : Entry) (n : Nat) (others : List Entry) :
    EdgeFrame s (s.belt.eyes.set k ⟨true, s.belt.p, some e.id, false, false⟩) s.belt.applicator
      (inducted s k e n others) := by
  have queued : EdgeFrame s s.belt.eyes s.belt.applicator
      (s.onBelt fun b => { b with queue := insertEntry b.p (inductedItem s k e n) others }) :=
    (EdgeFrame.refl s).onBelt rfl rfl rfl rfl
  have placed := queued.setEye k ⟨true, s.belt.p, some e.id, false, false⟩
  refine (placed.line (State.onItem_frame _ n _)).line (.viaRelease _ _ fun token => ?_)
  split
  · exact Release.tokenLaw_endLit _ token
  · exact token

theorem induct_edge (s : State) (k : Pos) (e : Entry) (n : Nat) :
    EdgeFrame s (s.belt.eyes.set k ⟨true, s.belt.p, some e.id, false, false⟩) s.belt.applicator (s.induct k e n) := by
  have placed := inducted_edge s k e n (s.belt.queue.filter fun o => o.id != e.id)
  cases flag : e.flag with
  | none =>
    rw [induct_free rfl flag]
    exact placed.line (State.displace_frame _)
  | some r =>
    rw [induct_flagged rfl flag]
    exact ((placed.line (State.onItem_frame _ _ _)).line (State.setLabel_frame _ _ _)).line (State.displace_frame _)

theorem strayAt_edge (s : State) (k : Pos) : EdgeFrame s (s.belt.eyes.set k ⟨true, s.belt.p,
    if decide (s.belt.queue.length < 24) then some s.belt.nextId else none, false, false⟩) s.belt.applicator
      (s.strayAt k) := by
  have flagged : EdgeFrame s s.belt.eyes s.belt.applicator (overlapsFlagged s k) :=
    (EdgeFrame.refl s).line (s.flagAll_frame _ _)
  obtain fits | full := Nat.lt_or_ge s.belt.queue.length 24
  · rw [strayAt_fits fits, if_pos (decide_eq_true fits)]
    exact ((flagged.insertNew _ _ _ _).setEye k _).offer _
  · rw [strayAt_full full, if_neg (by simpa using full)]
    exact ((flagged.offer _).setEye k _).offer _

/-- Whatever a front edge finds, the eye is BLOCKED at P. -/
theorem inductFront_edge (s : State) (k : Pos) : ∃ id passing,
    EdgeFrame s (s.belt.eyes.set k ⟨true, s.belt.p, id, passing, false⟩) s.belt.applicator (s.inductFront k) := by
  unfold State.inductFront
  split
  · exact ⟨_, _, (EdgeFrame.refl s).setEye k _⟩
  · split
    · exact ⟨_, _, (induct_edge s k _ _).settle s⟩
    · exact ⟨_, _, (strayAt_edge s k).settle s⟩

/-! ## Trailing edges (R146, R148) -/

theorem inductEyeTrailingEdge_eq (running : s.running = true) (blocked : (s.belt.eyes.get k).blocked = true) :
    exec (.inductEyeTrailingEdge k) s = .next (s.inductTrailing k) := by
  show Host.Outcome.next (if !(s.belt.eyes.get k).blocked then s else if s.running then _ else _) = _
  rw [if_neg (by simp [blocked]), if_pos running]

theorem inductTrailing_clears (none : (s.belt.eyes.get k).entry = none ∨ (s.belt.eyes.get k).passing = true) :
    s.inductTrailing k = s.setEye k (State.clearedEye (s.belt.eyes.get k)) := by
  unfold State.inductTrailing
  dsimp only
  split
  · rename_i id entry
    exact if_pos (none.resolve_left fun gone => by cases entry.symm.trans gone)
  · rfl

theorem inductTrailing_measures {id : Nat} (entry : (s.belt.eyes.get k).entry = some id)
    (placed : (s.belt.eyes.get k).passing = false) : s.inductTrailing k =
      State.settle s ((s.setEye k (State.clearedEye (s.belt.eyes.get k))).measure (s.belt.eyes.get k) id) := by
  rw [State.inductTrailing, entry]
  exact if_neg (ne_true_of_eq_false placed)

/-! ## The applicator eye (R147, R148) -/

section
variable (running : s.running = true)
include running

theorem applicatorEyeFrontEdge_eq (clear : s.belt.applicator.blocked = false) :
    exec .applicatorEyeFrontEdge s = .next s.applicatorFront := by
  show Host.Outcome.next (if s.belt.applicator.blocked then s else if s.running then _ else _) = _
  rw [if_neg (ne_true_of_eq_false clear), if_pos running]

theorem applicatorEyeTrailingEdge_eq (blocked : s.belt.applicator.blocked = true) :
    exec .applicatorEyeTrailingEdge s = .next s.applicatorTrailing := by
  show Host.Outcome.next (if !s.belt.applicator.blocked then s else if s.running then _ else _) = _
  rw [if_neg (by simp [blocked]), if_pos running]

end

theorem removeMissing_stays (due : ∀ e, s.head = some e → ¬ahead (e.front.beyond s.geo.tol) s.belt.p < 0) :
    State.removeMissing (n + 1) s = s := by
  unfold State.removeMissing
  split
  · rfl
  · rename_i e head
    exact if_neg (due e head)

theorem removeMissing_drops (head : s.head = some e) (late : ahead (e.front.beyond s.geo.tol) s.belt.p < 0) :
    State.removeMissing (n + 1) s = State.removeMissing n (s.dropMissing e) := by
  rw [State.removeMissing, head]
  exact if_pos late

theorem unknownObject_fits (fits : s.belt.queue.length < 24) : s.unknownObject =
    ((s.insertNew s.belt.p (s.belt.p.beyond Config.itemLength) (some .unknown) (.stray none true)).blockApplicator
      (some s.belt.nextId)).offer (.stray none s.belt.p s.belt.p (s.belt.p.beyond Config.itemLength) true 0) :=
  if_pos fits

theorem unknownObject_full (full : 24 ≤ s.belt.queue.length) : s.unknownObject =
    ((s.blockApplicator none).offer .queueFull).offer
      (.stray none s.belt.p s.belt.p (s.belt.p.beyond Config.itemLength) false 0) :=
  if_neg (Nat.not_lt.mpr full)

/-- The head as it is after the heads that should have arrived are removed. -/
theorem applicatorFront_matches {u : State} (removed : State.removeMissing s.belt.queue.length s = u)
    (head : u.head = some e) (near : ahead e.front s.belt.p ≤ s.geo.tol) :
    s.applicatorFront = State.settle s (u.matchHead e) := by
  subst removed
  rw [State.applicatorFront, head]
  exact congrArg (State.settle s) (if_pos near)

theorem applicatorFront_unknown {u : State} (removed : State.removeMissing s.belt.queue.length s = u)
    (far : ∀ e, u.head = some e → ¬ahead e.front s.belt.p ≤ s.geo.tol) :
    s.applicatorFront = State.settle s u.unknownObject := by
  subst removed
  refine congrArg (State.settle s) ?_
  split
  · rename_i e head
    exact if_neg (far e head)
  · rfl

theorem applicatorFront_edge (s : State) : ∃ id,
    EdgeFrame s s.belt.eyes ⟨true, s.belt.p, id, false, false⟩ s.applicatorFront := by
  have removed : EdgeFrame s s.belt.eyes s.belt.applicator (State.removeMissing s.belt.queue.length s) :=
    (EdgeFrame.refl s).line (StepLaws.removeMissing_frame _ s)
  have unknown (u : State) (frame : EdgeFrame s s.belt.eyes s.belt.applicator u) : ∃ id,
      EdgeFrame s s.belt.eyes ⟨true, s.belt.p, id, false, false⟩ u.unknownObject := by
    obtain fits | full := Nat.lt_or_ge u.belt.queue.length 24
    · rw [unknownObject_fits fits]
      exact ⟨_, ((frame.insertNew _ _ _ _).blockApplicator _).offer _⟩
    · rw [unknownObject_full full]
      exact ⟨_, ((frame.blockApplicator _).offer _).offer _⟩
  have heads (u : State) (frame : EdgeFrame s s.belt.eyes s.belt.applicator u) (e : Entry) :
      EdgeFrame s s.belt.eyes ⟨true, s.belt.p, some e.id, false, false⟩ (u.matchHead e) := by
    have marked := (frame.line (u.onEntry_frame e.id _ Entry.asMatched_id)).blockApplicator (some e.id)
    exact .ite (marked.line (State.matchLabel_frame _ e)) marked
  obtain ⟨id, stray⟩ := unknown _ removed
  unfold State.applicatorFront
  dsimp only
  split
  · rename_i e head
    split
    · exact ⟨_, (heads _ removed e).settle s⟩
    · exact ⟨id, stray.settle s⟩
  · exact ⟨id, stray.settle s⟩

/-- A trailing edge leaves a matched entry as it is (log 60). -/
theorem applicatorTrailing_clears (other : ∀ id e, s.belt.applicator.entry = some id → s.findEntry id = some e →
    e.itemNumber?.isSome = true ∨ e.origin.isSome = true) :
    s.applicatorTrailing = s.onBelt fun b => { b with applicator := State.clearedEye s.belt.applicator } := by
  unfold State.applicatorTrailing
  dsimp only
  split
  · rename_i e found
    obtain ⟨id, entry, found⟩ := Option.bind_eq_some_iff.mp found
    exact if_pos (other id e entry found)
  · rfl

theorem applicatorTrailing_measures {id : Nat} {m : Bool} (entry : s.belt.applicator.entry = some id)
    (found : s.findEntry id = some e) (stray : e.body = .stray none m) : s.applicatorTrailing = State.settle s
      ((s.onBelt fun b => { b with applicator := State.clearedEye s.belt.applicator }).measure s.belt.applicator id) := by
  rw [State.applicatorTrailing, entry, Option.bind_some, found, ← findEntry_id found]
  exact if_neg (by simp [Entry.itemNumber?, Entry.origin, stray])

end Sys2Proof.Machine.EyeEdges
end

section
/-! PROOFS of 07_belt_drive_and_tracking.md: the statement about the edges at the eyes (R121, R143 to R148), put
together from what each edge finds. -/

namespace Sys2Proof.Machine.EyeStatement

open LineOperations LabelsAndFlags AccountLaws EyeFrames EyeEdges

variable {s : State}

/-! ## What the applicator finds (R147, R148, R176) -/

/-- The register entry of an item closed MISSING. -/
def missed (s : State) (n : Nat) (r : RegEntry) : State :=
  (s.onItems fun m => { m with
    register := m.register.eraseP (fun q => q.number == n), missing := m.missing + 1 }).offer
      (.itemClosed n r.position .missing r.label (r.result.total.getD 0))

theorem labelOf_missed {e : Entry} (there : s.findEntry e.id = some e) (n : Nat) (r : RegEntry) :
    (missed s n r).labelOf e.id = e.label? := labelOf_eq (s := missed s n r) there

/-- An unmatched ITEM that should have arrived is closed, its label lost, and it leaves the queue. -/
theorem dropMissing_item {e : Entry} {n : Nat} {r : RegEntry} (item : e.itemNumber? = some n)
    (found : s.findItem n = some r) : s.dropMissing e = ((missed s n r).loseLabel e.id).removeEntry e.id := by
  rw [State.dropMissing, item]
  dsimp only
  rw [closeItem_eq found]
  rfl

theorem dropMissing_stray {e : Entry} (other : e.itemNumber? = none) : s.dropMissing e = s.removeEntry e.id := by
  rw [State.dropMissing, other]

/-- The sole ITEM of the queue, matched with its label on the pad, arms the tamp. -/
theorem matchHead_sole {e : Entry} {n : Nat} {o : Pos} {l : Option Int} (sole : s.belt.queue = [e])
    (body : e.body = .item n o l .presented false false) (free : e.flag = none) (pad : s.label.pad = .holding e.id) :
    s.matchHead e = (s.onBelt fun q => { q with
      queue := [{ e with body := .item n o l .presented true false }]
      applicator := ⟨true, s.belt.p, some e.id, false, false⟩ }).onLabel fun u => { u with
        tamp := .armed e.id (s.belt.p + BitVec.ofNat 32 s.settings.host.geo.aOff) } := by
  obtain ⟨id, front, tail, flag, body'⟩ := e
  cases body
  cases free
  have marked : (s.onEntry id Entry.asMatched).blockApplicator (some id) = s.onBelt fun q => { q with
      queue := [⟨id, front, tail, none, .item n o l .presented true false⟩]
      applicator := ⟨true, s.belt.p, some id, false, false⟩ } := by
    simp only [State.onEntry, State.blockApplicator, State.onBelt, sole, List.map_cons, List.map_nil, if_true]
    rfl
  have item : s.matchHead ⟨id, front, tail, none, .item n o l .presented false false⟩ =
      ((s.onEntry id Entry.asMatched).blockApplicator (some id)).matchLabel
        ⟨id, front, tail, none, .item n o l .presented false false⟩ := by
    unfold State.matchHead
    exact if_pos (by rfl)
  rw [item, marked]
  refine matchLabel_armed rfl ?_ pad
  exact labelOf_eq (e := ⟨id, front, tail, none, .item n o l .presented true false⟩)
    (List.find?_cons_of_pos (p := fun e : Entry => e.id == id) (beq_self_eq_true id))

theorem unknownObject_empty (empty : s.belt.queue = []) : s.unknownObject = (s.onBelt fun q => { q with
    queue := [⟨q.nextId, s.belt.p, s.belt.p.beyond Config.itemLength, some .unknown, .stray none true⟩]
    nextId := q.nextId + 1, applicator := ⟨true, s.belt.p, some s.belt.nextId, false, false⟩ }).offer
      (.stray none s.belt.p s.belt.p (s.belt.p.beyond Config.itemLength) true 0) := by
  rw [unknownObject_fits (by simp [empty]), State.insertNew]
  simp only [State.onBelt, State.blockApplicator, empty]
  rfl

/-- An edge at an eye that already shows it changes nothing. -/
theorem inductEyeFrontEdge_again {k : Pos} (blocked : (s.belt.eyes.get k).blocked = true) :
    exec (.inductEyeFrontEdge k) s = .next s := congrArg Host.Outcome.next (if_pos blocked)

theorem inductEyeTrailingEdge_again {k : Pos} (clear : (s.belt.eyes.get k).blocked = false) :
    exec (.inductEyeTrailingEdge k) s = .next s := congrArg Host.Outcome.next (if_pos (by simp [clear]))

theorem applicatorEyeFrontEdge_again (blocked : s.belt.applicator.blocked = true) :
    exec .applicatorEyeFrontEdge s = .next s := congrArg Host.Outcome.next (if_pos blocked)

theorem applicatorEyeTrailingEdge_again (clear : s.belt.applicator.blocked = false) :
    exec .applicatorEyeTrailingEdge s = .next s := congrArg Host.Outcome.next (if_pos (by simp [clear]))

/-- What an edge leaves to the line, and that the displacement asks for a label on the pad. -/
theorem settled_displaced {edge : Instr} {u : State} (pads : u.label.pad = s.label.pad)
    (inducts : exec edge s = .next (State.settle s u.displace)) :
    exec edge s = .next (State.settle s u.displace) ∧
      ((∀ x, s.label.pad ≠ .holding x) → exec edge s = .next (State.settle s u)) :=
  ⟨inducts, fun free => by rw [inducts, displace_free (pads ▸ free)]⟩

/-- Settles O46: each edge by the object it finds, and what it leaves alone by the frames of what follows. -/
theorem eyeEdges : Obligations.EyeEdges := by
  refine ⟨fun s k running => ⟨inductEyeFrontEdge_again, fun clear => ⟨fun e passing => ?passes, ?inducts,
    fun empty => ?alone, ?strays, ?frame⟩, inductEyeTrailingEdge_again, fun blocked =>
      ⟨fun none => ?clears, fun id entry placed => ?measures⟩⟩,
    fun s running => ⟨applicatorEyeFrontEdge_again, fun clear => ⟨fun empty => ?nothing,
      fun e n o l sole body free pad due near => ?sole, fun u removed => ⟨fun far => ?unknown,
        fun e head near => ⟨fun other => ?stray, fun item => ?matched⟩⟩, ?applicatorFrame⟩,
      applicatorEyeTrailingEdge_again, fun blocked => ⟨fun other => ?leaves, fun id e entry found stray => ?length⟩⟩,
    insertEntry_split, fun s => ⟨rfl, unknownObject_fits, unknownObject_full, fun n =>
      ⟨removeMissing_stays, fun e => removeMissing_drops⟩, fun e => ⟨fun other => ?removes, fun n r item found there =>
        ⟨fun label => ?skips, fun j label job own => ?wastes, fun label pad => ?ejects, fun label => ?final⟩⟩⟩⟩
  case passes => exact inductEyeFrontEdge_passing running clear passing
  case inducts =>
    intro a z id f t flag p0 n queue before apart passing
    have reserved := reservationAt_first queue before (by rfl)
    have left := filter_split (queue ▸ apart)
    rw [← queue] at left
    have inducts := inductEyeFrontEdge_inducts running clear passing reserved
    refine ⟨fun free => ?_, fun r flagged => ?_⟩
    · rw [induct_free left free] at inducts
      exact settled_displaced (by rfl) inducts
    · rw [induct_flagged left flagged] at inducts
      exact settled_displaced (setLabel_pad _ _ _) inducts
  case alone =>
    have passing : s.passingAt k = none := by rw [State.passingAt, empty]; rfl
    have reserved : s.reservationAt k = none := by rw [State.reservationAt, empty]; rfl
    rw [inductEyeFrontEdge_strays running clear passing reserved, strayAt_empty empty]
    rfl
  case strays =>
    intro passing free apart
    have strays := inductEyeFrontEdge_strays running clear passing (reservationAt_none free)
    refine ⟨_, strays, (strayAt_edge s k).eyes, fun e there => ?_, fun fits => ?_, fun full => ?_, strayAt_link s k⟩
    · obtain ⟨q, stands, same⟩ := overlapsFlagged_stretches apart there
      refine ⟨q, ?_, same⟩
      obtain fits | full := Nat.lt_or_ge s.belt.queue.length 24
      · obtain ⟨_, rfl, perm, -⟩ := strayAt_inserts (k := k) fits
        exact perm.mem_iff.mpr (List.mem_cons_of_mem _ stands)
      · exact (strayAt_leaves full).1 ▸ stands
    · obtain ⟨_, rfl, perm, names⟩ := strayAt_inserts (k := k) (of_decide_eq_true fits)
      refine ⟨?_, names, perm.mem_iff.mpr List.mem_cons_self⟩
      rw [perm.length_eq, List.length_cons, overlapsFlagged_length]
    · obtain ⟨queue, names⟩ := strayAt_leaves (k := k) (Nat.not_lt.mp (of_decide_eq_false full))
      exact ⟨by rw [queue, overlapsFlagged_length], names⟩
  case frame =>
    obtain ⟨id, passing, frame⟩ := inductFront_edge s k
    refine ⟨_, inductEyeFrontEdge_eq running clear, frame.off, ?_, ?_, fun j other => ?_, frame.p, frame.setpoint⟩
    · rw [frame.eyes, Six.get_set_self]
    · rw [frame.eyes, Six.get_set_self]
    · rw [frame.eyes, Six.get_set_ne _ _ other]
  case clears =>
    rw [inductEyeTrailingEdge_eq running blocked, inductTrailing_clears none]
    rfl
  case measures =>
    rw [inductEyeTrailingEdge_eq running blocked, inductTrailing_measures entry placed]
    rfl
  case nothing =>
    have removed : State.removeMissing s.belt.queue.length s = s := by rw [empty]; rfl
    rw [applicatorEyeFrontEdge_eq running clear, applicatorFront_unknown removed, unknownObject_empty empty]
    · rfl
    · simp [State.head, empty]
  case sole =>
    have head : s.head = some e := by simp [State.head, sole, Entry.isReservation, Entry.matched, body]
    have removed : State.removeMissing s.belt.queue.length s = s := by
      rw [sole]
      refine removeMissing_stays fun o other => ?_
      cases head.symm.trans other
      exact due
    rw [applicatorEyeFrontEdge_eq running clear, applicatorFront_matches removed head near,
      matchHead_sole sole body free pad]
  case unknown =>
    have frame := StepLaws.removeMissing_frame s.belt.queue.length s
    rw [removed] at frame
    rw [applicatorEyeFrontEdge_eq running clear, applicatorFront_unknown removed fun e head => ?_]
    have far := far e head
    rw [frame.p] at far
    exact Int.not_le.mpr far
  case stray =>
    have frame := StepLaws.removeMissing_frame s.belt.queue.length s
    rw [removed] at frame
    rw [applicatorEyeFrontEdge_eq running clear, applicatorFront_matches removed head (frame.p ▸ near), State.matchHead,
      other, State.blockApplicator, ← frame.p]
    rfl
  case matched =>
    have frame := StepLaws.removeMissing_frame s.belt.queue.length s
    rw [removed] at frame
    rw [applicatorEyeFrontEdge_eq running clear, applicatorFront_matches removed head (frame.p ▸ near), State.matchHead,
      if_pos item, State.blockApplicator, ← frame.p]
    rfl
  case applicatorFrame =>
    obtain ⟨id, frame⟩ := applicatorFront_edge s
    refine ⟨_, applicatorEyeFrontEdge_eq running clear, frame.off, ?_, ?_, frame.eyes, frame.p, frame.setpoint⟩
    · rw [frame.applicator]
    · rw [frame.applicator]
  case leaves =>
    rw [applicatorEyeTrailingEdge_eq running blocked, applicatorTrailing_clears other]
    rfl
  case length =>
    rw [applicatorEyeTrailingEdge_eq running blocked, applicatorTrailing_measures entry found stray]
    rfl
  case removes =>
    rw [dropMissing_stray other, removeEntry_eq]
  case skips =>
    rw [dropMissing_item item found, removeEntry_eq, loseLabel_notStarted ((labelOf_missed there n r).trans label)]
    rfl
  case wastes =>
    rw [dropMissing_item item found, removeEntry_eq,
      loseLabel_printing (s := missed s n r) ((labelOf_missed there n r).trans label) job own]
    rfl
  case ejects =>
    rw [dropMissing_item item found, removeEntry_eq,
      loseLabel_presented (s := missed s n r) ((labelOf_missed there n r).trans label) pad]
    rfl
  case final =>
    rw [dropMissing_item item found, removeEntry_eq, loseLabel_stays (.inr ?_)]
    · rfl
    · rw [labelOf_missed there]
      exact label

end Sys2Proof.Machine.EyeStatement
end

section
/-! PROOFS of 07_belt_drive_and_tracking.md: what flags leave of entries, register and tamp (R140, R183), what follows
on the line while the drive stands (R127, R170, log 11), and what the commands of the belt leave alone. -/

namespace Sys2Proof.Machine.LineStands

open LineOperations LineSettled AccountLaws EyeFrames

variable {s t u : State}

/-! ## What flags leave alone -/

/-- An entry by its name and whether it is a RESERVATION. -/
def kind (e : Entry) : Nat × Bool := (e.id, e.isReservation)

/-- A register entry by its number, its state and its attempts. -/
def account (q : RegEntry) : Nat × RegState × Nat := (q.number, q.state, q.attempts)

theorem kind_withLabel (l : LabelState) (e : Entry) : kind (e.withLabel l) = kind e := by
  obtain ⟨_, _, _, _, body⟩ := e
  cases body <;> rfl

theorem kind_asRetireDue (e : Entry) : kind e.asRetireDue = kind e := by
  obtain ⟨_, _, _, _, body⟩ := e
  cases body <;> rfl

/-- From `s` to `t` labels and flags change: no entry, no register state, no release, and of the tamp at most that it
is disarmed. -/
structure Relabels (s t : State) : Prop where
  belt : t.belt = { s.belt with queue := t.belt.queue }
  kinds : t.belt.queue.map kind = s.belt.queue.map kind
  accounts : t.items.register.map account = s.items.register.map account
  release : t.release = s.release
  tamp : (∀ e p, s.label.tamp ≠ .armed e p) → t.label.tamp = s.label.tamp

namespace Relabels

theorem refl (s : State) : Relabels s s := ⟨rfl, rfl, rfl, rfl, fun _ => rfl⟩

theorem andThen (a : Relabels s t) (b : Relabels t u) : Relabels s u where
  belt := by rw [b.belt, a.belt]
  kinds := b.kinds.trans a.kinds
  accounts := b.accounts.trans a.accounts
  release := b.release.trans a.release
  tamp free := by
    have same := a.tamp free
    exact (b.tamp (same ▸ free)).trans same

theorem ite {c : Prop} [Decidable c] (a : Relabels s t) (b : Relabels s u) : Relabels s (if c then t else u) := by
  split <;> assumption

theorem onEntry (s : State) (id : Nat) {f : Entry → Entry} (keeps : ∀ e, kind (f e) = kind e) :
    Relabels s (s.onEntry id f) := by
  refine ⟨rfl, ?_, rfl, rfl, fun _ => rfl⟩
  simp only [State.onEntry, State.onBelt, List.map_map]
  refine List.map_congr_left fun e _ => ?_
  dsimp only [Function.comp]
  split
  · exact keeps e
  · rfl

/-- The belt, the release and the tamp are as they were, and no register entry changes its state. -/
theorem same (belt : t.belt = s.belt) (accounts : t.items.register.map account = s.items.register.map account)
    (release : t.release = s.release) (tamp : t.label.tamp = s.label.tamp) : Relabels s t :=
  ⟨by rw [belt], by rw [belt], accounts, release, fun _ => tamp⟩

/-- An entry of `s` stands in `t` under its name, as a RESERVATION or not. -/
theorem mem (a : Relabels s t) {e : Entry} (there : e ∈ t.belt.queue) : ∃ o ∈ s.belt.queue, kind o = kind e :=
  List.mem_map.mp (a.kinds ▸ List.mem_map_of_mem there)

theorem ids (a : Relabels s t) : t.belt.queue.map (·.id) = s.belt.queue.map (·.id) := by
  simpa [List.map_map, Function.comp_def, kind] using congrArg (List.map Prod.fst) a.kinds

/-- The entries that are no RESERVATION keep their names. -/
theorem placed_ids (a : Relabels s t) : (t.belt.queue.filter fun e => !e.isReservation).map (·.id) =
    (s.belt.queue.filter fun e => !e.isReservation).map (·.id) := by
  have same := congrArg (fun l => (l.filter fun x => !x.2).map Prod.fst) a.kinds
  simpa [List.filter_map, List.map_map, Function.comp_def, kind] using same

end Relabels

theorem onItem_accounts (s : State) (n : Nat) {f : RegEntry → RegEntry} (keeps : ∀ q, account (f q) = account q) :
    (s.onItem n f).items.register.map account = s.items.register.map account := by
  simp only [State.onItem, State.onItems, List.map_map]
  refine List.map_congr_left fun q _ => ?_
  dsimp only [Function.comp]
  split
  · exact keeps q
  · rfl

theorem setLabel_relabels (s : State) (id : Nat) (l : LabelState) : Relabels s (s.setLabel id l) := by
  unfold State.setLabel
  split
  · exact .refl s
  · exact (Relabels.onEntry s id (kind_withLabel l)).andThen (.same rfl (onItem_accounts _ _ fun _ => rfl) rfl rfl)

theorem eject_relabels (s : State) (owner : Option Nat) (l : LabelState) : Relabels s (s.eject owner l) := by
  cases owner with
  | none => exact .same rfl rfl rfl rfl
  | some id =>
    exact (Relabels.ite (c := (s.labelOf id).any (fun l => !finalLabel l) = true) (setLabel_relabels s id l)
      (.refl s)).andThen (.same rfl rfl rfl rfl)

theorem disarm_relabels (s : State) (id : Nat) : Relabels s (s.disarm id) := by
  rw [disarm_eq]
  refine ⟨rfl, rfl, rfl, rfl, fun free => ?_⟩
  show (match s.label.tamp with
    | .armed a p => if a = id then .retracted else .armed a p
    | t => t) = s.label.tamp
  cases tamp : s.label.tamp with
  | armed e p => exact absurd tamp (free e p)
  | retracted | extend | dwell | retract => rfl

theorem loseLabel_relabels (s : State) (id : Nat) : Relabels s (s.loseLabel id) := by
  unfold State.loseLabel
  split
  · exact setLabel_relabels s id _
  · exact (setLabel_relabels s id _).andThen (.same rfl rfl rfl rfl)
  · exact .ite ((eject_relabels s (some id) .wasted).andThen (disarm_relabels _ _)) (.refl s)
  all_goals exact .refl s

theorem flagEntry_relabels (s : State) (r : RejectReason) (id : Nat) : Relabels s (s.flagEntry r id) := by
  unfold State.flagEntry
  split
  · exact .refl s
  · refine .ite (.refl s) ?_
    have flagged := Relabels.onEntry s id (f := fun e => { e with flag := some r }) fun _ => rfl
    have reported (t : State) (n : Nat) : Relabels t (t.onItem n fun q => { q with reject := some r }) :=
      .same rfl (onItem_accounts t n fun _ => rfl) rfl rfl
    dsimp only
    split
    · exact flagged
    · exact (flagged.andThen (reported _ _)).andThen (loseLabel_relabels _ id)

theorem flagAll_relabels (s : State) (r : RejectReason) (ids : List Nat) : Relabels s (s.flagAll r ids) := by
  unfold State.flagAll
  induction ids generalizing s with
  | nil => exact .refl s
  | cons id rest ih => exact (flagEntry_relabels s r id).andThen (ih _)

/-- Flagging the unflagged entries that meet `f` leaves every entry its name, kind and stretch (R140). -/
theorem flagAll_unflagged (apart : (s.belt.queue.map (·.id)).Nodup) (r : RejectReason) (f : Entry → Bool) {e : Entry}
    (there : e ∈ s.belt.queue) : ∃ q ∈ (s.flagAll r (s.unflagged f)).belt.queue, kind q = kind e ∧ q.front = e.front ∧
      q.tail = e.tail ∧ q.flag = if e.flag = none ∧ f e = true then some r else e.flag := by
  obtain ⟨q, stands, same⟩ := flagAll_stretches apart r (s.unflagged f) there
  have named : (e.id ∈ s.unflagged f ∧ e.flag = none) ↔ e.flag = none ∧ f e = true := by
    refine ⟨fun ⟨named, free⟩ => ⟨free, ?_⟩, fun ⟨free, hit⟩ =>
      ⟨List.mem_map_of_mem (List.mem_filter.mpr ⟨there, by simp [free, hit]⟩), free⟩⟩
    obtain ⟨o, found, name⟩ := List.mem_map.mp named
    obtain ⟨stood, hit⟩ := List.mem_filter.mp found
    exact List.inj_on_of_nodup_map apart stood there name ▸ (Bool.and_eq_true_iff.mp hit).2
  simp only [stretch, flaggedIf, Prod.mk.injEq] at same
  obtain ⟨name, front, tail, flag⟩ := same
  obtain ⟨o, stood, kinds⟩ := (flagAll_relabels s r (s.unflagged f)).mem stands
  have own : o = e := List.inj_on_of_nodup_map apart stood there ((congrArg Prod.fst kinds).trans name)
  exact ⟨q, stands, own ▸ kinds.symm, front, tail, flag.trans (if_congr named rfl rfl)⟩

/-! ## RESERVATIONs dropped (R125, R132, R169) -/

theorem endLit_lit (r : Release) : r.endLit.lit = none := by
  unfold Release.endLit
  dsimp only
  split <;> rfl

/-- The entry of a lit release returns to AWAIT_RELEASE with one more attempt, and no other changes (R119). -/
def returned (lit : Option LitRelease) (a : Nat × RegState × Nat) : Nat × RegState × Nat :=
  if lit.any (fun l => l.item == a.1) then (a.1, .awaitRelease, bump 255 a.2.2) else a

/-- The RESERVATIONs leave the queue, the lit release ends, and its item awaits release again. -/
structure Dropped (s t : State) : Prop where
  belt : t.belt = { s.belt with queue := s.belt.queue.filter fun e => !e.isReservation }
  lit : t.release.lit = none
  accounts : t.items.register.map account = (s.items.register.map account).map (returned s.release.lit)
  link : t.link = s.link
  tamp : t.label.tamp = s.label.tamp

theorem dropReservations_dropped (s : State) : Dropped s s.dropReservations := by
  unfold State.dropReservations State.endUninducted
  simp only [State.onBelt_release]
  cases lit : s.release.lit with
  | none =>
    refine ⟨rfl, lit, ?_, rfl, rfl⟩
    rw [lit]
    exact (List.map_id'' (fun _ => rfl) _).symm
  | some l =>
    refine ⟨?_, endLit_lit _, ?_, rfl, rfl⟩
    · have none_left : ∀ e ∈ s.belt.queue.filter (fun e => !e.isReservation), (match e.body with
          | .reservation _ _ n => n != l.item
          | .item .. | .stray .. => true) = true := fun e there => by
        have placed := (List.mem_filter.mp there).2
        unfold Entry.isReservation at placed
        cases body : e.body <;> simp [body] at placed ⊢
      exact congrArg (fun q => { s.belt with queue := q }) (List.filter_eq_self.mpr none_left)
    · show (s.items.register.map _).map account = _
      rw [List.map_map, List.map_map, lit]
      refine List.map_congr_left fun q _ => ?_
      by_cases own : q.number = l.item
      · simp [account, returned, own]
      · simp [account, returned, own, Ne.symm own]

/-! ## What follows while the drive stands (log 11) -/

/-- From `s` to `t` the belt keeps everything but its queue, in which entries leave and change, but no RESERVATION
comes; the lit release stays. -/
structure Stands (s t : State) : Prop where
  belt : t.belt = { s.belt with queue := t.belt.queue }
  kinds : (t.belt.queue.map kind).Sublist (s.belt.queue.map kind)
  lit : t.release.lit = s.release.lit

namespace Stands

theorem refl (s : State) : Stands s s := ⟨rfl, .refl _, rfl⟩

theorem same (belt : t.belt = s.belt) (lit : t.release.lit = s.release.lit) : Stands s t :=
  ⟨by rw [belt], by rw [belt], lit⟩

theorem andThen (a : Stands s t) (b : Stands t u) : Stands s u :=
  ⟨by rw [b.belt, a.belt], b.kinds.trans a.kinds, b.lit.trans a.lit⟩

theorem ite {c : Prop} [Decidable c] (a : Stands s t) (b : Stands s u) : Stands s (if c then t else u) := by
  split <;> assumption

theorem ofLabels (a : Relabels s t) : Stands s t := ⟨a.belt, a.kinds ▸ .refl _, by rw [a.release]⟩

/-- An entry that is left stood before, as a RESERVATION or not. -/
theorem mem (a : Stands s t) {e : Entry} (there : e ∈ t.belt.queue) : ∃ o ∈ s.belt.queue, kind o = kind e :=
  List.mem_map.mp (a.kinds.subset (List.mem_map_of_mem there))

theorem removeEntry (s : State) (id : Nat) : Stands s (s.removeEntry id) :=
  ⟨rfl, List.filter_sublist.map _, rfl⟩

end Stands

theorem closeItem_stands (s : State) (n : Nat) (o : ItemOutcome) : Stands s (s.closeItem n o) := by
  unfold State.closeItem
  split <;> exact .same rfl rfl

theorem dropMissing_stands (s : State) (e : Entry) : Stands s (s.dropMissing e) := by
  unfold State.dropMissing
  split
  · exact .removeEntry s _
  · exact ((closeItem_stands s _ _).andThen (.ofLabels (loseLabel_relabels _ _))).andThen (.removeEntry _ _)

theorem retire_stands (s : State) (e : Entry) : Stands s (s.retire e) := by
  unfold State.retire
  split
  · exact .removeEntry s _
  · exact .ite ((closeItem_stands s _ _).andThen (.removeEntry _ _)) (dropMissing_stands s e)

theorem retireStep_stands (s : State) (id : Nat) : Stands s (s.retireStep id) := by
  unfold State.retireStep
  split
  · exact .refl s
  · exact .ite (.refl s) (.ite (.ite (.ofLabels (.onEntry s id kind_asRetireDue)) (retire_stands s _)) (.refl s))

theorem retireAll_stands (s : State) : Stands s s.retireAll := by
  unfold State.retireAll
  generalize s.belt.queue.map (·.id) = ids
  induction ids generalizing s with
  | nil => exact .refl s
  | cons id rest ih => exact (retireStep_stands s id).andThen (ih _)

theorem fireTamp_stands (s : State) : Stands s s.fireTamp := by
  unfold State.fireTamp
  split
  · exact .ite (.same rfl rfl) (.refl s)
  all_goals exact .refl s

theorem printOrder_stands (s : State) : Stands s s.printOrder := by
  unfold State.printOrder State.sendJob
  refine .ite ?_ (.refl s)
  split
  · exact .refl s
  · split
    · exact .refl s
    · exact (Stands.ofLabels (setLabel_relabels s _ _)).andThen (.same rfl rfl)

theorem divert_stands (s : State) : Stands s s.divert := .ite (.ite (.refl s) (.same rfl rfl)) (.same rfl rfl)

/-- A Release Controller that follows a drive that stands is not ROTATING (R170). -/
theorem follow_still (r : Release) : (r.follow false).state ≠ .rotating ∧ (r.follow false).lit = r.lit := by
  unfold Release.follow
  split
  · simp
  · rename_i other
    simpa using other

theorem settleRelease_stands (again : Bool) (parked : s.release.state ≠ .rotating) :
    Stands s (s.settleRelease again) := by
  unfold State.settleRelease
  split
  · rename_i rotating
    exact absurd rotating parked
  · exact .same rfl rfl
  all_goals exact .refl s

/-- Where the drive stands and waits for no label, what follows on the line leaves the drive as it is. -/
theorem settle_stands (before : State) (still : s.belt.drive.moving = false) (other : s.belt.reason ≠ .labelWait) :
    Stands s (State.settle before s) := by
  have printed : Stands s s.fireTamp.retireAll.printOrder :=
    ((fireTamp_stands s).andThen (retireAll_stands _)).andThen (printOrder_stands _)
  unfold State.settle State.settleBelt
  generalize s.fireTamp.retireAll.printOrder = u at printed
  have reason : u.belt.reason = s.belt.reason := by rw [printed.belt]
  have still : u.belt.drive.moving = false := by rw [printed.belt]; exact still
  have steady : u.belt.drive ≠ .creeping := fun creeps => by rw [creeps] at still; cases still
  rw [labelWaitRestart_stays (.inl (reason ▸ other)), judgeCreep_none (creepEntry_still still) steady]
  dsimp only
  rw [still]
  obtain ⟨parked, lit⟩ := follow_still u.release
  have followed : Stands s (u.onRelease fun r => r.follow false) := printed.andThen (.same rfl lit)
  exact (followed.andThen (settleRelease_stands _ parked)).andThen (divert_stands _)

/-! ## What the commands of the belt leave alone -/

theorem offLine_refl (s : State) : OffLine s s := by constructor <;> rfl

theorem offLine_trans (a : OffLine s t) (b : OffLine t u) : OffLine s u where
  pins := b.pins.trans a.pins
  weighing := b.weighing.trans a.weighing
  gauges := b.gauges.trans a.gauges
  tariff := b.tariff.trans a.tariff
  flash := b.flash.trans a.flash
  port := b.port.trans a.port
  cache := b.cache.trans a.cache
  rating := b.rating.trans a.rating
  settings := b.settings.trans a.settings
  time := b.time.trans a.time
  fresh := b.fresh.trans a.fresh
  pending := b.pending.trans a.pending
  slots := b.slots.trans a.slots
  pool := b.pool.trans a.pool
  issued := b.issued.trans a.issued
  lowMark := b.lowMark.trans a.lowMark
  confirmed := b.confirmed.trans a.confirmed
  account := b.account.trans a.account
  receiver := b.receiver.trans a.receiver
  part := b.part.trans a.part
  frameErrors := b.frameErrors.trans a.frameErrors
  lostRequests := b.lostRequests.trans a.lostRequests
  restartSlot := b.restartSlot.trans a.restartSlot

theorem offLine_line (b : LineFrame s t) : OffLine s t := ((EdgeFrame.refl s).line b).off

theorem offLine_belt (s : State) (f : Belt → Belt) : OffLine s (s.onBelt f) := { offLine_refl s with }

theorem offLine_held (s : State) (i : SlotId) (tag : Byte) (n : ReqName) : OffLine s (s.held i tag n) :=
  { offLine_refl s with }

theorem offLine_answer (s : State) (i : SlotId) (r : Reply) : OffLine s (s.answer i r) := by
  obtain ⟨receiver, -, part, errors, lost, restart⟩ := Link.answer_keeps s.link i r
  exact { offLine_refl s with
    receiver := receiver, part := part, frameErrors := errors, lostRequests := lost, restartSlot := restart }

theorem offLine_changeDrive (s : State) (f : Belt → Belt) : OffLine s (s.changeDrive f) := by
  unfold State.changeDrive
  dsimp only
  split
  · exact offLine_belt s f
  · exact offLine_trans (offLine_belt s f) (offLine_line (State.beltNotice_frame _))

end Sys2Proof.Machine.LineStands
end

section
/-! PROOFS of 07_belt_drive_and_tracking.md: what one encoder count does: the belt step with its high-water mark and
reversal (R124, R125), the objects that stay at an eye (R146, R148) and the release not used (R167). -/

namespace Sys2Proof.Machine.BeltSteps

open LineOperations LabelsAndFlags AccountLaws EyeFrames LineStands

variable {s t u : State}

/-! ## What a belt step leaves alone -/

/-- What the encoder, the speed window and the ramp keep of the belt. -/
def odometer (b : Belt) : Coord × BitVec 2 × Int × Int × Nat × Nat × Nat :=
  (b.p, b.sub, b.windowCount, b.measured, b.jamCount, b.runTarget, b.setpoint)

/-- `t` follows from `s` at a belt step: it is off the line as `s` is, the odometer stays, and the high-water mark is
as given. -/
structure Rolls (s : State) (high : Coord) (t : State) : Prop where
  off : OffLine s t
  odometer : odometer t.belt = odometer s.belt
  high : t.belt.high = high

namespace Rolls
variable {high : Coord}

theorem refl (s : State) : Rolls s s.belt.high s := ⟨offLine_refl s, rfl, rfl⟩

theorem line (a : Rolls s high t) (b : LineFrame t u) : Rolls s high u where
  off := offLine_trans a.off (offLine_line b)
  odometer := by
    rw [← a.odometer, BeltSteps.odometer, b.p, b.sub, b.windowCount, b.measured, b.jamCount, b.runTarget, b.setpoint]
    rfl
  high := b.high.trans a.high

theorem onBelt (a : Rolls s high t) {f : Belt → Belt} (kept : BeltSteps.odometer (f t.belt) = BeltSteps.odometer t.belt)
    {mark : Coord} (marked : (f t.belt).high = mark) : Rolls s mark (t.onBelt f) :=
  ⟨offLine_trans a.off (offLine_belt t f), kept.trans a.odometer, marked⟩

theorem ite {c : Prop} [Decidable c] (a : Rolls s high t) (b : Rolls s high u) : Rolls s high (if c then t else u) := by
  split <;> assumption

end Rolls

/-! ## The reversal (R125) -/

/-- TRACKING_LOST is sent, and every ITEM and STRAY flagged. -/
def reversed (s : State) : State :=
  let lost := s.offer (.trackingLost s.belt.p s.belt.high)
  lost.flagAll .reversed (lost.unflagged fun e => !e.isReservation)

theorem reverse_eq (s : State) : s.reverse = (reversed s).dropReservations.onBelt fun b => { b with
    eyes := b.eyes.map fun r => { r with entry := none }
    applicator := { b.applicator with entry := none }
    high := b.p } := rfl

theorem reversed_relabels (s : State) : Relabels (s.offer (.trackingLost s.belt.p s.belt.high)) (reversed s) :=
  flagAll_relabels _ _ _

theorem reverse_queue (s : State) :
    s.reverse.belt.queue = (reversed s).belt.queue.filter fun e => !e.isReservation := by
  rw [reverse_eq, State.onBelt_belt, (dropReservations_dropped (reversed s)).belt]

theorem reversed_frame (s : State) : LineFrame s (reversed s) :=
  (LineFrame.viaOffer s _).andThen (State.flagAll_frame _ _ _)

theorem reverse_rolls (s : State) : Rolls s s.belt.p s.reverse := by
  have dropped := (Rolls.refl s).line ((reversed_frame s).andThen (State.dropReservations_frame _))
  have p : (reversed s).dropReservations.belt.p = s.belt.p := congrArg Prod.fst dropped.odometer
  rw [reverse_eq]
  exact dropped.onBelt rfl p

theorem reverse_eyes (s : State) (k : Pos) : (s.reverse.belt.eyes.get k).entry = none := by
  rw [reverse_eq, State.onBelt_belt]
  exact congrArg EyeRecord.entry (Six.get_map _ _ k)

/-- The item of the lit release awaits release again, with one more attempt (R119). -/
theorem reverse_accounts (s : State) : s.reverse.items.register.map account =
    (s.items.register.map account).map (returned s.release.lit) := by
  have dropped := (dropReservations_dropped (reversed s)).accounts
  rw [(reversed_relabels s).accounts, (reversed_relabels s).release] at dropped
  exact dropped

theorem reverse_link (s : State) : s.reverse.link = s.link.offer (.trackingLost s.belt.p s.belt.high) :=
  (dropReservations_dropped (reversed s)).link.trans (flagAll_link _ _ _)

theorem reverse_ids (s : State) : s.reverse.belt.queue.map (·.id) =
    (s.belt.queue.filter fun e => !e.isReservation).map (·.id) := by
  rw [reverse_queue]
  exact (reversed_relabels s).placed_ids

section
variable (apart : (s.belt.queue.map (·.id)).Nodup)
include apart

theorem reversed_mem {e : Entry} (there : e ∈ s.belt.queue) : ∃ q ∈ (reversed s).belt.queue, kind q = kind e ∧
    q.front = e.front ∧ q.tail = e.tail ∧
      q.flag = if e.flag = none ∧ (!e.isReservation) = true then some .reversed else e.flag :=
  flagAll_unflagged (s := s.offer (.trackingLost s.belt.p s.belt.high)) apart .reversed (fun e => !e.isReservation)
    there

theorem reverse_flags {e : Entry} (there : e ∈ s.belt.queue) (placed : e.isReservation = false) :
    ∃ q ∈ s.reverse.belt.queue, q.id = e.id ∧ q.front = e.front ∧ q.tail = e.tail ∧
      q.flag = if e.flag = none then some .reversed else e.flag := by
  obtain ⟨q, stands, same, front, tail, flag⟩ := reversed_mem apart there
  have kept : q.isReservation = false := (congrArg Prod.snd same).trans placed
  rw [reverse_queue]
  refine ⟨q, List.mem_filter.mpr ⟨stands, by simp [kept]⟩, congrArg Prod.fst same, front, tail, flag.trans ?_⟩
  simp [placed]

/-- What a reversal leaves in the queue is no RESERVATION and is flagged. -/
theorem reverse_flagged {e : Entry} (there : e ∈ s.reverse.belt.queue) :
    e.isReservation = false ∧ e.flag.isSome = true := by
  rw [reverse_queue] at there
  obtain ⟨stands, placed⟩ := List.mem_filter.mp there
  have placed : e.isReservation = false := by simpa using placed
  obtain ⟨o, stood, same⟩ := (reversed_relabels s).mem stands
  obtain ⟨q, found, kinds, -, -, flag⟩ := reversed_mem apart stood
  have apart : ((reversed s).belt.queue.map (·.id)).Nodup := by rw [(reversed_relabels s).ids]; exact apart
  have own : q = e := List.inj_on_of_nodup_map apart found stands
    ((congrArg Prod.fst kinds).trans (congrArg Prod.fst same))
  have free : o.isReservation = false := (congrArg Prod.snd same).trans placed
  refine ⟨placed, ?_⟩
  rw [← own, flag]
  cases o.flag <;> simp [free]

end

/-- With nothing on the belt and no release lit, a reversal moves H to P and clears the eyes' entries. -/
theorem reverse_empty (empty : s.belt.queue = []) (dark : s.release.lit = none) :
    s.reverse = (s.onBelt fun x => { x with
      high := x.p
      eyes := x.eyes.map fun r => { r with entry := none }
      applicator := { x.applicator with entry := none } }).offer (.trackingLost s.belt.p s.belt.high) := by
  have flagged : reversed s = s.offer (.trackingLost s.belt.p s.belt.high) := by
    rw [reversed, State.unflagged, State.offer_belt, empty]
    rfl
  rw [reverse_eq, flagged, State.dropReservations, State.endUninducted, State.onBelt_release, State.offer_release, dark]
  simp only [State.onBelt, State.offer_belt, empty, List.filter_nil]
  rfl

/-! ## The high-water mark (R125) -/

/-- P lies more than 50 mm short of the high-water mark. -/
abbrev Reversal (b : Belt) : Prop := ¬(0 < ahead b.p b.high) ∧ 50 < ahead b.high b.p

/-- The high-water mark after a belt step. -/
def newHigh (b : Belt) : Coord := if 0 < ahead b.p b.high ∨ Reversal b then b.p else b.high

theorem markHigh_reversal (back : Reversal s.belt) : s.markHigh = s.reverse :=
  (if_neg back.1).trans (if_pos back.2)

theorem markHigh_follows (follows : ¬Reversal s.belt) {mark : Coord} (marked : newHigh s.belt = mark) :
    s.markHigh = s.onBelt fun x => { x with high := mark } := by
  subst marked
  unfold State.markHigh
  by_cases beyond : 0 < ahead s.belt.p s.belt.high
  · rw [if_pos beyond]
    simp only [State.onBelt, newHigh, beyond, true_or, if_true]
  · have short : ¬50 < ahead s.belt.high s.belt.p := fun short => follows ⟨beyond, short⟩
    rw [if_neg beyond]
    refine (if_neg short).trans ?_
    simp only [State.onBelt, newHigh, beyond, follows, or_self, if_false]

theorem markHigh_rolls (s : State) : Rolls s (newHigh s.belt) s.markHigh := by
  by_cases back : Reversal s.belt
  · rw [markHigh_reversal back, newHigh, if_pos (.inr back)]
    exact reverse_rolls s
  · rw [markHigh_follows back rfl]
    exact (Rolls.refl s).onBelt rfl rfl

/-! ## Objects that stay at an eye (R146, R148) -/

/-- The object at an eye has stayed beyond 1,500 mm of travel. -/
def Grows (s : State) (r : EyeRecord) : Prop :=
  r.blocked = true ∧ r.passing = false ∧ (r.grown = true ∨ 1500 < ahead s.belt.p r.front)

/-- The eye record holds an entry of the queue. -/
def Holds (s : State) (r : EyeRecord) (e : Entry) : Prop := r.entry = some e.id ∧ s.findEntry e.id = some e

theorem growing_iff (s : State) (r : EyeRecord) (e : Entry) : s.growing r = some e ↔ Grows s r ∧ Holds s r e := by
  have held : r.entry.bind s.findEntry = some e ↔ Holds s r e := by
    rw [Option.bind_eq_some_iff]
    refine ⟨fun ⟨id, entry, found⟩ => ?_, fun ⟨entry, found⟩ => ⟨e.id, entry, found⟩⟩
    rw [← findEntry_id found] at entry found
    exact ⟨entry, found⟩
  have long : (r.blocked = true ∧ (!r.passing) = true ∧
      (r.grown = true ∨ (Config.itemLength : Int) < ahead s.belt.p r.front)) ↔ Grows s r := by
    simp [Grows, Config.itemLength]
  unfold State.growing
  by_cases grows : Grows s r
  · rw [if_pos (long.mpr grows), held, and_iff_right grows]
  · rw [if_neg (mt long.mp grows)]
    exact ⟨nofun, fun both => absurd both.1 grows⟩

theorem growing_none {r : EyeRecord} (stays : ¬Grows s r ∨ ∀ e, ¬Holds s r e) : s.growing r = none := by
  refine Option.eq_none_iff_forall_ne_some.mpr fun e grows => ?_
  obtain ⟨long, holds⟩ := (growing_iff s r e).mp grows
  exact stays.elim (· long) (· e holds)

theorem growInduct_stays {k : Pos} (stays : ¬Grows s (s.belt.eyes.get k) ∨ ∀ e, ¬Holds s (s.belt.eyes.get k) e) :
    s.growInduct k = s := by
  rw [State.growInduct, growing_none stays]

theorem growInduct_grows {k : Pos} {e : Entry} (grows : Grows s (s.belt.eyes.get k))
    (holds : Holds s (s.belt.eyes.get k) e) : s.growInduct k = (s.growEntry (s.belt.eyes.get k) e).onBelt fun x =>
      { x with eyes := x.eyes.set k { s.belt.eyes.get k with grown := true } } := by
  have eyes := (StepLaws.growEntry_frame s (s.belt.eyes.get k) e).eyes
  rw [State.growInduct, (growing_iff s _ e).mpr ⟨grows, holds⟩]
  simp only [State.onBelt, eyes]

theorem growApplicator_stays (stays : (¬Grows s s.belt.applicator ∨ ∀ e, Holds s s.belt.applicator e →
    e.itemNumber?.isSome = true ∨ e.origin.isSome = true)) : s.growApplicator = s := by
  unfold State.growApplicator
  split
  · rfl
  · rename_i e grows
    obtain ⟨long, holds⟩ := (growing_iff s _ e).mp grows
    exact if_pos ((stays.resolve_left (not_not_intro long)) e holds)

/-- A stray of the applicator grows there (log 60). -/
theorem growApplicator_grows {e : Entry} (grows : Grows s s.belt.applicator) (holds : Holds s s.belt.applicator e)
    (item : e.itemNumber? = none) (origin : e.origin = none) : s.growApplicator =
      (s.growEntry s.belt.applicator e).onBelt fun x => { x with
        applicator := { s.belt.applicator with grown := true } } := by
  have applicator := (StepLaws.growEntry_frame s s.belt.applicator e).applicator
  rw [State.growApplicator, (growing_iff s _ e).mpr ⟨grows, holds⟩]
  refine (if_neg (by simp [item, origin])).trans ?_
  simp only [State.onBelt, applicator]

theorem growInduct_rolls {high : Coord} (a : Rolls s high t) (k : Pos) : Rolls s high (t.growInduct k) := by
  unfold State.growInduct
  dsimp only
  split
  · exact a
  · rename_i e _
    have grown := a.line (StepLaws.growEntry_frame t (t.belt.eyes.get k) e)
    exact grown.onBelt rfl grown.high

theorem growInducts_rolls {high : Coord} (a : Rolls s high t) (l : List Pos) :
    Rolls s high (l.foldl State.growInduct t) := by
  induction l generalizing t with
  | nil => exact a
  | cons k rest ih => exact ih (growInduct_rolls a k)

theorem growApplicator_rolls {high : Coord} (a : Rolls s high t) : Rolls s high t.growApplicator := by
  unfold State.growApplicator
  split
  · exact a
  · rename_i e _
    have grown := a.line (StepLaws.growEntry_frame t t.belt.applicator e)
    exact .ite a (grown.onBelt rfl grown.high)

/-- No eye holds an entry of an empty queue. -/
theorem grow_empty (empty : s.belt.queue = []) (l : List Pos) :
    l.foldl State.growInduct s = s ∧ s.growApplicator = s := by
  have none_held (r : EyeRecord) (e : Entry) : ¬Holds s r e := fun holds => by
    have found := holds.2
    rw [State.findEntry, empty] at found
    cases found
  refine ⟨?_, growApplicator_stays (.inr fun e holds => absurd holds (none_held _ e))⟩
  induction l with
  | nil => rfl
  | cons k rest ih =>
    rw [List.foldl_cons, growInduct_stays (.inr (none_held _))]
    exact ih

/-! ## A growing entry (R146) -/

section
variable {r : EyeRecord} {e : Entry}

/-- The tail of a growing entry. -/
def grownTail (s : State) (r : EyeRecord) (e : Entry) : Coord := e.front + (s.belt.p - r.front)

/-- An ITEM that grows takes the flag OVERLENGTH. -/
def overlong (s : State) (e : Entry) : State := if e.itemNumber?.isSome then s.flagEntry .overlength e.id else s

/-- The growing entry has its new tail. -/
def lengthened (s : State) (r : EyeRecord) (e : Entry) : State :=
  (overlong s e).onEntry e.id fun o => { o with tail := grownTail s r e }

/-- An entry that the new tail overlaps and the old one did not. -/
def reached (s : State) (r : EyeRecord) (e o : Entry) : Bool :=
  o.overlaps e.front (grownTail s r e) && !o.overlaps e.front e.tail

theorem growEntry_eq (s : State) (r : EyeRecord) (e : Entry) : s.growEntry r e =
    (lengthened s r e).flagAll .overlap ((lengthened s r e).unflagged (reached s r e)) := rfl

theorem overlong_relabels (s : State) (e : Entry) : Relabels s (overlong s e) :=
  .ite (flagEntry_relabels s _ _) (.refl s)

theorem lengthened_ids (s : State) (r : EyeRecord) (e : Entry) :
    (lengthened s r e).belt.queue.map (·.id) = s.belt.queue.map (·.id) :=
  (SameEntries.onEntry (overlong s e) e.id (f := fun o => { o with tail := grownTail s r e }) fun _ => rfl).ids.trans
    (overlong_relabels s e).ids

theorem growEntry_ids (s : State) (r : EyeRecord) (e : Entry) :
    (s.growEntry r e).belt.queue.map (·.id) = s.belt.queue.map (·.id) :=
  (flagAll_entries (lengthened s r e) .overlap _).ids.trans (lengthened_ids s r e)

variable (apart : (s.belt.queue.map (·.id)).Nodup)
include apart

theorem overlong_mem {o : Entry} (there : o ∈ s.belt.queue) : ∃ q ∈ (overlong s e).belt.queue,
    stretch q = stretch (flaggedIf .overlength (o.id = e.id ∧ e.itemNumber?.isSome = true) o) := by
  unfold overlong
  split
  · rename_i item
    simpa [item] using flagEntry_stretches apart .overlength e.id there
  · rename_i other
    exact ⟨o, there, by rw [flaggedIf_free fun hit => other hit.1.2]⟩

theorem lengthened_mem {o : Entry} (there : o ∈ s.belt.queue) : ∃ q ∈ (lengthened s r e).belt.queue, q.id = o.id ∧
    q.front = o.front ∧ q.tail = (if o.id = e.id then grownTail s r e else o.tail) ∧
      q.flag = if (o.id = e.id ∧ e.itemNumber?.isSome = true) ∧ o.flag = none then some .overlength else o.flag := by
  obtain ⟨q, stands, same⟩ := overlong_mem (e := e) apart there
  simp only [stretch, flaggedIf, Prod.mk.injEq] at same
  obtain ⟨name, front, tail, flag⟩ := same
  refine ⟨_, List.mem_map_of_mem stands, ?_⟩
  rw [name]
  split
  · exact ⟨name, front, rfl, flag⟩
  · exact ⟨name, front, tail, flag⟩

/-- The growing entry has its new tail, and an ITEM its flag; another entry is flagged where the new tail reaches it. -/
theorem growEntry_mem {o : Entry} (there : o ∈ s.belt.queue) : ∃ q ∈ (s.growEntry r e).belt.queue, q.id = o.id ∧
    q.front = o.front ∧
      (o.id = e.id → q.tail = grownTail s r e ∧
        (e.itemNumber?.isSome = true → q.flag = if o.flag = none then some .overlength else o.flag)) ∧
      (o.id ≠ e.id → q.tail = o.tail ∧ q.flag =
        if o.flag = none ∧ stretchesOverlap o.front o.tail e.front (grownTail s r e) = true ∧
          stretchesOverlap o.front o.tail e.front e.tail = false then some .overlap else o.flag) := by
  obtain ⟨q, stands, name, front, tail, flag⟩ := lengthened_mem (r := r) (e := e) apart there
  obtain ⟨x, last, same, front', tail', flag'⟩ := flagAll_unflagged (s := lengthened s r e)
    (by rw [lengthened_ids]; exact apart) .overlap (reached s r e) stands
  rw [growEntry_eq]
  refine ⟨x, last, (congrArg Prod.fst same).trans name, front'.trans front, fun own => ⟨?_, fun item => ?_⟩,
    fun other => ⟨?_, ?_⟩⟩
  · rw [tail', tail, if_pos own]
  · have flagged : q.flag = if o.flag = none then some .overlength else o.flag := by
      rw [flag]
      exact if_congr (and_iff_right ⟨own, item⟩) rfl rfl
    have held : q.flag ≠ none := by
      rw [flagged]
      split
      · nofun
      · assumption
    rw [flag', if_neg fun hit => held hit.1, flagged]
  · rw [tail', tail, if_neg other]
  · rw [if_neg other] at tail
    rw [if_neg fun hit => other hit.1.1] at flag
    simp only [flag', flag, reached, Entry.overlaps, front, tail, Bool.and_eq_true, Bool.not_eq_true']

end

/-! ## The release not used (R167) -/

theorem endUnused_dark (dark : s.release.lit = none) : s.endUnused = s := by rw [State.endUnused, dark]

theorem endUnused_short {l : LitRelease} (lit : s.release.lit = some l)
    (short : ahead s.belt.p (l.p0.beyond s.geo.lres) < 0) : s.endUnused = s := by
  rw [State.endUnused, lit]
  exact if_neg (Int.not_le.mpr short)

/-- The state with the lit release ended and counted as unused. -/
def unused (s : State) : State :=
  s.endUninducted.onRelease fun r => { r with stats := { r.stats with unused := bump Config.stat32 r.stats.unused } }

theorem endUnused_ends {l : LitRelease} (lit : s.release.lit = some l)
    (travelled : 0 ≤ ahead s.belt.p (l.p0.beyond s.geo.lres)) : s.endUnused = (unused s).offer
      (.releaseUnused l.position l.item l.p0 s.belt.p ((((unused s).findItem l.item).map (·.attempts)).getD 0)) := by
  rw [State.endUnused, lit]
  exact if_pos travelled

theorem unused_eq {l : LitRelease} (lit : s.release.lit = some l) : unused s =
    ((s.removeReservation l.item).returnItem l.item).onRelease fun r => { r.endLit with
      stats := { r.endLit.stats with unused := bump Config.stat32 r.endLit.stats.unused } } := by
  rw [unused, State.endUninducted, lit]
  rfl

/-! ## An encoder count (R124) -/

section
variable (forward : Bool)

/-- The sub-count passes from 3 to 0, or from 0 to 3. -/
abbrev Wraps (s : State) (forward : Bool) : Prop := if forward then s.belt.sub = 3#2 else s.belt.sub = 0#2

/-- The belt with one more count. -/
def countedBelt (forward : Bool) (b : Belt) : Belt :=
  { b with
    sub := if forward then b.sub + 1 else b.sub - 1
    windowCount := if forward then b.windowCount + 1 else b.windowCount - 1 }

/-- The belt with one more count, at which P moves. -/
def movedBelt (forward : Bool) (b : Belt) : Belt :=
  { countedBelt forward b with p := if forward then b.p + 1 else b.p - 1 }

theorem exec_beltEncoderCount (running : s.running = true) :
    exec (.beltEncoderCount forward) s = .next (s.encoderCount forward) := congrArg _ (if_pos running)

theorem encoderCount_within (stays : ¬Wraps s forward) : s.encoderCount forward = s.onBelt (countedBelt forward) := by
  cases forward with
  | true => exact if_neg (by simpa [Wraps] using stays)
  | false => exact if_neg (by simpa [Wraps] using stays)

theorem encoderCount_wraps (wraps : Wraps s forward) :
    s.encoderCount forward = State.beltStep s (s.onBelt (movedBelt forward)) := by
  cases forward with
  | true => exact if_pos (by simpa [Wraps] using wraps)
  | false => exact if_pos (by simpa [Wraps] using wraps)

end

/-- What the tests of a belt step come to before the line settles (log 11). -/
def tested (s : State) : State := (Pos.all.foldl State.growInduct s.markHigh).growApplicator.endUnused

theorem tested_rolls (s : State) : Rolls s (newHigh s.belt) (tested s) :=
  (growApplicator_rolls (growInducts_rolls (markHigh_rolls s) _)).line (State.endUnused_frame _)

/-- With nothing on the belt and no release lit, a belt step tests the high-water mark alone. -/
theorem tested_empty (empty : s.markHigh.belt.queue = []) (dark : s.markHigh.release.lit = none) :
    tested s = s.markHigh := by
  obtain ⟨inducts, applicator⟩ := grow_empty empty Pos.all
  rw [tested, inducts, applicator, endUnused_dark dark]

/-- At a line at rest with no release lit, only the high-water mark changes, and a reversal is told. -/
theorem beltStep_atRest (rest : s.atRest) (dark : s.release.lit = none) (before : State) :
    State.settle before (tested s) = s.markHigh := by
  obtain ⟨empty, -⟩ := id rest
  by_cases back : Reversal s.belt
  · have marked : s.markHigh = _ := (markHigh_reversal back).trans (reverse_empty empty dark)
    rw [tested_empty (by rw [marked]; exact empty) (by rw [marked]; exact dark), marked]
    refine settle_atRest ?_ before
    exact rest
  · have marked := markHigh_follows back rfl
    rw [tested_empty (by rw [marked]; exact empty) (by rw [marked]; exact dark), marked]
    refine settle_atRest ?_ before
    exact rest

/-- A count at which the sub-count wraps is a belt step of the state whose P has moved. -/
theorem exec_beltEncoderCount_wraps {forward : Bool} (running : s.running = true) (wraps : Wraps s forward) {x : State}
    (moved : s.onBelt (movedBelt forward) = x) : ∃ t, exec (.beltEncoderCount forward) s = .next t ∧ OffLine s t ∧
      t = State.settle s (Pos.all.foldl State.growInduct x.markHigh).growApplicator.endUnused ∧
      odometer t.belt = odometer x.belt ∧ t.belt.high = newHigh x.belt ∧
      (x.atRest → x.release.lit = none → t = x.markHigh) := by
  have off := offLine_belt s (movedBelt forward)
  have rolls := (tested_rolls x).line (State.settle_frame _ s)
  rw [moved] at off
  rw [exec_beltEncoderCount forward running, encoderCount_wraps forward wraps, moved]
  exact ⟨_, rfl, offLine_trans off rolls.off, rfl, rolls.odometer, rolls.high,
    fun rest dark => beltStep_atRest rest dark s⟩

/-- Settles O41: a count by whether the sub-count wraps, and each test of the belt step by its own cases. -/
theorem beltEncoderCounts : Obligations.BeltEncoderCounts := by
  refine ⟨fun s forward running => ⟨fun stays => ?within, fun wraps => ?wraps⟩, fun s apart => ?reversal, fun s => rfl,
    fun s => ⟨fun k => ⟨growInduct_stays, fun e => growInduct_grows⟩, fun stays => growApplicator_stays stays,
      fun e => growApplicator_grows, fun r e found apart => ?grown⟩, fun s => ⟨endUnused_dark, fun l lit =>
        ⟨endUnused_short lit, fun travelled => ?unused⟩⟩⟩
  case within =>
    rw [exec_beltEncoderCount forward running, encoderCount_within forward stays]
    rfl
  case wraps =>
    intro counted reversed high
    obtain ⟨t, runs, off, settled, kept, marked, quiet⟩ := exec_beltEncoderCount_wraps running wraps (x := counted) rfl
    simp only [odometer, Prod.mk.injEq] at kept
    obtain ⟨p, sub, count, measured, jams, run, setpoint⟩ := kept
    refine ⟨t, runs, off, settled, p, sub, count, marked, measured, jams, run, setpoint,
      fun rest dark => ⟨fun follows => ?_, fun back => ?_⟩⟩
    · exact (quiet rest dark).trans (markHigh_follows (s := counted) follows rfl)
    · have turned := markHigh_reversal (s := counted) back
      rw [reverse_empty (s := counted) rest.1 dark] at turned
      exact (quiet rest dark).trans turned
  case reversal =>
    have accounts := reverse_accounts s
    rw [List.map_map] at accounts
    exact ⟨fun e => reverse_flagged apart, fun e there => reverse_flags apart there, accounts, reverse_link s,
      reverse_ids s, (dropReservations_dropped (reversed s)).lit, (reverse_rolls s).high, reverse_eyes s, rfl⟩
  case grown =>
    have frame := StepLaws.growEntry_frame s r e
    exact ⟨growEntry_ids s r e, frame.eyes, frame.applicator, fun o there => growEntry_mem apart there⟩
  case unused =>
    rw [endUnused_ends lit travelled, unused_eq lit]
    rfl

end Sys2Proof.Machine.BeltSteps
end

section
/-! PROOFS of 07_belt_drive_and_tracking.md: the requests that run and stop the belt (R129 to R131), the ramp and the
speed window (R126 to R128, R133), and the emergency stop (R132, R134, R186). -/

namespace Sys2Proof.Machine.DriveCommands

open LineOperations LineSettled AccountLaws EyeFrames LineStands

variable {s t : State}

/-! ## The drive changed (R127) -/

theorem changeDrive_belt (s : State) (f : Belt → Belt) : (s.changeDrive f).belt = f s.belt := by
  unfold State.changeDrive
  dsimp only
  split <;> rfl

/-- A change of the drive touches the belt, and of the link the notices alone. -/
theorem changeDrive_requests (s : State) (f : Belt → Belt) :
    (s.changeDrive f).link.slots = s.link.slots ∧ (s.changeDrive f).link.ready = s.link.ready := by
  unfold State.changeDrive
  dsimp only
  split
  · exact ⟨rfl, rfl⟩
  · have told := (s.onBelt f).beltNotice_frame
    exact ⟨told.requests, told.ready⟩

theorem changeDrive_others (s : State) (f : Belt → Belt) : (s.changeDrive f).items = s.items ∧
    (s.changeDrive f).label = s.label ∧ (s.changeDrive f).release = s.release ∧
    (s.changeDrive f).settings = s.settings := by
  unfold State.changeDrive
  dsimp only
  split <;> exact ⟨rfl, rfl, rfl, rfl⟩

/-- A drive that changes leaves the line at rest but where it comes to creep or to wait for a label. -/
theorem changeDrive_atRest (rest : s.atRest) {f : Belt → Belt} (queue : (f s.belt).queue = s.belt.queue)
    (reason : (f s.belt).reason ≠ .labelWait) (drive : (f s.belt).drive ≠ .creeping) : (s.changeDrive f).atRest := by
  obtain ⟨-, label, release, -⟩ := changeDrive_others s f
  obtain ⟨empty, tamp, diverter, -, -, idle⟩ := rest
  rw [State.atRest, changeDrive_belt, label, release, queue]
  exact ⟨empty, tamp, diverter, reason, drive, idle⟩

/-! ## B_STOP (R131) -/

/-- The belt after a B_STOP that is not refused. -/
def stoppedBelt (b : Belt) : Belt :=
  if b.drive.moving then { b with drive := .stopping, target := 0, reason := .host, waitEntry := none }
  else { b with reason := .host, waitEntry := none }

theorem stoppedBelt_moving {b : Belt} (moving : b.drive.moving = true) :
    stoppedBelt b = { b with drive := .stopping, target := 0, reason := .host, waitEntry := none } := if_pos moving

theorem stoppedBelt_still {b : Belt} (still : b.drive.moving = false) :
    stoppedBelt b = { b with reason := .host, waitEntry := none } := if_neg (ne_true_of_eq_false still)

/-- A stopped belt stands for the host, and keeps its run target, its setpoint and P. -/
theorem stoppedBelt_stands (b : Belt) : (stoppedBelt b).drive.moving = false ∧ (stoppedBelt b).reason = .host ∧
    (stoppedBelt b).waitEntry = none ∧ (stoppedBelt b).runTarget = b.runTarget ∧
    (stoppedBelt b).setpoint = b.setpoint ∧ (stoppedBelt b).p = b.p := by
  unfold stoppedBelt
  split
  · exact ⟨rfl, rfl, rfl, rfl, rfl, rfl⟩
  · rename_i still
    exact ⟨by simpa using still, rfl, rfl, rfl, rfl, rfl⟩

/-- Which slots an answer leaves held and ready depends on the slots and their order alone. -/
theorem answer_requests {l m : Link} (slots : l.slots = m.slots) (ready : l.ready = m.ready) (i : SlotId) (r : Reply) :
    (Link.answer i r l).slots = (Link.answer i r m).slots ∧ (Link.answer i r l).ready = (Link.answer i r m).ready := by
  simp only [Link.answer, slots]
  cases m.slots[i] with
  | none => exact ⟨slots, ready⟩
  | some q => simp only [Link.sendNext_slots, Link.sendNext_ready, ready, and_self]

section
variable {i : SlotId} (takes : s.takes i) (tag : Byte)
include takes

theorem exec_bStop_refused (estopped : s.belt.drive = .estopped) :
    exec (.bStop tag) s = s.refuses i tag .bStop .estopped := by
  refine (congrArg Host.Outcome.next (s.request_takes takes tag .bStop _)).trans ?_
  exact congrArg _ (if_pos estopped)

theorem exec_bStop_taken (other : s.belt.drive ≠ .estopped) : exec (.bStop tag) s = .next
    ((State.settle (s.held i tag .bStop) ((s.held i tag .bStop).changeDrive stoppedBelt)).answer i (.ok .none)) := by
  refine (congrArg Host.Outcome.next (s.request_takes takes tag .bStop _)).trans ?_
  exact congrArg _ (if_neg other)

end

/-- What follows a B_STOP on the line leaves the drive stopped or stopping for the host. -/
theorem settle_stopped (before s : State) :
    (State.settle before (s.changeDrive stoppedBelt)).belt =
      { stoppedBelt s.belt with queue := (State.settle before (s.changeDrive stoppedBelt)).belt.queue } := by
  obtain ⟨still, reason, -⟩ := stoppedBelt_stands s.belt
  have stands := settle_stands (s := s.changeDrive stoppedBelt) before (by rw [changeDrive_belt]; exact still)
    (by rw [changeDrive_belt, reason]; nofun)
  exact stands.belt.trans (by rw [changeDrive_belt])

/-- Settles O44: a stop for the host, and nothing that follows on the line moves the drive again. -/
theorem beltStops : Obligations.BeltStops := by
  intro s i tag takes
  refine ⟨exec_bStop_refused takes tag, fun other => ⟨_, exec_bStop_taken takes tag other, ?_⟩⟩
  let held := s.held i tag .bStop
  have frame := State.settle_frame (held.changeDrive stoppedBelt) held
  obtain ⟨slots, ready⟩ := changeDrive_requests held stoppedBelt
  have answered := answer_requests (frame.requests.trans slots) (frame.ready.trans ready) i (.ok .none)
  have belt : (State.settle held (held.changeDrive stoppedBelt)).belt = _ := settle_stopped held held
  obtain ⟨-, reason, wait, run, setpoint, p⟩ := stoppedBelt_stands s.belt
  refine ⟨?_, fun moves => ?_, fun stands => ?_, ?_⟩
  · exact offLine_trans (offLine_trans (offLine_held s i tag .bStop) (offLine_changeDrive held stoppedBelt))
      (offLine_trans (offLine_line frame) (offLine_answer _ i _))
  · rw [State.answer_belt, belt, stoppedBelt_moving (b := held.belt) ((moving_iff _).mpr moves)]
    exact ⟨rfl, rfl⟩
  · have still : s.belt.drive.moving = false := not_moving (stands.imp_right .inl)
    rw [State.answer_belt, belt, stoppedBelt_still (b := held.belt) still]
    exact ⟨rfl, rfl⟩
  · rw [State.answer_belt, belt]
    exact ⟨reason, wait, run, setpoint, p, answered⟩

/-! ## B_RUN (R129, R130) -/

/-- The root that R129 asks for is the one found bit by bit. -/
theorem floorSqrt_eq {n v : Nat} (low : v * v ≤ n) (high : n < (v + 1) * (v + 1)) (small : v < 65536) :
    floorSqrt n = v := by
  have fits : n < 4294967296 := Nat.lt_of_lt_of_le high (Nat.mul_le_mul small small)
  exact (Nat.eq_sqrt.mpr (floorSqrt_spec fits)).trans (Nat.eq_sqrt.mpr ⟨low, high⟩).symm

/-- CLAMPED where the value used is not the one asked. -/
theorem okOrClamped_eq (s : State) (i : SlotId) (used asked : Nat) (f : Fields) :
    s.okOrClamped i (decide (used ≠ asked)) f = s.answer i (if used = asked then .ok f else .clamped f) := by
  unfold State.okOrClamped
  by_cases same : used = asked <;> simp [same]

theorem limit_eq {lo hi : Nat} (ordered : lo ≤ hi) (v : Nat) :
    limit lo hi v = if v < lo then lo else if hi < v then hi else v := by
  unfold limit
  split
  · omega
  · split <;> omega

section
variable {i : SlotId} (takes : s.takes i) (tag : Byte) (speed : Nat)
include takes

theorem exec_bRun : exec (.bRun tag speed) s = .next (serveBRun speed i (s.held i tag .bRun)) :=
  congrArg _ (s.request_takes takes tag .bRun _)

theorem exec_bRun_stopping (stopping : s.belt.drive = .stopping) :
    exec (.bRun tag speed) s = s.refuses i tag .bRun .stopping := by
  rw [exec_bRun takes]
  exact congrArg _ (if_pos stopping)

theorem exec_bRun_estopped (estopped : s.belt.drive = .estopped) :
    exec (.bRun tag speed) s = s.refuses i tag .bRun .estopped := by
  have other : s.belt.drive ≠ .stopping := by rw [estopped]; nofun
  rw [exec_bRun takes]
  exact congrArg _ ((if_neg other).trans (if_pos estopped))

/-- An accepted B_RUN settles and is answered with the speed used, CLAMPED where that is not the speed asked. -/
theorem exec_bRun_taken (going : s.belt.drive ≠ .stopping) (reset : s.belt.drive ≠ .estopped) {used : Nat}
    (limited : limit 100 s.settings.host.vmax speed = used) : exec (.bRun tag speed) s = .next
      ((State.settle (s.held i tag .bRun) ((s.held i tag .bRun).runBelt used)).answer i
        (if used = speed then .ok (.speed used) else .clamped (.speed used))) := by
  subst limited
  rw [exec_bRun takes, ← okOrClamped_eq]
  exact congrArg _ ((if_neg going).trans (if_neg reset))

end

theorem runBelt_stopped (stopped : s.belt.drive = .stopped) (free : s.belt.reason ≠ .labelWait) (v : Nat) :
    s.runBelt v = (s.onBelt fun x => { x with
      drive := .starting, reason := .none, runTarget := v, target := v }).offer
        (.beltState .starting .none v s.belt.setpoint s.belt.p) := by
  have starts : s.runBelt v = s.changeDrive fun b => { b with
      drive := .starting, reason := .none, runTarget := v, target := v } := by
    rw [State.runBelt, stopped]
    exact if_neg free
  rw [starts, changeDrive_told (by rw [stopped]; nofun)]
  rfl

theorem runBelt_waits (waits : (s.belt.drive = .stopped ∧ s.belt.reason = .labelWait) ∨ s.belt.drive = .creeping)
    (v : Nat) : s.runBelt v = s.onBelt fun x => { x with runTarget := v } := by
  obtain ⟨stopped, reason⟩ | creeping := waits
  · rw [State.runBelt, stopped]
    exact if_pos reason
  · rw [State.runBelt, creeping]

theorem runBelt_runs (runs : s.belt.drive = .starting ∨ s.belt.drive = .running) (v : Nat) :
    s.runBelt v = s.onBelt fun x => { x with runTarget := v, target := v } := by
  obtain drive | drive := runs <;> rw [State.runBelt, drive]

/-- A B_RUN leaves a line at rest at rest. -/
theorem runBelt_atRest (rest : s.atRest) (v : Nat) : (s.runBelt v).atRest := by
  obtain ⟨empty, tamp, diverter, reason, drive, release⟩ := id rest
  unfold State.runBelt
  split
  · rw [if_neg reason]
    exact changeDrive_atRest rest rfl nofun nofun
  all_goals exact ⟨empty, tamp, diverter, reason, drive, release⟩

/-- Settles O43: the refusals by the drive, the limit by its three cases, the effect by drive and stop reason. -/
theorem beltRuns : Obligations.BeltRuns := by
  intro s i tag speed takes h
  refine ⟨fun v ⟨low, high⟩ small => ?vmax, exec_bRun_stopping takes tag speed, exec_bRun_estopped takes tag speed,
    fun going reset creeps => ?_⟩
  case vmax =>
    rw [HostFields.vmax, floorSqrt_eq low high small]
    rfl
  intro used served run
  have ran : served.runBelt used = run := by
    cases drive : s.belt.drive with
    | stopped =>
      cases reason : s.belt.reason with
      | labelWait =>
        refine (runBelt_waits (s := served) (.inl ⟨drive, reason⟩) used).trans ?_
        simp only [run, h, drive, reason]
      | none | host | estop | jam =>
        refine (runBelt_stopped (s := served) drive ?_ used).trans (by simp only [run, h, drive, reason]; rfl)
        exact fun waits => by cases reason.symm.trans waits
    | creeping => exact (runBelt_waits (s := served) (.inr drive) used).trans (by simp only [run, h, drive])
    | starting => exact (runBelt_runs (s := served) (.inl drive) used).trans (by simp only [run, h, drive])
    | running => exact (runBelt_runs (s := served) (.inr drive) used).trans (by simp only [run, h, drive])
    | stopping => exact absurd drive going
    | estopped => exact absurd drive reset
  rw [← ran]
  exact ⟨exec_bRun_taken takes tag speed going reset (limit_eq creeps speed), fun rest =>
    settle_atRest (runBelt_atRest (s := served) rest used) served⟩

/-! ## The emergency-stop path (R132, R186) -/

/-- The belt ESTOPPED with a reason. -/
def haltedBelt (r : StopReason) (b : Belt) : Belt :=
  { b with drive := .estopped, reason := r, setpoint := 0, target := 0, waitEntry := none }

/-- The state with its drive ESTOPPED and its RESERVATIONs removed. -/
def cleared (s : State) (r : StopReason) : State := (s.changeDrive (haltedBelt r)).dropReservations

/-- An ITEM whose label is not APPLIED. -/
def unapplied (e : Entry) : Bool := e.itemNumber?.isSome && e.label? != some .applied

theorem estopPath_eq (s : State) (r : StopReason) : s.estopPath r =
    ((cleared s r).flagAll .estop ((cleared s r).unflagged unapplied)).retractTamp := rfl

theorem cleared_dropped (s : State) (r : StopReason) : Dropped (s.changeDrive (haltedBelt r)) (cleared s r) :=
  dropReservations_dropped _

theorem flagged_relabels (s : State) (r : StopReason) : Relabels (cleared s r)
    ((cleared s r).flagAll .estop ((cleared s r).unflagged unapplied)) := flagAll_relabels _ _ _

theorem cleared_queue (s : State) (r : StopReason) :
    (cleared s r).belt.queue = s.belt.queue.filter fun e => !e.isReservation := by
  rw [(cleared_dropped s r).belt, changeDrive_belt]
  rfl

theorem estopPath_belt (s : State) (r : StopReason) :
    (s.estopPath r).belt = { haltedBelt r s.belt with queue := (s.estopPath r).belt.queue } := by
  have halted : (cleared s r).belt = { haltedBelt r s.belt with queue := (cleared s r).belt.queue } := by
    rw [(cleared_dropped s r).belt, changeDrive_belt]
  refine (flagged_relabels s r).belt.trans ?_
  rw [halted]
  rfl

theorem estopPath_ids (s : State) (r : StopReason) : (s.estopPath r).belt.queue.map (·.id) =
    (s.belt.queue.filter fun e => !e.isReservation).map (·.id) := by
  rw [← cleared_queue s r]
  exact (flagged_relabels s r).ids

theorem estopPath_placed (s : State) (r : StopReason) : ∀ e ∈ (s.estopPath r).belt.queue, e.isReservation = false := by
  intro e there
  obtain ⟨o, stood, same⟩ := (flagged_relabels s r).mem (e := e) there
  rw [cleared_queue] at stood
  have placed := (List.mem_filter.mp stood).2
  rw [← show o.isReservation = e.isReservation from congrArg Prod.snd same]
  simpa using placed

theorem estopPath_lit (s : State) (r : StopReason) : (s.estopPath r).release.lit = none :=
  (congrArg Release.lit (flagged_relabels s r).release).trans (cleared_dropped s r).lit

/-- The item of the lit release awaits release again, with one more attempt (R119). -/
theorem estopPath_accounts (s : State) (r : StopReason) : (s.estopPath r).items.register.map account =
    (s.items.register.map account).map (returned s.release.lit) := by
  obtain ⟨items, -, release, -⟩ := changeDrive_others s (haltedBelt r)
  have dropped := (cleared_dropped s r).accounts
  rw [items, release] at dropped
  exact (flagged_relabels s r).accounts.trans dropped

/-- Every ITEM whose label is not APPLIED takes the flag ESTOP where it holds none. -/
theorem estopPath_flags (apart : (s.belt.queue.map (·.id)).Nodup) (r : StopReason) {e : Entry}
    (there : e ∈ s.belt.queue) (placed : e.isReservation = false) : ∃ q ∈ (s.estopPath r).belt.queue, q.id = e.id ∧
      q.front = e.front ∧ q.tail = e.tail ∧ q.flag = if e.flag = none ∧ e.itemNumber?.isSome = true ∧
        e.label? ≠ some .applied then some .estop else e.flag := by
  have queue := cleared_queue s r
  have stays : e ∈ (cleared s r).belt.queue := by
    rw [queue]
    exact List.mem_filter.mpr ⟨there, by simp [placed]⟩
  have named : ((cleared s r).belt.queue.map (·.id)).Nodup := by
    rw [queue]
    exact apart.sublist (List.filter_sublist.map _)
  obtain ⟨q, stands, same, front, tail, flag⟩ := flagAll_unflagged named .estop unapplied stays
  exact ⟨q, stands, congrArg Prod.fst same, front, tail, flag.trans (if_congr (by simp [unapplied]) rfl rfl)⟩

/-- The tamp after an emergency stop: EXTEND and DWELL go to RETRACT (R186). -/
def retracting (applyMs : Nat) : Tamp → Tamp
  | .extend e _ | .dwell e _ => .retract e (applyMs * 2 / 5)
  | m => m

theorem retractTamp_tamp (s : State) : s.retractTamp.label.tamp = retracting s.settings.host.applyMs s.label.tamp := by
  rw [State.retractTamp, State.onLabel_label]
  cases tamp : s.label.tamp with
  | extend | dwell => rfl
  | retracted | armed | retract => exact tamp

/-- A tamp that is not armed takes its way to RETRACT. -/
theorem estopPath_tamp (free : ∀ e p, s.label.tamp ≠ .armed e p) (r : StopReason) :
    (s.estopPath r).label.tamp = retracting s.settings.host.applyMs s.label.tamp := by
  obtain ⟨-, label, -, settings⟩ := changeDrive_others s (haltedBelt r)
  have dropped := (cleared_dropped s r).tamp
  rw [label] at dropped
  have kept := ((flagged_relabels s r).tamp (dropped ▸ free)).trans dropped
  have host : ((cleared s r).flagAll .estop ((cleared s r).unflagged unapplied)).settings = s.settings :=
    ((State.flagAll_frame _ .estop ((cleared s r).unflagged unapplied)).settings.trans
    (State.dropReservations_frame _).settings).trans settings
  rw [estopPath_eq, retractTamp_tamp, kept, host]

theorem estopPath_offLine (s : State) (r : StopReason) : OffLine s (s.estopPath r) :=
  offLine_trans (offLine_changeDrive s (haltedBelt r)) (offLine_line (((State.dropReservations_frame _).andThen
    (State.flagAll_frame _ _ _)).andThen (State.retractTamp_frame _)))

/-- With nothing on the belt, no release lit and the tamp home, the drive alone changes. -/
theorem estopPath_empty (empty : s.belt.queue = []) (dark : s.release.lit = none) (home : s.label.tamp = .retracted)
    (r : StopReason) : s.estopPath r = s.changeDrive (haltedBelt r) := by
  obtain ⟨-, label, release, -⟩ := changeDrive_others s (haltedBelt r)
  have queue : (s.changeDrive (haltedBelt r)).belt.queue = [] := by rw [changeDrive_belt]; exact empty
  rw [estopPath_eq, cleared]
  generalize s.changeDrive (haltedBelt r) = u at queue label release
  have dropped : u.dropReservations = u := by
    rw [State.dropReservations, State.endUninducted, State.onBelt_release, release, dark]
    dsimp only [State.onBelt]
    rw [queue, List.filter_nil, ← queue]
  rw [dropped, State.unflagged, queue]
  show u.retractTamp = u
  rw [State.retractTamp, State.onLabel, label]
  simp only [home]
  rw [← label]

section
variable (before : State) {r : StopReason} (other : r ≠ .labelWait) (halted : s.belt = { haltedBelt r t.belt with
  queue := s.belt.queue })
include other halted

/-- What follows on the line of a drive ESTOPPED leaves it there (log 11). -/
theorem settle_estopped : Stands s (State.settle before s) :=
  settle_stands before (by rw [halted]; rfl) (by rw [halted]; exact other)

theorem settle_estopped_belt : (State.settle before s).belt =
    { haltedBelt r t.belt with queue := (State.settle before s).belt.queue } := by
  refine (settle_estopped before other halted).belt.trans ?_
  rw [halted]

end

/-! ## The ramp and the speed window (R126 to R128, R133) -/

theorem rampedDrive_eq (d : Drive) (setpoint target : Nat) : State.rampedDrive d setpoint target =
    if d = .starting ∧ setpoint = target then .running
    else if d = .stopping ∧ setpoint = 0 then .stopped else d := by
  cases d <;> simp [State.rampedDrive]

/-- The belt one ramp step on. -/
def rampedBelt (g : Geometry) (b : Belt) : Belt :=
  { b with
    setpoint := State.rampTo b.setpoint (b.target * 100) g.accel g.decel
    drive := State.rampedDrive b.drive (State.rampTo b.setpoint (b.target * 100) g.accel g.decel) (b.target * 100) }

theorem ramp_stands (stands : s.belt.drive = .stopped ∨ s.belt.drive = .estopped) : s.ramp = s := if_pos stands

theorem ramp_moves (stopped : s.belt.drive ≠ .stopped) (estopped : s.belt.drive ≠ .estopped) :
    s.ramp = State.settle s (s.changeDrive (rampedBelt s.settings.host.geo)) :=
  if_neg fun stands => stands.elim stopped estopped

/-- A ramp step never begins to creep. -/
theorem rampedBelt_creeping {g : Geometry} {b : Belt} (other : b.drive ≠ .creeping) :
    (rampedBelt g b).drive ≠ .creeping := by
  show State.rampedDrive _ _ _ ≠ _
  rw [rampedDrive_eq]
  split
  · nofun
  · split
    · nofun
    · exact other

theorem exec_rampStep (running : s.running = true) :
    exec .rampStep s = .next (s.onTime fun x => { x with rampIn := 10 }).ramp := congrArg _ (if_pos running)

theorem exec_speedWindowEnd (running : s.running = true) :
    exec .speedWindowEnd s = .next (s.onTime fun x => { x with speedIn := 100 }).speedWindow :=
  congrArg _ (if_pos running)

theorem jamHolds_iff (setpoint : Nat) (measured : Int) :
    State.jamHolds setpoint measured = true ↔ 10000 ≤ setpoint ∧ measured * 200 < setpoint := by
  simp [State.jamHolds]

/-- The belt of a speed window that has ended, with its measured speed and the jam conditions in a row. -/
def windowed (count : Nat) (b : Belt) : Belt :=
  { b with measured := State.speedOf b.windowCount, windowCount := 0, jamCount := count }

/-- The state in which a jam takes the emergency-stop path (R133). -/
def jammed (s : State) (count : Nat) : State :=
  ((s.onBelt (windowed count)).onBelt fun b => { b with jamCount := 0 }).offer
    (.jam s.belt.setpoint (State.speedOf s.belt.windowCount))

theorem speedWindow_eq {count : Nat} (counted : (if State.jamHolds s.belt.setpoint
    (State.speedOf s.belt.windowCount) = true then s.belt.jamCount + 1 else 0) = count) : s.speedWindow =
      if 10 ≤ count then State.settle s ((jammed s count).estopPath .jam) else s.onBelt (windowed count) := by
  subst counted
  rfl

/-- A jam leaves the drive ESTOPPED, and the jam conditions are counted anew. -/
theorem jammed_settled {before s u t : State} {count : Nat} (path : (jammed s count).estopPath .jam = u)
    (settled : State.settle before u = t) : t.belt.drive = .estopped ∧ t.belt.reason = .jam ∧ t.belt.setpoint = 0 ∧
      t.belt.target = 0 ∧ t.belt.jamCount = 0 ∧ t.belt.measured = State.speedOf s.belt.windowCount ∧
      t.belt.windowCount = 0 := by
  have belt := estopPath_belt (jammed s count) .jam
  rw [path] at belt
  have stays := settle_estopped_belt (r := .jam) before nofun belt
  rw [settled] at stays
  rw [stays]
  exact ⟨rfl, rfl, rfl, rfl, rfl, rfl, rfl⟩

/-- Settles O42: a ramp step by the drive state, a speed window by whether the tenth jam condition in a row holds. -/
theorem rampAndSpeedWindow : Obligations.RampAndSpeedWindow := by
  intro s running h timed target next drive moved told
  have ramped : timed.changeDrive (rampedBelt s.settings.host.geo) = told := by
    have drives : (rampedBelt s.settings.host.geo s.belt).drive = drive := rampedDrive_eq _ _ _
    have moves : timed.onBelt (rampedBelt s.settings.host.geo) = moved :=
      congrArg (fun d => timed.onBelt fun x => { x with setpoint := next, drive := d }) drives
    unfold State.changeDrive
    rw [moves]
    rfl
  refine ⟨fun stands => ?_, fun stopped estopped => ⟨?_, fun rest => ?_⟩, ?_⟩
  · rw [exec_rampStep running, ramp_stands (s := timed) stands]
  · rw [exec_rampStep running, ramp_moves (s := timed) stopped estopped]
    exact congrArg _ (congrArg _ ramped)
  · rw [← ramped]
    obtain ⟨-, -, -, reason, creeps, -⟩ := id rest
    exact settle_atRest (changeDrive_atRest (s := timed) rest rfl reason (rampedBelt_creeping creeps)) timed
  · intro measured lags count begun
    have window := speedWindow_eq (s := s.onTime fun x => { x with speedIn := 100 }) (count := count)
      (if_congr (jamHolds_iff _ _) rfl rfl)
    have jam : jammed (s.onTime fun x => { x with speedIn := 100 }) count =
      (begun.onBelt fun x => { x with jamCount := 0 }).offer (.jam h.setpoint measured) := rfl
    refine ⟨fun few => ?_, fun ten => ?_⟩
    · rw [exec_speedWindowEnd running, window, if_neg (Nat.not_le.mpr few)]
      rfl
    · rw [exec_speedWindowEnd running, window, if_pos ten, ← jam]
      generalize path : (jammed (s.onTime fun x => { x with speedIn := 100 }) count).estopPath .jam = u
      generalize settled : State.settle _ u = t
      have facts := jammed_settled path settled
      exact ⟨t, rfl, rfl, facts⟩

/-! ## The emergency stop input and B_RESET (R127, R132, R134) -/

section
variable (running : s.running = true) (seen : s.pins.estop = false)
include running seen

theorem exec_emergencyStopAsserted_again (estopped : s.belt.drive = .estopped) :
    exec .emergencyStopAsserted s = .next (s.onPins fun p => { p with estop := true }).beltNotice := by
  refine congrArg Host.Outcome.next ((if_neg (ne_true_of_eq_false seen)).trans ((if_pos running).trans ?_))
  exact if_pos estopped

theorem exec_emergencyStopAsserted (other : s.belt.drive ≠ .estopped) : exec .emergencyStopAsserted s = .next
    (State.settle s ((s.onPins fun p => { p with estop := true }).estopPath .estop).beltNotice) := by
  refine congrArg Host.Outcome.next ((if_neg (ne_true_of_eq_false seen)).trans ((if_pos running).trans ?_))
  exact if_neg other

end

section
variable {i : SlotId} (takes : s.takes i) (tag : Byte)
include takes

theorem exec_bReset : exec (.bReset tag) s = .next (serveBReset i (s.held i tag .bReset)) :=
  congrArg _ (s.request_takes takes tag .bReset _)

theorem exec_bReset_elsewhere (other : s.belt.drive ≠ .estopped) :
    exec (.bReset tag) s = s.refuses i tag .bReset .notEstopped := by
  rw [exec_bReset takes]
  exact congrArg _ (if_pos other)

variable (estopped : s.belt.drive = .estopped)
include estopped

theorem exec_bReset_active (asserted : s.pins.estop = true) :
    exec (.bReset tag) s = s.refuses i tag .bReset .estopActive := by
  rw [exec_bReset takes]
  exact congrArg _ ((if_neg (not_not_intro estopped)).trans (if_pos asserted))

theorem exec_bReset_leaves (released : s.pins.estop = false) : exec (.bReset tag) s = .next
    (((s.held i tag .bReset).onBelt fun x => { x with drive := .stopped }).beltNotice.answer i (.ok .none)) := by
  have leaves := changeDrive_told (s := s.held i tag .bReset) (f := fun b => { b with drive := .stopped })
    (fun same => by cases same.trans estopped)
  rw [exec_bReset takes]
  refine congrArg _ ((if_neg (not_not_intro estopped)).trans ((if_neg (ne_true_of_eq_false released)).trans ?_))
  rw [leaves]
  rfl

end

/-- What follows on the line of an emergency stop leaves the drive ESTOPPED, the lamp dark and no RESERVATION. -/
theorem stops_settled {before u : State} (path : s.estopPath .estop = u)
    (settled : State.settle before u.beltNotice = t) : OffLine s t ∧ (t.belt.drive = .estopped ∧
      t.belt.reason = .estop ∧ t.belt.setpoint = 0 ∧ t.belt.target = 0 ∧ t.belt.waitEntry = none ∧
      t.belt.p = s.belt.p ∧ t.belt.runTarget = s.belt.runTarget) ∧ t.release.lit = none ∧
      ∀ e ∈ t.belt.queue, e.isReservation = false := by
  have belt := estopPath_belt s .estop
  have off := estopPath_offLine s .estop
  have dark := estopPath_lit s .estop
  have placed := estopPath_placed s .estop
  rw [path] at belt off dark placed
  have stands := settle_estopped (s := u.beltNotice) (r := .estop) before nofun belt
  have stays := settle_estopped_belt (s := u.beltNotice) (r := .estop) before nofun belt
  have frame := u.beltNotice_frame.andThen (State.settle_frame _ before)
  rw [settled] at stands stays frame
  refine ⟨offLine_trans off (offLine_line frame), ?_, stands.lit.trans dark, fun e there => ?_⟩
  · rw [stays]
    exact ⟨rfl, rfl, rfl, rfl, rfl, rfl, rfl⟩
  obtain ⟨o, stood, same⟩ := stands.mem there
  exact (congrArg Prod.snd same).symm.trans (placed o stood)

/-- An emergency stop on an empty line stops the drive and tells both changes (log 12). -/
theorem stops_empty (empty : s.belt.queue = []) (dark : s.release.lit = none) (home : s.label.tamp = .retracted)
    (passes : s.label.diverter = .pass) (parked : s.release.state = .idle ∨ s.release.state = .negotiating)
    (moves : s.belt.drive ≠ .estopped) (before : State) : State.settle before (s.estopPath .estop).beltNotice =
      (s.onBelt (haltedBelt .estop)).beltNotice.beltNotice := by
  rw [estopPath_empty empty dark home, changeDrive_told (f := haltedBelt .estop) (Ne.symm moves)]
  exact settle_atRest (s := (s.onBelt (haltedBelt .estop)).beltNotice.beltNotice)
    ⟨empty, home, passes, nofun, nofun, parked⟩ before

/-- Settles O45: the input by its level and the drive; the path by what it leaves of the entries; B_RESET by the
drive. -/
theorem emergencyStop : Obligations.EmergencyStop := by
  intro s told seen
  refine ⟨fun asserted => congrArg Host.Outcome.next (if_pos asserted), fun released running =>
      exec_emergencyStopAsserted_again running released, fun released running other => ?stops,
    fun released => congrArg Host.Outcome.next (if_pos (by simp [released])), fun asserted running => ?releases,
    fun off released => ?offAsserted, fun off asserted => ?offReleased, fun i tag takes =>
      ⟨exec_bReset_elsewhere takes tag, exec_bReset_active takes tag, exec_bReset_leaves takes tag⟩⟩
  case releases =>
    exact congrArg Host.Outcome.next ((if_neg (by simp [asserted])).trans (if_pos running))
  case offAsserted =>
    exact congrArg Host.Outcome.next ((if_neg (ne_true_of_eq_false released)).trans (if_neg (ne_true_of_eq_false off)))
  case offReleased =>
    exact congrArg Host.Outcome.next ((if_neg (by simp [asserted])).trans (if_neg (ne_true_of_eq_false off)))
  case stops =>
    have runs := exec_emergencyStopAsserted running released other
    have tamp := fun free => estopPath_tamp (s := seen true) free .estop
    have ids := estopPath_ids (seen true) .estop
    have flags := fun apart e => estopPath_flags (s := seen true) (e := e) apart .estop
    have accounts := estopPath_accounts (seen true) .estop
    have quiet := fun empty dark home passes parked =>
      stops_empty (s := seen true) empty dark home passes parked other s
    generalize path : (seen true).estopPath .estop = u at runs tamp ids flags accounts quiet
    generalize settled : State.settle s u.beltNotice = t at runs quiet
    obtain ⟨off, ⟨drive, reason, setpoint, target, wait, p, run⟩, dark, placed⟩ := stops_settled path settled
    refine ⟨t, u, runs, settled.symm, fun apart => ⟨ids, flags apart⟩, ?accounts, fun e n moves => ?retracts,
      fun e n returns => ?goesOn, off.pins, off, drive, reason, setpoint, target, wait, p, run, dark, placed, quiet⟩
    case accounts =>
      rw [List.map_map] at accounts
      exact accounts
    case retracts =>
      obtain moves | moves := moves
      all_goals
        refine (tamp fun _ _ armed => by cases moves.symm.trans armed).trans ?_
        exact congrArg (retracting _) moves
    case goesOn =>
      refine (tamp fun _ _ armed => by cases returns.symm.trans armed).trans ?_
      exact congrArg (retracting _) returns

end Sys2Proof.Machine.DriveCommands
end

section
/-! PROOFS of 08_induction_release.md: the free window (R141), the choice of the candidate (R162), the grant and the
express wait (R163, R164). -/

namespace Sys2Proof.Machine.Candidates

variable {s : State}

/-! ## The free window (R141) -/

/-- The window of point k is clear of every stretch, its due point one pitch from every front, and an entry fits. -/
theorem windowFree_iff (s : State) (k : Pos) : s.windowFree k = true ↔ s.belt.queue.length < 24 ∧
    ∀ e ∈ s.belt.queue, ¬stretchesOverlap e.front e.tail (s.window k).1 (s.window k).2 = true ∧
      (e.isReservation = true ∨ s.settings.host.geo.pitch ≤ (ahead e.front (s.dueAt k)).natAbs) := by
  simp only [State.windowFree, Bool.and_eq_true, List.all_eq_true, Bool.or_eq_true, decide_eq_true_eq,
    Bool.not_eq_true', Bool.not_eq_true, Entry.overlaps]
  exact and_comm

/-! ## The choice (R162) -/

/-- An entry that a visit to k considers. -/
def Waits (r : Release) (k : Pos) (e : RegEntry) : Prop :=
  e.position = k ∧ e.state = .awaitRelease ∧ e.number ∉ r.visited

theorem mem_considered {r : Release} {k : Pos} {register : List RegEntry} {e : RegEntry} :
    e ∈ r.considered k register ↔ e ∈ register ∧ Waits r k e := by
  simp [Release.considered, Waits, and_assoc]

/-- The first considered entry of a class. -/
theorem find_considered {r : Release} {k : Pos} {a z : List RegEntry} {e : RegEntry} (waits : Waits r k e)
    {c : ReleaseClass} (cls : e.cls = c) (before : ∀ m ∈ a, ¬(m.cls = c ∧ Waits r k m)) :
    (r.considered k (a ++ e :: z)).find? (fun m => m.cls == c) = some e := by
  have none_before : (r.considered k a).find? (fun m => m.cls == c) = none := by
    refine List.find?_eq_none.mpr fun m there => ?_
    obtain ⟨stands, considered⟩ := mem_considered.mp there
    simpa using fun same => before m stands ⟨same, considered⟩
  have kept : r.considered k (a ++ e :: z) = r.considered k a ++ e :: r.considered k z := by
    obtain ⟨position, state, fresh⟩ := waits
    simp [Release.considered, position, state, fresh]
  rw [kept, List.find?_append, none_before, List.find?_cons_of_pos (by simp [cls])]
  rfl

section
variable {r : Release} {k : Pos} {register : List RegEntry} {e : RegEntry}

theorem eligible_express (first : (r.considered k register).find? (fun m => m.cls == .express) = some e) :
    r.eligible k register = if r.express < (r.places.get k).x then some (e, true)
      else if 0 < r.tht then some (e, false) else none := by
  simp only [Release.eligible, first]

theorem eligible_standard (others : ∀ m ∈ register, Waits r k m → m.cls = .standard)
    (first : (r.considered k register).find? (fun m => m.cls == .standard) = some e) :
    r.eligible k register = if 0 < r.tht then some (e, false) else none := by
  have none_express : (r.considered k register).find? (fun m => m.cls == .express) = none := by
    refine List.find?_eq_none.mpr fun m there => ?_
    obtain ⟨stands, waits⟩ := mem_considered.mp there
    simp [others m stands waits]
  simp only [Release.eligible, none_express, first, Option.map_some]

theorem eligible_none (free : ∀ m ∈ register, ¬Waits r k m) : r.eligible k register = none := by
  have empty : r.considered k register = [] :=
    List.eq_nil_iff_forall_not_mem.mpr fun m there => free m (mem_considered.mp there).1 (mem_considered.mp there).2
  simp only [Release.eligible, empty, List.find?_nil, Option.map_none, ite_self]

variable (token : r.token = some k)
include token

theorem choice_barred (barred : r.state ≠ .rotating ∨ r.lit.isSome = true ∨ r.pendingMark = true ∨ r.waitMark = true) :
    r.choice register = none := by
  simp only [Release.choice, token]
  exact if_pos barred

theorem choice_open (rotating : r.state = .rotating) (dark : r.lit = none) (calm : r.pendingMark = false)
    (free : r.waitMark = false) : r.choice register = r.eligible k register := by
  simp only [Release.choice, token]
  exact if_neg (by simp [rotating, dark, calm, free])

end

/-! ## The candidate and the grant (R163, R164) -/

/-- The candidate with its wait. -/
def candidates (s : State) (c : Option Candidate) : State := s.onRelease fun r => { r with candidate := c }

/-- The state in which the release of an item at k has been granted. -/
def granted (s : State) (k : Pos) (e : RegEntry) (terms : Bool) : State :=
  (s.insertNew (s.window k).1 (s.window k).2 none (.reservation k s.belt.p e.number)).grant k e terms

section
variable {k : Pos} {e : RegEntry} {terms : Bool}

theorem candidates_self {c : Option Candidate} (stands : s.release.candidate = c) : candidates s c = s := by
  subst stands
  rfl

/-- Where the window is free, a grant clears the candidate, whatever it was. -/
theorem askWindow_free (free : s.windowFree k = true) (c : Option Candidate) :
    (candidates s c).askWindow k e terms = granted s k e terms := by
  have reserved : (candidates s c).reserve k e.number = some ((candidates s c).insertNew (s.window k).1 (s.window k).2
      none (.reservation k s.belt.p e.number)) := if_pos free
  rw [State.askWindow, reserved]
  rfl

/-- Where it is not, a candidate on EXPRESS terms begins its wait, and a wait that runs goes on. -/
theorem askWindow_taken (taken : s.windowFree k = false) (w : Option Nat) :
    (candidates s (some ⟨e.number, terms, w⟩)).askWindow k e terms =
      candidates s (some ⟨e.number, terms, if terms = true ∧ w = none then some 1000 else w⟩) := by
  have refused : (candidates s (some ⟨e.number, terms, w⟩)).reserve k e.number = none :=
    if_neg (ne_true_of_eq_false taken)
  rw [State.askWindow, refused]
  cases terms <;> cases w <;> rfl

variable (rotating : s.release.state = .rotating)
include rotating

theorem settleRelease_none (nobody : s.release.choice s.items.register = none) (again : Bool) :
    s.settleRelease again = candidates s none := by
  simp only [State.settleRelease, rotating, State.chooseCandidate, nobody]
  rfl

variable (token : s.release.token = some k) (chosen : s.release.choice s.items.register = some (e, terms))
include token chosen

/-- A new candidate asks at once. -/
theorem settleRelease_new
    (other : s.release.candidate.all (fun c => c.item != e.number || c.expressTerms != terms) = true) (again : Bool) :
    s.settleRelease again = (candidates s (some ⟨e.number, terms, none⟩)).askWindow k e terms := by
  have new : s.release.candidate.any (fun c => c.item == e.number && c.expressTerms == terms) = false := by
    cases standing : s.release.candidate with
    | none => rfl
    | some c =>
      rw [standing] at other
      simpa [imp_iff_not_or] using other
  simp only [State.settleRelease, rotating, State.chooseCandidate, chosen, token, new]
  rfl

section
variable {w : Option Nat} (stands : s.release.candidate = some ⟨e.number, terms, w⟩)
include stands

/-- A candidate that stands asks again when it is told to. -/
theorem settleRelease_stands (again : Bool) : s.settleRelease again = if again then s.askWindow k e terms else s := by
  simp only [State.settleRelease, rotating, State.chooseCandidate, chosen, token, stands, Option.any_some,
    beq_self_eq_true, Bool.and_self, if_true]

theorem settleRelease_asks : s.settleRelease true =
    (candidates s (some ⟨e.number, terms, w⟩)).askWindow k e terms := by
  rw [candidates_self stands]
  exact settleRelease_stands rotating token chosen stands true

end

end

/-- Settles O50: the window by its tests, the choice by the first entry considered, the candidate by the answer to its
request. -/
theorem candidateAndGrant : Obligations.CandidateAndGrant := by
  refine ⟨windowFree_iff, fun s k token => ⟨choice_barred token, fun rotating dark calm free => ?choice⟩,
    fun s k e terms rotating token chosen => ⟨fun again other => ?new, fun w stands => ⟨?kept, fun free => ?grants,
      fun taken => ?waits⟩⟩, fun s again rotating nobody => settleRelease_none rotating nobody again⟩
  case choice =>
    rw [choice_open token rotating dark calm free]
    refine ⟨fun e ⟨a, z, register, cls, position, state, fresh, before⟩ => ?_,
      fun standard e ⟨a, z, register, cls, position, state, fresh, before⟩ => ?_, fun none_waits => ?_⟩
    · exact eligible_express (register ▸ find_considered ⟨position, state, fresh⟩ cls before)
    · exact eligible_standard (fun m there waits => standard m ⟨there, waits⟩)
        (register ▸ find_considered ⟨position, state, fresh⟩ cls before)
    · exact eligible_none fun m there waits => none_waits m ⟨there, waits⟩
  case new =>
    rw [settleRelease_new rotating token chosen other]
    cases free : s.windowFree k with
    | true =>
      rw [if_pos rfl, askWindow_free free]
      rfl
    | false =>
      rw [if_neg Bool.false_ne_true, askWindow_taken free]
      simp only [and_true]
      rfl
  case kept => exact settleRelease_stands rotating token chosen stands false
  case grants =>
    rw [settleRelease_asks rotating token chosen stands, askWindow_free free]
    rfl
  case waits =>
    rw [settleRelease_asks rotating token chosen stands, askWindow_taken taken]
    rfl

end Sys2Proof.Machine.Candidates
end

section
/-! PROOFS of 10_host_link_calendar_and_settings.md: S_STORE with its refusals, the ranges of the host fields, and what
the end of the write leaves (R138, R200 to R203). -/

namespace Sys2Proof.Machine.SettingsStore

variable {s : State}

/-! ## The ranges of the host fields (R138, R200) -/

/-- Every check of a list holds. -/
def Passes (l : List (FieldName × Bool)) : Prop := ∀ c ∈ l, c.2 = true

theorem fault_none_iff (h : HostFields) : h.fault = none ↔ Passes h.checks := by
  simp [HostFields.fault, Passes]

theorem passes_append (l m : List (FieldName × Bool)) : Passes (l ++ m) ↔ Passes l ∧ Passes m :=
  List.forall_mem_append

theorem passes_cons (f : FieldName) (b : Bool) (l : List (FieldName × Bool)) :
    Passes ((f, b) :: l) ↔ b = true ∧ Passes l := List.forall_mem_cons

theorem passes_nil : Passes [] := nofun

theorem between_iff (lo hi v : Nat) : between lo hi v = true ↔ lo ≤ v ∧ v ≤ hi := by simp [between]

theorem pos_mem_all (k : Pos) : k ∈ Pos.all := by cases k <;> decide

theorem axis_mem_all (a : Axis) : a ∈ Axis.all := by cases a <;> decide

theorem homeOffsetChecks_iff (h : HostFields) :
    Passes (homeOffsetChecks h) ↔ ∀ k a, (h.homeOffsets.get k).get a ≤ 200 := by
  simp only [Passes, homeOffsetChecks, List.forall_mem_flatMap, List.forall_mem_map, between_iff, Nat.zero_le, true_and]
  exact ⟨fun passes k a => passes k (pos_mem_all k) a (axis_mem_all a), fun within k _ a _ => within k a⟩

theorem defaultChecks_iff (h : HostFields) : Passes (defaultChecks h) ↔
    ∀ k, (2000 ≤ (h.defaults.get k).1 ∧ (h.defaults.get k).1 ≤ 60000) ∧ (h.defaults.get k).2 ≤ 3 := by
  simp [Passes, defaultChecks, between_iff, pos_mem_all, or_imp, forall_and]

theorem forall_pos {p : Pos → Prop} : (∀ k, p k) ↔ p .p1 ∧ p .p2 ∧ p .p3 ∧ p .p4 ∧ p .p5 ∧ p .p6 :=
  ⟨fun h => ⟨h _, h _, h _, h _, h _, h _⟩, fun ⟨h1, h2, h3, h4, h5, h6⟩ k => by cases k <;> assumption⟩

theorem inductChecks_iff (g : Geometry) : Passes (inductChecks g) ↔
    (∀ k, 1500 ≤ g.d.get k ∧ g.d.get k ≤ 20000) ∧ g.d.get .p2 < g.d.get .p1 ∧ g.d.get .p3 < g.d.get .p2 ∧
      g.d.get .p4 < g.d.get .p3 ∧ g.d.get .p5 < g.d.get .p4 ∧ g.d.get .p6 < g.d.get .p5 := by
  rw [forall_pos]
  simp only [inductChecks, passes_cons, passes_nil, Bool.and_eq_true, between_iff, Option.all_none, Option.all_some,
    decide_eq_true_eq]
  simp only [Six.get]
  tauto

theorem geometryChecks_iff (g : Geometry) : Passes (geometryChecks g) ↔
    g.aOff ≤ 300 ∧ (200 ≤ g.dDiv ∧ g.dDiv ≤ 3000) ∧ (300 ≤ g.pitch ∧ g.pitch ≤ 3000) ∧
      (100 ≤ g.gap ∧ g.gap ≤ 1000) ∧ (500 ≤ g.lres ∧ g.lres ≤ 4000) ∧ (20 ≤ g.tol ∧ g.tol ≤ 200) ∧
      (g.tol + 100 ≤ g.slow ∧ g.slow ≤ 2000 ∧ g.slow < g.d.get .p6) ∧
      (100 ≤ g.accel ∧ g.accel ≤ 2000) ∧ (100 ≤ g.decel ∧ g.decel ≤ 2000) := by
  simp only [geometryChecks, passes_cons, passes_nil, Bool.and_eq_true, between_iff, decide_eq_true_eq, Six.get,
    Nat.zero_le, true_and, and_true, and_assoc]

/-! ## S_STORE (R202) -/

section
variable {h : HostFields}

theorem storeRefusal_busy (busy : s.settings.store.isSome = true) : s.storeRefusal h = some (.storeBusy, .none) :=
  if_pos busy

section
variable (free : s.settings.store = none)
include free

theorem storeRefusal_field {f : FieldName} (fault : h.fault = some f) :
    s.storeRefusal h = some (.badField, .field f) := by
  rw [State.storeRefusal, free, fault]
  rfl

theorem storeRefusal_line (right : h.fault = none) : s.storeRefusal h =
    if lineFields h ≠ lineFields s.settings.host ∧ (s.belt.drive ≠ .stopped ∨ s.belt.queue ≠ []) then
      some (.beltBusy, .none) else none := by
  rw [State.storeRefusal, free, right]
  rfl

end

variable {i : SlotId} (takes : s.takes i) (tag : Byte)
include takes

theorem exec_sStore : exec (.sStore tag h) s = .next (serveSStore h i (s.held i tag .sStore)) :=
  congrArg _ (s.request_takes takes tag .sStore _)

theorem exec_sStore_refused {r : Reason} {f : Fields} (refused : s.storeRefusal h = some (r, f)) :
    exec (.sStore tag h) s = s.refuses i tag .sStore r f := by
  rw [exec_sStore takes, serveSStore, show (s.held i tag .sStore).storeRefusal h = some (r, f) from refused]
  rfl

/-- The host fields of an accepted store take effect at once, and the write begins. -/
theorem exec_sStore_taken (accepted : s.storeRefusal h = none) :
    exec (.sStore tag h) s = .next ((s.held i tag .sStore).store h i) := by
  rw [exec_sStore takes, serveSStore, show (s.held i tag .sStore).storeRefusal h = none from accepted]

end

/-- The copy written is the one that does not hold the record in force, and copy 1 under defaults (log 43). -/
theorem writeCopy_eq (t : Settings) : t.writeCopy = if t.source = .copy .one then .two else .one := by
  cases source : t.source with
  | defaulted => simp [Settings.writeCopy, source]
  | copy c => cases c <;> simp [Settings.writeCopy, source, CopyId.other]

/-- What an accepted store changes: the host fields, the run target down to the new Vmax, and the low mark, formed anew
(log 45). -/
theorem store_eq (s : State) (h : HostFields) (i : SlotId) : s.store h i = ((s.onSettings fun t => { t with
    host := h
    store := some ⟨if t.source = .copy .one then .two else .one,
      ⟨h, s.weighing.channels.map Channel.stored, s.weighing.timeout⟩, t.seq + 1, i⟩ }).onBelt fun q => { q with
        runTarget := if h.vmax < q.runTarget then h.vmax else q.runTarget }).onItems fun m => { m with
          lowMark := decide (poolLeft m.pool < h.lowWater) } := by
  have lower (n : Nat) : min n h.vmax = if h.vmax < n then h.vmax else n := by
    split <;> omega
  simp only [State.store, lower, writeCopy_eq]

/-! ## The end of the write (R203) -/

theorem setCopy_eq (t : Settings) (k : CopyId) (c : Copy) :
    t.setCopy k c = if k = .one then { t with copy1 := c } else { t with copy2 := c } := by cases k <;> rfl

theorem exec_storeWriteComplete (running : s.running = true) (ok : Bool) :
    exec (.storeWriteComplete ok) s = .next (s.storeDone ok) := congrArg _ (if_pos running)

/-- Settles O56: a store by the refusal found, the ranges by the lists of checks, the end of the write by its
success. -/
theorem settingsStored : Obligations.SettingsStored := by
  refine ⟨fun s i tag h takes => ?store, fun h => ?ranges, fun s ok running =>
    ⟨fun free => ?idle, fun w writing => ?ends⟩, fun c q r => ?valid, Copy.written_valid, Copy.spoilt_invalid⟩
  case store =>
    refine ⟨fun busy => ?_, fun f free fault => ?_, fun free right busy => ?_, fun free right still => ?_⟩
    · exact exec_sStore_refused takes tag (storeRefusal_busy busy)
    · exact exec_sStore_refused takes tag (storeRefusal_field free fault)
    · exact exec_sStore_refused takes tag ((storeRefusal_line free right).trans (if_pos busy))
    · rw [exec_sStore_taken takes tag ((storeRefusal_line free right).trans (if_neg still)), store_eq]
      rfl
  case ranges =>
    rw [fault_none_iff]
    simp only [HostFields.checks, passes_append, passes_cons, passes_nil, homeOffsetChecks_iff, inductChecks_iff,
      geometryChecks_iff, defaultChecks_iff, between_iff, Nat.zero_le, true_and, and_true, and_assoc]
  case idle =>
    rw [exec_storeWriteComplete running, State.storeDone, free]
  case ends =>
    constructor
    all_goals
      rw [exec_storeWriteComplete running, State.storeDone, writing]
      simp only [setCopy_eq]
      rfl
  case valid =>
    rw [Copy.valid_iff, eq_comm (a := q), eq_comm (a := r)]
    rfl

end Sys2Proof.Machine.SettingsStore
end

section
/-! PROOFS of 08_induction_release.md: the staffed positions in ascending order and the one that comes next, the end of
a negotiation (R157), the timers of the Release Controller (R158, R160, R163), and the pass of the token with its
arrival (R159, R161). -/

namespace Sys2Proof.Machine.TokenTimers

open SettingsStore RateCache LineSettled Candidates

variable {r : Release}

/-! ## The staffed positions in ascending order -/

theorem mem_staffed {k : Pos} : k ∈ r.staffed ↔ (r.places.get k).staffed = true := by
  simp [Release.staffed, pos_mem_all]

theorem staffed_ascends (r : Release) : r.staffed.Pairwise (fun j k => j.number ≤ k.number) :=
  List.Pairwise.filter _ (by decide)

theorem number_injective : Function.Injective Pos.number := fun j k same => Option.some.inj <|
  (ofNumber_number j).symm.trans ((congrArg Pos.ofNumber same).trans (ofNumber_number k))

theorem lowest_staffed {k : Pos} (lowest : r.lowest = some k) : (r.places.get k).staffed = true :=
  mem_staffed.mp (List.mem_of_mem_head? lowest)

theorem lowest_le {j k : Pos} (lowest : r.lowest = some j) (staffed : (r.places.get k).staffed = true) :
    j.number ≤ k.number := by
  obtain ⟨rest, ascending⟩ := List.head?_eq_some_iff.mp lowest
  have there := mem_staffed.mpr staffed
  have ascends := staffed_ascends r
  rw [ascending] at there ascends
  obtain rfl | later := List.mem_cons.mp there
  · exact Nat.le_refl _
  · exact List.rel_of_pairwise_cons ascends later

/-- The lowest-numbered staffed position is the one that no staffed position is below. -/
theorem lowest_iff {k : Pos} : r.lowest = some k ↔
    (r.places.get k).staffed = true ∧ ∀ j, (r.places.get j).staffed = true → k.number ≤ j.number := by
  refine ⟨fun lowest => ⟨lowest_staffed lowest, fun j staffed => lowest_le lowest staffed⟩, fun ⟨staffed, least⟩ => ?_⟩
  cases lowest : r.lowest with
  | none => exact absurd (List.head?_eq_none_iff.mp lowest) (List.ne_nil_of_mem (mem_staffed.mpr staffed))
  | some j =>
    have same := Nat.le_antisymm (lowest_le lowest staffed) (least j (lowest_staffed lowest))
    exact congrArg some (number_injective same)

/-- Whether k is the lowest-numbered staffed position, told by a test of each position. -/
def standsLowest (r : Release) (k : Pos) : Bool := (r.places.get k).staffed &&
  Pos.all.all (fun j => !(r.places.get j).staffed || decide (k.number ≤ j.number))

theorem standsLowest_iff {k : Pos} : standsLowest r k = true ↔ r.lowest = some k := by
  simp [standsLowest, lowest_iff, pos_mem_all, imp_iff_not_or]

/-- The lowest position is told by who is staffed. -/
theorem lowest_congr {q : Release} (same : ∀ k, (q.places.get k).staffed = (r.places.get k).staffed) :
    q.lowest = r.lowest := by
  simp only [Release.lowest, Release.staffed, same]

theorem lowest_none (nobody : ∀ k, ¬(r.places.get k).staffed = true) : r.lowest = none :=
  List.head?_eq_none_iff.mpr (List.eq_nil_iff_forall_not_mem.mpr fun k there => nobody k (mem_staffed.mp there))

/-! ## The position that comes next (R161) -/

/-- How many positions stand between k and j on the way up from k, with wrap-around. -/
def away (k j : Pos) : Nat := (j.number + 5 - k.number) % 6

theorem away_lt (k j : Pos) : away k j < 6 := Nat.mod_lt _ (by decide)

theorem next_away (k j : Pos) : Pos.next^[away k j] k.next = j := by
  cases k <;> cases j <;> rfl

theorem away_next (k : Pos) : ∀ i < 6, away k (Pos.next^[i] k.next) = i := by
  cases k <;> decide

/-- The search finds the first staffed position that it comes to. -/
theorem go_finds (d : Nat) : ∀ (n : Nat) (q : Pos), d < n → (r.places.get (Pos.next^[d] q)).staffed = true →
    (∀ i < d, ¬(r.places.get (Pos.next^[i] q)).staffed = true) → Release.nextStaffed.go r n q = Pos.next^[d] q := by
  induction d with
  | zero =>
    intro n q enough here _
    obtain ⟨n, rfl⟩ := Nat.exists_eq_succ_of_ne_zero (Nat.ne_of_gt enough)
    exact if_pos here
  | succ d ih =>
    intro n q enough there before
    obtain ⟨n, rfl⟩ := Nat.exists_eq_succ_of_ne_zero (Nat.ne_zero_of_lt enough)
    exact (if_neg (before 0 (Nat.succ_pos d))).trans (ih n q.next (Nat.lt_of_succ_lt_succ enough) there
      fun i less => before (i + 1) (Nat.succ_lt_succ less))

theorem nextStaffed_eq {k j : Pos} (staffed : (r.places.get j).staffed = true)
    (nearest : ∀ m, (r.places.get m).staffed = true → away k j ≤ away k m) : r.nextStaffed k = j := by
  refine (go_finds (away k j) 6 k.next (away_lt k j) ((next_away k j).symm ▸ staffed)
    fun i less found => ?_).trans (next_away k j)
  have farther := nearest _ found
  rw [away_next k i (Nat.lt_trans less (away_lt k j))] at farther
  exact Nat.not_le.mpr less farther

/-! ## The end of a negotiation (R157) -/

theorem endNegotiation_nobody (nobody : ∀ k, ¬(r.places.get k).staffed = true) (moving : Bool) :
    r.endNegotiation moving = r.enterIdle := by rw [Release.endNegotiation, lowest_none nobody]

theorem smallestTreq_eq {t : Nat} (asked : ∃ j, (r.places.get j).staffed = true ∧ (r.places.get j).treq = t)
    (least : ∀ j, (r.places.get j).staffed = true → t ≤ (r.places.get j).treq) : r.smallestTreq = some t := by
  refine List.min?_eq_some_iff.mpr ⟨?_, fun n among => ?_⟩
  · obtain ⟨j, staffed, treq⟩ := asked
    exact List.mem_map.mpr ⟨j, mem_staffed.mpr staffed, treq⟩
  · obtain ⟨j, staffed, rfl⟩ := List.mem_map.mp among
    exact least j (mem_staffed.mp staffed)

/-- The token arrives at the lowest staffed position, every staffed one having TTRT to rotate (R157, R159). -/
theorem endNegotiation_arrives {k : Pos} {t : Nat} (lowest : r.lowest = some k) (smallest : r.smallestTreq = some t)
    (moving : Bool) : r.endNegotiation moving = { r with
      state := if moving then .rotating else .suspended
      negotiation := 0, ttrt := some t, token := some k, tht := t, express := 0, visited := []
      waitMark := false, candidate := none
      places := (r.places.map (fun p => if p.staffed then { p with trt := t, mode := .running, late := false }
        else p)).set k { r.places.get k with trt := t, mode := .held, late := false } } := by
  have staffed := (lowest_iff.mp lowest).1
  simp [Release.endNegotiation, lowest, smallest, Release.arrive, staffed]

/-! ## The timers (R157, R158, R160, R163) -/

section
variable {s : State} (running : s.running = true)
include running

theorem exec_negotiationTimerExpiry : exec .negotiationTimerExpiry s = .next s.negotiationExpires :=
  congrArg _ (if_pos running)

theorem exec_rotationTimerExpiry (k : Pos) : exec (.rotationTimerExpiry k) s = .next (s.rotationExpires k) :=
  congrArg _ (if_pos running)

theorem exec_thtExpiry : exec .thtExpiry s = .next s.holdingExpires := congrArg _ (if_pos running)

theorem exec_expressWaitExpiry : exec .expressWaitExpiry s = .next s.expressExpires := congrArg _ (if_pos running)

theorem exec_tokenPass : exec .tokenPass s = .next s.passToken := congrArg _ (if_pos running)

end

section
variable {s : State}

theorem settle_congr {f g : Release → Release} (same : f s.release = g s.release) :
    State.settle s (s.onRelease f) = State.settle s (s.onRelease g) :=
  congrArg (fun q => State.settle s { s with release := q }) same

theorem negotiationExpires_ends (negotiating : s.release.state = .negotiating) {f : Release → Release}
    (ends : s.release.endNegotiation s.belt.drive.moving = f s.release) :
    s.negotiationExpires = State.settle s (s.onRelease f) := (if_pos negotiating).trans (settle_congr ends)

theorem rotationRuns_iff {k : Pos} : s.rotationRuns k = true ↔ (s.release.places.get k).staffed = true ∧
    (s.release.places.get k).mode = .running ∧ s.release.state = .rotating := by
  simp [State.rotationRuns, and_assoc]

theorem rotationExpires_stopped {k : Pos} (stopped : ¬s.rotationRuns k = true) : s.rotationExpires k = s :=
  if_neg stopped

theorem rotationExpires_early {k : Pos} (runs : s.rotationRuns k = true)
    (early : (s.release.places.get k).late = false) :
    s.rotationExpires k = s.onPlace k (fun p => { p with late := true, trt := s.release.ttrt.getD 0 }) :=
  (if_pos runs).trans (if_neg (ne_true_of_eq_false early))

theorem rotationExpires_late {k : Pos} (runs : s.rotationRuns k = true) (late : (s.release.places.get k).late = true) :
    s.rotationExpires k = State.settle s (s.rotationOverrun k) := (if_pos runs).trans (if_pos late)

theorem holdingRuns_iff : s.holdingRuns = true ↔
    s.release.state = .rotating ∧ s.release.token ≠ none ∧ s.release.lit = none := by
  simp [State.holdingRuns, and_assoc, Option.isSome_iff_ne_none]

theorem expressRuns_iff :
    (s.release.state = .rotating ∧ s.release.candidate.any (fun c => c.wait.isSome) = true) ↔
      s.release.state = .rotating ∧ ∃ c, s.release.candidate = some c ∧ c.wait ≠ none := by
  cases s.release.candidate <;> simp [Option.isSome_iff_ne_none]

end

/-! ## The pass of the token (R159, R161) -/

/-- An entry that a visit to k may release (R162): of any class in the time held, an EXPRESS one up to X. -/
def MayGo (r : Release) (k : Pos) (e : RegEntry) : Prop :=
  e.position = k ∧ e.state = .awaitRelease ∧ e.number ∉ r.visited ∧
    (0 < r.tht ∨ (e.cls = .express ∧ r.express < (r.places.get k).x))

theorem mayGo_iff {k : Pos} {e : RegEntry} : MayGo r k e ↔
    Waits r k e ∧ (0 < r.tht ∨ (e.cls = .express ∧ r.express < (r.places.get k).x)) := by
  simp only [MayGo, Waits, and_assoc]

/-- The pass condition (R161). -/
def Passes (r : Release) (k : Pos) (register : List RegEntry) : Prop :=
  r.state = .rotating ∧ r.lit = none ∧ r.pendingMark = false ∧ (r.waitMark = true ∨ ¬∃ e ∈ register, MayGo r k e)

section
variable {k : Pos} {register : List RegEntry}

/-- A visit finds an entry eligible exactly where there is one that it may release. -/
theorem eligible_isSome_iff : (r.eligible k register).isSome = true ↔ ∃ e ∈ register, MayGo r k e := by
  simp only [mayGo_iff]
  cases first : (r.considered k register).find? (fun m => m.cls == .express) with
  | some e =>
    obtain ⟨there, waits⟩ := mem_considered.mp (List.mem_of_find?_eq_some first)
    have express : e.cls = .express := by simpa using List.find?_some first
    rw [eligible_express first]
    constructor
    · intro some
      refine ⟨e, there, waits, ?_⟩
      by_cases count : r.express < (r.places.get k).x
      · exact .inr ⟨express, count⟩
      · by_cases time : 0 < r.tht
        · exact .inl time
        · simp [count, time] at some
    · rintro ⟨m, -, -, time | ⟨-, count⟩⟩
      · simp only [time, if_true]
        split <;> rfl
      · simp only [count, if_true, Option.isSome_some]
  | none =>
    have standard : ∀ m ∈ register, Waits r k m → m.cls = .standard := by
      intro m there waits
      have other := List.find?_eq_none.mp first m (mem_considered.mpr ⟨there, waits⟩)
      cases cls : m.cls with
      | standard => rfl
      | express => simp [cls] at other
    cases second : (r.considered k register).find? (fun m => m.cls == .standard) with
    | some e =>
      obtain ⟨there, waits⟩ := mem_considered.mp (List.mem_of_find?_eq_some second)
      rw [eligible_standard standard second]
      constructor
      · intro some
        by_cases time : 0 < r.tht
        · exact ⟨e, there, waits, .inl time⟩
        · simp [time] at some
      · rintro ⟨m, there, waits, time | ⟨express, -⟩⟩
        · simp only [time, if_true, Option.isSome_some]
        · cases (standard m there waits).symm.trans express
    | none =>
      have nobody : ∀ m ∈ register, ¬Waits r k m := fun m there waits =>
        List.find?_eq_none.mp second m (mem_considered.mpr ⟨there, waits⟩) (by simp [standard m there waits])
      rw [eligible_none nobody]
      exact ⟨nofun, fun ⟨m, there, waits, _⟩ => absurd waits (nobody m there)⟩

theorem passFrom_eq (token : r.token = some k) [Decidable (Passes r k register)] :
    r.passFrom register = if Passes r k register then some k else none := by
  simp only [Release.passFrom, token]
  refine if_congr ?_ rfl rfl
  simp [Passes, ← eligible_isSome_iff]

end

/-- The token leaves k and arrives at the next staffed position, early with what its timer holds, or late with
nothing. -/
theorem pass_eq {k j : Pos} (next : r.nextStaffed k = j) : r.pass k =
    let places := r.places.set k { r.places.get k with mode := .running }
    let p := places.get j
    { r with
      token := some j, tht := if p.late then 0 else p.trt, express := 0, visited := [], waitMark := false
      candidate := none
      places := places.set j { p with late := false, trt := r.ttrt.getD 0, mode := .held }
      stats := { r.stats with
        late := if p.late then bump Config.stat32 r.stats.late else r.stats.late
        rotations := if standsLowest r j then bump Config.stat32 r.stats.rotations else r.stats.rotations } } := by
  have lowest : Release.lowest { r with
      places := r.places.set k { r.places.get k with mode := .running }, candidate := none, tht := 0 } = r.lowest :=
    lowest_congr fun q => by
      by_cases same : q = k
      · subst same
        rw [Six.get_set_self]
      · rw [Six.get_set_ne _ _ same]
  rw [Release.pass, next, Release.arriveByPass, lowest]
  simp only [standsLowest_iff, Release.arrive]
  split <;> split <;> rfl

theorem passToken_stays {s : State} {k : Pos} (token : s.release.token = some k)
    (stays : ¬Passes s.release k s.items.register) : s.passToken = s := by
  classical
  rw [State.passToken, passFrom_eq token, if_neg stays]

theorem passToken_passes {s : State} {k : Pos} (token : s.release.token = some k)
    (passes : Passes s.release k s.items.register) :
    s.passToken = State.settle s (s.onRelease fun r => r.pass k) := by
  classical
  rw [State.passToken, passFrom_eq token, if_pos passes]

/-- Settles O49: a negotiation ends by who is staffed, a rotation timer by its late flag, a visit by its pass
condition; the other timers expire while they count. -/
theorem releaseTimers : Obligations.ReleaseTimers := by
  intro s running
  refine ⟨fun calm => ?_, fun negotiating nobody => ?_, fun k t negotiating lowest asked least => ?_,
    fun k => ⟨fun stopped => ?_, fun counts early => ?_, fun counts late => ?_⟩,
    fun k token => ⟨fun stays => ?_, fun j passes staffed nearest => ?_⟩, fun parked => ?_,
    ⟨fun stopped => ?_, fun counts => ?_⟩, fun stopped => ?_, fun counts => ?_⟩
  · rw [exec_negotiationTimerExpiry running, State.negotiationExpires, if_neg calm]
  · rw [exec_negotiationTimerExpiry running]
    exact congrArg _ (negotiationExpires_ends negotiating (endNegotiation_nobody nobody _))
  · have ends := endNegotiation_arrives (standsLowest_iff.mp lowest) (smallestTreq_eq asked least) s.belt.drive.moving
    simp only [moving_iff] at ends
    rw [exec_negotiationTimerExpiry running]
    exact congrArg _ (negotiationExpires_ends negotiating ends)
  · rw [exec_rotationTimerExpiry running, rotationExpires_stopped (mt rotationRuns_iff.mp stopped)]
  · rw [exec_rotationTimerExpiry running, rotationExpires_early (rotationRuns_iff.mpr counts) early]
    rfl
  · rw [exec_rotationTimerExpiry running, rotationExpires_late (rotationRuns_iff.mpr counts) late]
    rfl
  · rw [exec_tokenPass running, passToken_stays token stays]
  · rw [exec_tokenPass running, passToken_passes token passes]
    exact congrArg _ (settle_congr (pass_eq (nextStaffed_eq staffed nearest)))
  · rw [exec_tokenPass running, State.passToken, Release.passFrom, parked]
  · rw [exec_thtExpiry running, State.holdingExpires, if_neg (mt holdingRuns_iff.mp stopped)]
  · rw [exec_thtExpiry running, State.holdingExpires, if_pos (holdingRuns_iff.mpr counts)]
  · rw [exec_expressWaitExpiry running, State.expressExpires, if_neg (mt expressRuns_iff.mp stopped)]
  · rw [exec_expressWaitExpiry running, State.expressExpires, if_pos (expressRuns_iff.mpr counts)]

end Sys2Proof.Machine.TokenTimers
end

section
/-! PROOFS of 08_induction_release.md: P_OPEN and P_CLOSE (R154, R155), the negotiation they call for (R156), and the
lit release that a P_CLOSE ends (R168). -/

namespace Sys2Proof.Machine.Staffing

open LineOperations DriveCommands

/-! ## A negotiation called for (R156) -/

/-- A call for a negotiation leaves a controller that neither rotates nor is suspended so. -/
theorem callNegotiation_calm {r : Release} (calm : r.state = .idle ∨ r.state = .negotiating) :
    r.callNegotiation.state = .idle ∨ r.callNegotiation.state = .negotiating := by
  unfold Release.callNegotiation
  split
  · exact calm
  · split
    · exact calm
    · split
      · exact calm
      · exact .inr rfl

/-- A line at rest stays so while the controller stays IDLE or NEGOTIATING. -/
theorem onRelease_atRest {s : State} (rest : s.atRest) {f : Release → Release}
    (keeps : s.release.state = .idle ∨ s.release.state = .negotiating →
      (f s.release).state = .idle ∨ (f s.release).state = .negotiating) : (s.onRelease f).atRest := by
  obtain ⟨queue, tamp, diverter, reason, drive, calm⟩ := rest
  exact ⟨queue, tamp, diverter, reason, drive, keeps calm⟩

/-! ## P_OPEN (R154) -/

theorem openPlace_calm {r : Release} (k : Pos) (treq x : Nat) (calm : r.state = .idle ∨ r.state = .negotiating) :
    (r.openPlace k treq x).state = .idle ∨ (r.openPlace k treq x).state = .negotiating := by
  unfold Release.openPlace
  exact callNegotiation_calm calm

theorem exec_pOpen {s : State} {i : SlotId} (takes : s.takes i) (tag : Byte) (n : Nat) (treq x : Option Nat) :
    exec (.pOpen tag n treq x) s = .next (servePOpen n treq x i (s.held i tag .pOpen)) :=
  congrArg _ (s.request_takes takes tag .pOpen _)

section
variable {s : State} {n : Nat} {k : Pos} (named : Pos.ofNumber n = some k) (i : SlotId) (treq : Option Nat)
  {x : Option Nat}
include named

theorem servePOpen_outside (outside : 3 < x.getD (s.settings.host.defaults.get k).2) :
    servePOpen n treq x i s = s.badField i .x := by
  simp only [servePOpen, atPosition, named]
  exact if_pos outside

theorem servePOpen_opens (inside : ¬3 < x.getD (s.settings.host.defaults.get k).2) {used : Nat}
    (limited : limit 2000 60000 (treq.getD (s.settings.host.defaults.get k).1) = used) : servePOpen n treq x i s =
      (State.settle s (s.onRelease fun r =>
        r.openPlace k used (x.getD (s.settings.host.defaults.get k).2))).answer i
          (if used = treq.getD (s.settings.host.defaults.get k).1 then .ok (.milliseconds used)
            else .clamped (.milliseconds used)) := by
  subst limited
  rw [← okOrClamped_eq]
  simp only [servePOpen, atPosition, named]
  exact if_neg inside

end

/-! ## P_CLOSE (R155, R168) -/

theorem staffed_isEmpty (r : Release) : r.staffed.isEmpty = Pos.all.all (fun j => !(r.places.get j).staffed) := by
  rw [Bool.eq_iff_iff]
  simp [Release.staffed]

theorem closePlace_calm {r : Release} (k : Pos) (calm : r.state = .idle ∨ r.state = .negotiating) :
    (r.closePlace k).state = .idle ∨ (r.closePlace k).state = .negotiating := by
  unfold Release.closePlace
  dsimp only
  split
  · exact .inl rfl
  · exact callNegotiation_calm calm

theorem exec_pClose {s : State} {i : SlotId} (takes : s.takes i) (tag : Byte) (n : Nat) :
    exec (.pClose tag n) s = .next (servePClose n i (s.held i tag .pClose)) :=
  congrArg _ (s.request_takes takes tag .pClose _)

section
variable {s : State} {n : Nat} {k : Pos} (named : Pos.ofNumber n = some k) (i : SlotId)
include named

theorem servePClose_unstaffed (unstaffed : (s.release.places.get k).staffed = false) :
    servePClose n i s = s.refuse i .notStaffed := by
  simp only [servePClose, atPosition, named, unstaffed]
  rfl

variable (staffed : (s.release.places.get k).staffed = true)
include staffed

theorem servePClose_dark (dark : s.release.lit.all (fun l => l.position != k) = true) :
    servePClose n i s = (State.settle s (s.onRelease fun r => r.closePlace k)).ok i := by
  have unlit : s.release.lit.any (fun l => l.position == k) = false := by
    cases lit : s.release.lit with
    | none => rfl
    | some l => simpa [lit] using dark
  simp [servePClose, atPosition, named, staffed, unlit]

theorem servePClose_lit {l : LitRelease} (lit : s.release.lit = some l) (here : l.position = k) :
    servePClose n i s =
      (State.settle s ((((s.removeReservation l.item).returnItem l.item).onRelease Release.endLit).onRelease
        fun r => r.closePlace k)).ok i := by
  simp only [servePClose, atPosition, named, staffed, lit, Option.any_some, here, beq_self_eq_true, if_true,
    State.endUninducted]
  rfl

end

/-- Settles O48: a position is opened or closed and the line settles; where its release is lit, that ends first. -/
theorem positionRequests : Obligations.PositionRequests := by
  intro s i tag n k takes named parked idled called p
  refine ⟨fun treq x => ?opens, ?closes⟩
  case opens =>
    intro x' asked used opened served done
    refine ⟨fun outside => ?_, fun inside => ⟨?_, fun rest => ?_⟩⟩
    · rw [exec_pOpen takes, servePOpen_outside (s := served) named i treq outside]
      rfl
    · rw [exec_pOpen takes, servePOpen_opens (s := served) named i treq (Nat.not_lt.mpr inside)
        (limit_eq (by decide) asked)]
      rfl
    · have rests : (served.onRelease fun r => r.openPlace k used x').atRest :=
        onRelease_atRest (s := served) rest (openPlace_calm k used x')
      exact settle_atRest rests served
  case closes =>
    intro served shut close
    have shuts : (fun r : Release => r.closePlace k) = shut := funext fun r => by
      rw [Release.closePlace, staffed_isEmpty]
      rfl
    refine ⟨fun unstaffed => ?_, fun staffed dark => ⟨?_, fun rest => ?_⟩, fun l staffed lit here => ?_⟩
    · rw [exec_pClose takes, servePClose_unstaffed (s := served) named i unstaffed]
      rfl
    · rw [exec_pClose takes, servePClose_dark (s := served) named i staffed dark, shuts]
      rfl
    · rw [← shuts]
      exact settle_atRest (onRelease_atRest (s := served) rest (closePlace_calm k)) served
    · rw [exec_pClose takes, servePClose_lit (s := served) named i staffed lit here, shuts]
      rfl

end Sys2Proof.Machine.Staffing
end

section
/-! PROOFS of 09_labels_applicator_and_diverter.md: an ejection (R179), the displacement test (R182), and the printer's
READY, PRESENTED and FAULT reports (R173, R175 to R177, R181). -/

namespace Sys2Proof.Machine.PrinterReportEvents

variable {s : State} {id : Nat}

/-! ## An ejection (R179) -/

/-- The pad is EMPTY with its label counted wasted, and a PRESENTED printer is READY. -/
def padCleared (s : State) : State := s.onLabel fun u => { u with
  pad := .empty
  printer := if u.printer = .presented then .ready else u.printer
  stats := { u.stats with wasted := bump Config.stat32 u.stats.wasted } }

theorem eject_nobody (s : State) (l : LabelState) : s.eject none l = padCleared s := rfl

/-- The label state of an entry is one that an ejection changes (R178). -/
theorem labelOpen_iff : (s.labelOf id).any (fun l => !finalLabel l) = true ↔
    s.labelOf id = some .notStarted ∨ s.labelOf id = some .printing ∨ s.labelOf id = some .presented := by
  cases s.labelOf id with
  | none => simp
  | some l => cases l <;> simp [finalLabel]

theorem eject_open (opened : s.labelOf id = some .notStarted ∨ s.labelOf id = some .printing ∨
    s.labelOf id = some .presented) (l : LabelState) : s.eject (some id) l = padCleared (s.setLabel id l) :=
  congrArg padCleared (if_pos (labelOpen_iff.mpr opened))

theorem eject_final (final : s.labelOf id = none ∨ s.labelOf id = some .applied ∨ s.labelOf id = some .skipped ∨
    s.labelOf id = some .wasted) (l : LabelState) : s.eject (some id) l = padCleared s := by
  refine congrArg padCleared (if_neg fun opened => ?_)
  obtain label | label | label := labelOpen_iff.mp opened <;> simp [label] at final

/-! ## The displacement test (R182) -/

theorem armedFor_iff : s.armedFor id = true ↔ ∃ p, s.label.tamp = .armed id p := by
  unfold State.armedFor
  cases s.label.tamp <;> simp

/-- What stands before an entry of the queue is what stands before the first entry of its name. -/
theorem unprintedBefore_eq {a z : List Entry} {x : Entry} (other : ∀ e ∈ a, e.id ≠ x.id) :
    State.unprintedBefore x.id (a ++ x :: z) = a.any Entry.unprinted := by
  induction a with
  | nil => exact if_pos rfl
  | cons e rest ih =>
    obtain ⟨apart, other⟩ := List.forall_mem_cons.mp other
    rw [List.cons_append, State.unprintedBefore, if_neg apart, ih other, List.any_cons]

/-- A held label whose tamp is not armed gives way exactly to an unprinted ITEM before its entry. -/
theorem displace_eq {a z : List Entry} {x : Entry} (pad : s.label.pad = .holding x.id)
    (unarmed : ∀ p, s.label.tamp ≠ .armed x.id p) (queue : s.belt.queue = a ++ x :: z)
    (other : ∀ e ∈ a, e.id ≠ x.id) : s.displace = if a.any Entry.unprinted = true then
      (s.eject (some x.id) .notStarted).onLabel (fun u => { u with
        stats := { u.stats with displaced := bump Config.stat32 u.stats.displaced } }) else s := by
  have stands : (s.findEntry x.id).isSome = true := by simp [State.findEntry, queue]
  have free : s.armedFor x.id = false :=
    Bool.eq_false_iff.mpr fun armed => (armedFor_iff.mp armed).elim unarmed
  simp only [State.displace, pad, free, stands, queue, unprintedBefore_eq other, Bool.not_false, Bool.true_and]
  rfl

/-! ## The reports of a part that runs -/

section
variable (running : s.running = true)
include running

theorem exec_printerReadyReport : exec .printerReadyReport s = .next s.printerReady := congrArg _ (if_pos running)

theorem exec_printerPresentedReport : exec .printerPresentedReport s = .next s.printerPresented :=
  congrArg _ (if_pos running)

theorem exec_printerFaultReport (r : ReportedFault) :
    exec (.printerFaultReport r) s = .next (s.printerFaulted r.kind) := congrArg _ (if_pos running)

end

/-! ## READY (R175, R176) -/

/-- The job's record sent again, with the time of a job. -/
def resent (s : State) (j : Job) : State := s.onLabel fun u => { u with
  printer := .printing
  job := some { j with timer := s.jobTime }
  sent := some (.job j.record)
  stats := { u.stats with resends := bump Config.stat32 u.stats.resends } }

/-- A resend keeps the job's marks, or clears both (log 17). -/
theorem resendJob_eq {j : Job} (job : s.label.job = some j) (clearMarks : Bool) : s.resendJob clearMarks =
    resent s (if clearMarks then { j with interrupted := false, waste := false } else j) := by
  rw [State.resendJob, job]
  cases clearMarks <;> rfl

theorem printerReady_stays (stays : s.label.printer = .ready ∨ s.label.printer = .presented) : s.printerReady = s := by
  obtain printer | printer := stays <;> rw [State.printerReady, printer]

theorem printerReady_resends {j : Job} (printer : s.label.printer = .printing) (job : s.label.job = some j) :
    s.printerReady = State.settle s (resent s j) := by
  rw [State.printerReady, printer]
  exact congrArg (State.settle s) (resendJob_eq job false)

/-- The end of a fault, noticed as READY (log 67). -/
def faultEnded (s : State) : State := (s.onLabel fun u => { u with printer := .ready }).printerNotice .state

section
variable {k : FaultKind} (printer : s.label.printer = .fault k)
include printer

theorem printerReady_ends (calm : s.label.job.all (fun j => !j.interrupted) = true) :
    s.printerReady = State.settle s (faultEnded s) := by
  have calm : ¬s.label.job.any (·.interrupted) = true := by
    cases job : s.label.job with
    | none => simp
    | some j => simpa [job] using calm
  rw [State.printerReady, printer]
  exact congrArg (State.settle s) (if_neg calm)

theorem printerReady_recovers {j : Job} (job : s.label.job = some j) (interrupted : j.interrupted = true) :
    s.printerReady = State.settle s (resent (faultEnded s) { j with interrupted := false, waste := false }) := by
  have recovers : s.label.job.any (·.interrupted) = true := by simp [job, interrupted]
  rw [State.printerReady, printer]
  exact congrArg (State.settle s) ((if_pos recovers).trans (resendJob_eq (s := faultEnded s) job true))

end

/-! ## PRESENTED (R177, R181) -/

section
variable {j : Job}

theorem printerPresented_job (printer : s.label.printer = .printing) (job : s.label.job = some j) :
    s.printerPresented = State.settle s (s.jobPresented j) := by
  rw [State.printerPresented, printer, job]

theorem jobPresented_wasted (lost : j.waste = true ∨ s.labelOf j.entry ≠ some .printing) : s.jobPresented j =
    (s.onLabel fun u => { u with job := none, printer := .presented }).eject (some j.entry) .wasted := if_pos lost

theorem jobPresented_held (whole : j.waste = false) (label : s.labelOf j.entry = some .printing) : s.jobPresented j =
    (((s.onLabel fun u => { u with job := none, printer := .presented }).setLabel j.entry .presented).onLabel
      (fun u => { u with pad := .holding j.entry })).displace :=
  if_neg (by simp [whole, label])

end

theorem printerPresented_unexpected (other : s.label.printer ≠ .printing) :
    s.printerPresented = State.settle s s.unexpectedLabel := by
  unfold State.printerPresented
  cases printer : s.label.printer with
  | printing => exact absurd printer other
  | ready | presented | fault => rfl

/-! ## FAULT (R176) -/

/-- A fault interrupts the job in hand of a PRINTING printer alone. -/
theorem enterFault_eq (s : State) (k : FaultKind) : s.enterFault k = (s.onLabel fun u => { u with
    printer := .fault k, query := 1000
    job := u.job.map fun j => if s.label.printer = .printing then { j with interrupted := true } else j
    }).printerNotice .state := by
  by_cases printing : s.label.printer = .printing
  · simp only [State.enterFault, State.onLabel, printing, if_true]
    rfl
  · simp only [State.enterFault, State.onLabel, printing, if_false, Option.map_id']
    rfl

theorem printerFaulted_same {k : FaultKind} (printer : s.label.printer = .fault k) : s.printerFaulted k = s := by
  rw [State.printerFaulted, printer]
  exact if_pos rfl

theorem printerFaulted_other {k kind : FaultKind} (printer : s.label.printer = .fault k) (other : k ≠ kind) :
    s.printerFaulted kind = (s.onLabel fun u => { u with printer := .fault kind }).printerNotice .state := by
  rw [State.printerFaulted, printer]
  exact if_neg other

theorem printerFaulted_enters (works : ∀ k, s.label.printer ≠ .fault k) (kind : FaultKind) :
    s.printerFaulted kind = State.settle s (s.enterFault kind) := by
  unfold State.printerFaulted
  cases printer : s.label.printer with
  | fault k => exact absurd printer (works k)
  | ready | printing | presented => rfl

/-- Settles O51: each report by the printer's state and its job, an ejection by its owner's label, displacement by what
stands before the held label's entry. -/
theorem printerReports : Obligations.PrinterReports := by
  refine ⟨fun s running => ⟨fun stays => ?stays, fun j printer job => ?resends, fun k printer =>
    ⟨fun calm => ?ends, fun j job interrupted => ?recovers⟩, fun j printer job => ⟨fun lost => ?wasted,
    fun whole label => ?held⟩, fun other => ?unexpected, fun r => ⟨fun printer => ?same,
    fun k printer other => ?another, fun works => ?enters⟩⟩, fun s l => ⟨eject_nobody s l, fun id final => eject_final final l,
    fun id opened => eject_open opened l⟩, fun s id pad unarmed => ⟨?gives, ?keeps⟩⟩
  case stays => rw [exec_printerReadyReport running, printerReady_stays stays]
  case resends =>
    rw [exec_printerReadyReport running, printerReady_resends printer job]
    rfl
  case ends =>
    rw [exec_printerReadyReport running, printerReady_ends printer calm]
    rfl
  case recovers =>
    rw [exec_printerReadyReport running, printerReady_recovers printer job interrupted]
    rfl
  case wasted =>
    rw [exec_printerPresentedReport running, printerPresented_job printer job, jobPresented_wasted lost]
  case held =>
    rw [exec_printerPresentedReport running, printerPresented_job printer job, jobPresented_held whole label]
  case unexpected =>
    rw [exec_printerPresentedReport running, printerPresented_unexpected other]
    rfl
  case same => rw [exec_printerFaultReport running, printerFaulted_same printer]
  case another =>
    rw [exec_printerFaultReport running, printerFaulted_other printer other]
    rfl
  case enters =>
    rw [exec_printerFaultReport running, printerFaulted_enters works, enterFault_eq]
    rfl
  case gives =>
    rintro ⟨a, x, z, y, queue, rfl, other, there, unprinted⟩
    rw [displace_eq pad unarmed queue other, if_pos (List.any_eq_true.mpr ⟨y, there, unprinted⟩)]
    rfl
  case keeps =>
    intro a x z queue same before
    subst same
    have none : ¬a.any Entry.unprinted = true := by simpa using fun e there => (before e there).2
    rw [displace_eq pad unarmed queue fun e there => (before e there).1, if_neg none]

end Sys2Proof.Machine.PrinterReportEvents
end

section
/-! PROOFS of 09_labels_applicator_and_diverter.md: the job and query timers (R175, R176), and the tamp's phases and
verdict (R185). -/

namespace Sys2Proof.Machine.LabelUnitTimers

open LineSettled PrinterReportEvents

variable {s : State}

/-! ## The events of a part that runs -/

section
variable (running : s.running = true)
include running

theorem exec_jobTimerExpiry : exec .jobTimerExpiry s = .next s.jobExpires := congrArg _ (if_pos running)

theorem exec_queryTimerExpiry : exec .queryTimerExpiry s = .next s.queryExpires := congrArg _ (if_pos running)

theorem exec_tampExtendEnd : exec .tampExtendEnd s = .next s.extendEnds := congrArg _ (if_pos running)

theorem exec_tampDwellEnd : exec .tampDwellEnd s = .next s.dwellEnds := congrArg _ (if_pos running)

theorem exec_tampRetractEnd (sensor : PadSensor) :
    exec (.tampRetractEnd sensor) s = .next (s.retractEnds sensor) := congrArg _ (if_pos running)

end

/-! ## The job and query timers (R175, R176) -/

theorem jobExpires_stays (stays : s.label.printer ≠ .printing ∨ s.label.job = none) : s.jobExpires = s := by
  refine if_neg fun ⟨printing, job⟩ => ?_
  obtain other | none := stays
  · exact other printing
  · simp [none] at job

/-- The time of a job has run out: the printer is in FAULT of kind TIMEOUT, and the job is interrupted. -/
theorem jobExpires_faults {j : Job} (printer : s.label.printer = .printing) (job : s.label.job = some j) :
    s.jobExpires = State.settle s ((s.onLabel fun u => { u with
      printer := .fault .timeout, query := 1000, job := some { j with timer := 0, interrupted := true }
      stats := { u.stats with timeouts := bump Config.stat32 u.stats.timeouts } }).printerNotice .state) := by
  have runs : s.label.printer = .printing ∧ s.label.job.isSome = true := ⟨printer, by simp [job]⟩
  rw [State.jobExpires, if_pos runs]
  refine congrArg (State.settle s) ?_
  simp only [enterFault_eq, State.onLabel, printer, job, Option.map_some, if_true]

theorem queryExpires_stays (works : ∀ k, s.label.printer ≠ .fault k) : s.queryExpires = s :=
  if_neg fun fault => ((printerFault_iff s).mp fault).elim works

theorem queryExpires_sends {k : FaultKind} (printer : s.label.printer = .fault k) :
    s.queryExpires = s.onLabel (fun u => { u with query := 1000, sent := some .query }) :=
  if_pos ((printerFault_iff s).mpr ⟨k, printer⟩)

/-! ## The tamp's phases (R185) -/

theorem extendEnds_stays (other : ∀ e n, s.label.tamp ≠ .extend e n) : s.extendEnds = s := by
  unfold State.extendEnds
  cases tamp : s.label.tamp with
  | extend e n => exact absurd tamp (other e n)
  | retracted | armed | dwell | retract => rfl

theorem extendEnds_dwells {e n : Nat} (tamp : s.label.tamp = .extend e n) :
    s.extendEnds = s.onLabel (fun u => { u with tamp := .dwell e (tampDwell s.settings.host.applyMs) }) := by
  rw [State.extendEnds, tamp]

theorem dwellEnds_stays (other : ∀ e n, s.label.tamp ≠ .dwell e n) : s.dwellEnds = s := by
  unfold State.dwellEnds
  cases tamp : s.label.tamp with
  | dwell e n => exact absurd tamp (other e n)
  | retracted | armed | extend | retract => rfl

theorem dwellEnds_retracts {e n : Nat} (tamp : s.label.tamp = .dwell e n) :
    s.dwellEnds = s.onLabel (fun u => { u with tamp := .retract e (tampStroke s.settings.host.applyMs) }) := by
  rw [State.dwellEnds, tamp]

theorem retractEnds_stays (other : ∀ e n, s.label.tamp ≠ .retract e n) (sensor : PadSensor) :
    s.retractEnds sensor = s := by
  unfold State.retractEnds
  cases tamp : s.label.tamp with
  | retract e n => exact absurd tamp (other e n)
  | retracted | armed | extend | dwell => rfl

theorem retractEnds_judges {e n : Nat} (tamp : s.label.tamp = .retract e n) (sensor : PadSensor) :
    s.retractEnds sensor = State.settle s (s.verdict e sensor) := by
  rw [State.retractEnds, tamp]

/-- Settles O52: each expiry by whether its timer runs, each end of a phase by the tamp's state. -/
theorem labelTimers : Obligations.LabelTimers := by
  intro s running
  refine ⟨fun stays => ?_, fun j printer job => ?_, fun works => ?_, fun k printer => ?_, fun other => ?_,
    fun e n tamp => ?_, fun other => ?_, fun e n tamp => ?_, fun sensor other => ?_, fun e n tamp => ⟨?_, ?_⟩⟩
  · rw [exec_jobTimerExpiry running, jobExpires_stays stays]
  · rw [exec_jobTimerExpiry running, jobExpires_faults printer job]
    rfl
  · rw [exec_queryTimerExpiry running, queryExpires_stays works]
  · rw [exec_queryTimerExpiry running, queryExpires_sends printer]
  · rw [exec_tampExtendEnd running, extendEnds_stays other]
  · rw [exec_tampExtendEnd running, extendEnds_dwells tamp]
    rfl
  · rw [exec_tampDwellEnd running, dwellEnds_stays other]
  · rw [exec_tampDwellEnd running, dwellEnds_retracts tamp]
    rfl
  · rw [exec_tampRetractEnd running, retractEnds_stays other]
  · rw [exec_tampRetractEnd running, retractEnds_judges tamp]
    rfl
  · rw [exec_tampRetractEnd running, retractEnds_judges tamp]
    rfl

end Sys2Proof.Machine.LabelUnitTimers
end

section
/-! PROOFS of 10_host_link_calendar_and_settings.md: what dispatch does with a request (R193, R194, R204). -/

namespace Sys2Proof.Machine.RequestDispatch

/-! ## The branches of dispatch -/

section
variable {s : State} {serve : SlotId → State → State} {code : MsgCode} {tag : Byte} {known fits : Bool}

theorem dispatch_busy (full : s.link.freeSlot = none) :
    s.dispatch tag code known fits serve = s.onLink (Link.busy tag code) := by
  rw [State.dispatch, full]

section
variable {i : SlotId} (slot : s.link.freeSlot = some i)
include slot

theorem dispatch_unknown :
    s.dispatch tag code false fits serve = (s.onLink (Link.hold i tag code)).answer i .unknown := by
  rw [State.dispatch, slot]
  rfl

theorem dispatch_badLength :
    s.dispatch tag code true false serve = (s.onLink (Link.hold i tag code)).answer i .badLength := by
  rw [State.dispatch, slot]
  rfl

theorem dispatch_starting (starting : s.link.part = .starting) (other : code ≠ .req .sStatus) :
    s.dispatch tag code true true serve = (s.onLink (Link.hold i tag code)).refuse i .starting := by
  have early : s.link.part = .starting ∧ code ≠ .req .sStatus := ⟨starting, other⟩
  rw [State.dispatch, slot]
  exact if_pos early

theorem dispatch_served (ready : s.link.part = .ready ∨ code = .req .sStatus) :
    s.dispatch tag code true true serve = serve i (s.onLink (Link.hold i tag code)) := by
  have taken : ¬(s.link.part = .starting ∧ code ≠ .req .sStatus) := fun ⟨starting, other⟩ =>
    ready.elim (fun ready => nomatch starting.symm.trans ready) other
  rw [State.dispatch, slot]
  exact if_neg taken

end
end

/-! ## A request row -/

/-- Every request row brings its request to dispatch, with the length that its fields have (R47, R193): an event carries
no request, and the arm of each row says so of its own. -/
theorem exec_request {c : Instr} {tag : Byte} {r : Request} (row : c.request = some (tag, r)) (s : State) :
    exec c s = .next (s.whenRunning fun s => s.dispatch tag (.req r.name) true (requestFits r) (serve r)) := by
  cases c <;> cases row <;> rfl

/-- Settles O3: the branches of dispatch, for the request that the row carries. -/
theorem requestArrival : Obligations.RequestArrival := by
  intro c tag r s row running
  have arrives : exec c s = .next (s.dispatch tag (.req r.name) true (requestFits r) (serve r)) :=
    (exec_request row s).trans (congrArg _ (if_pos running))
  rw [arrives]
  refine ⟨fun full => ?_, fun i slot => ⟨fun long => ?_, fun fits starting other => ?_, fun fits ready => ?_⟩⟩
  · rw [dispatch_busy full]
    rfl
  · rw [long, dispatch_badLength slot]
    rfl
  · rw [fits, dispatch_starting slot starting fun same => other (MsgCode.req.inj same)]
    rfl
  · rw [fits, dispatch_served slot (ready.imp_right (congrArg _))]
    rfl

end Sys2Proof.Machine.RequestDispatch
end

section
/-! PROOFS of 10_host_link_calendar_and_settings.md: one millisecond event (R197), which counts every running timer
down (R1, R14, R126, R128, R153, R175, R176, R185, R192) and queues the command of each that ends. -/

namespace Sys2Proof.Machine.MillisecondEvent

open SettingsStore TokenTimers LineSettled

variable {s : State} {c : Instr}

/-! ## The commands that come due -/

theorem mem_whenDue {b : Bool} {i : Instr} : c ∈ whenDue b i ↔ b = true ∧ c = i := by
  cases b <;> simp [whenDue]

theorem mem_dueAtEach {f : Pos → Bool} {i : Pos → Instr} : c ∈ dueAtEach f i ↔ ∃ k, f k = true ∧ c = i k := by
  simp only [dueAtEach, List.mem_map, List.mem_filter, pos_mem_all, true_and, eq_comm (b := c)]

/-- A phase of the tamp ends with its last millisecond (R185). -/
theorem mem_tampDue {u : Tamp} {p : PadSensor} : c ∈ tampDue u p ↔
    (∃ e, u = .extend e 1 ∧ c = .tampExtendEnd) ∨ (∃ e, u = .dwell e 1 ∧ c = .tampDwellEnd) ∨
    (∃ e, u = .retract e 1 ∧ c = .tampRetractEnd p) := by
  cases u with
  | retracted | armed => simp [tampDue]
  | extend e n | dwell e n | retract e n =>
    by_cases last : n = 1
    · subst last
      simp [tampDue]
    · simp [tampDue, last]

theorem inFrame_iff {l : Link} : l.inFrame = true ↔ ∃ bs, l.receiver = .inFrame bs := by
  unfold Link.inFrame
  cases l.receiver <;> simp

theorem secondDue_iff {t : Time} : t.secondDue = true ↔ t.msPhase = 999 := beq_iff_eq

/-- A command joins the queue when the timer it ends runs and has one millisecond left (R197, log 2); the token pass
joins it when its condition holds (R161). -/
theorem mem_dueCommands : c ∈ s.dueCommands ↔
    ((s.time.msPhase = 999 ∧ s.time.calendar.isSome = true) ∧ c = .calendarSecond) ∨
    (∃ k, (s.channel k).sampleTimer = 1 ∧ c = .sampleTimerExpiry k) ∨
    (∃ k, (s.channel k).waiting = some 1 ∧ c = .captureTimeout k) ∨
    ((s.release.state = .negotiating ∧ s.release.negotiation = 1) ∧ c = .negotiationTimerExpiry) ∨
    (∃ k, (s.rotationRuns k = true ∧ (s.release.places.get k).trt = 1) ∧ c = .rotationTimerExpiry k) ∨
    ((s.holdingRuns = true ∧ s.release.tht = 1) ∧ c = .thtExpiry) ∨
    ((s.release.state = .rotating ∧ ∃ d, s.release.candidate = some d ∧ d.wait = some 1) ∧ c = .expressWaitExpiry) ∨
    (s.time.rampIn = 1 ∧ c = .rampStep) ∨
    (s.time.speedIn = 1 ∧ c = .speedWindowEnd) ∨
    (s.release.passFrom s.items.register ≠ none ∧ c = .tokenPass) ∨
    ((s.label.printer = .printing ∧ ∃ j, s.label.job = some j ∧ j.timer = 1) ∧ c = .jobTimerExpiry) ∨
    ((s.printerFault = true ∧ s.label.query = 1) ∧ c = .queryTimerExpiry) ∨
    c ∈ tampDue s.label.tamp (Config.padSensor s.fresh) ∨
    ((s.link.inFrame = true ∧ s.link.gap = 1) ∧ c = .byteGapTimeout) := by
  simp only [State.dueCommands, List.mem_append, mem_whenDue, mem_dueAtEach, Bool.and_eq_true, beq_iff_eq,
    secondDue_iff, Option.any_eq_true, Option.isSome_iff_ne_none, or_assoc]

/-! ## What counts down -/

theorem tick_channel (k : Pos) : s.tick.channel k = { s.channel k with
    sampleTimer := (s.channel k).sampleTimer - 1
    waiting := (s.channel k).waiting.map (· - 1) } := Six.get_map Channel.tick s.weighing.channels k

theorem tick_msPhase : s.tick.time.msPhase = if s.time.msPhase = 999 then 0 else s.time.msPhase + 1 :=
  if_congr secondDue_iff rfl rfl

theorem tick_place (k : Pos) : s.tick.release.places.get k =
    if s.rotationRuns k then { s.release.places.get k with trt := (s.release.places.get k).trt - 1 }
    else s.release.places.get k := Six.get_of _ k

theorem tick_candidate : s.tick.release.candidate = if s.release.state = .rotating then
    s.release.candidate.map (fun d => { d with wait := d.wait.map (· - 1) }) else s.release.candidate := by
  by_cases rotating : s.release.state = .rotating <;> simp [State.tick, State.releaseTick, rotating]

theorem tick_query {k : FaultKind} (fault : s.label.printer = .fault k) : s.tick.label.query = s.label.query - 1 :=
  if_pos ((printerFault_iff s).mpr ⟨k, fault⟩)

theorem tick_gap {bs : List Byte} (gathers : s.link.receiver = .inFrame bs) : s.tick.link.gap = s.link.gap - 1 :=
  if_pos (inFrame_iff.mpr ⟨bs, gathers⟩)

/-- Settles O2: each block's timers by what counts them down, and each expiry by the command it queues. -/
theorem idleStepTicks : Obligations.IdleStepTicks := by
  intro s idle
  have stepped : step s = .next (s.whenRunning State.tick) := by rw [step, idle]
  have queued (c : Instr) : c ∈ s.tick.pending ↔ c ∈ s.dueCommands := by simp [State.tick, idle]
  refine ⟨fun off => stepped.trans (congrArg _ (if_neg (by simp [off]))), fun running => ⟨s.tick,
    stepped.trans (congrArg _ (if_pos running)), tick_channel, ?sample, ?capture, rfl, ?ramp, rfl, ?speed, rfl,
    tick_msPhase, ?second, ⟨rfl, ?negotiation, fun k => ⟨fun counts => ?placeCounts, fun stopped => ?placeStays,
      ?rotation⟩, fun holds => if_pos (holdingRuns_iff.mpr holds), fun stays => if_neg (mt holdingRuns_iff.mp stays),
      ?holding, tick_candidate, ?express, ?pass⟩,
    ⟨rfl, ?job, fun k => tick_query, ?query, fun e n => ⟨?extend, ?dwell, ?retract⟩, ?extendEnd, ?dwellEnd,
      ?retractEnd⟩,
    fun bs => tick_gap, ?gap, rfl, rfl, rfl, rfl, rfl, rfl, rfl, rfl, rfl, rfl, rfl⟩⟩
  case placeCounts => exact (tick_place k).trans (if_pos (rotationRuns_iff.mpr counts))
  case placeStays => exact (tick_place k).trans (if_neg (mt rotationRuns_iff.mp stopped))
  case extend | dwell | retract => exact congrArg tampTick
  -- What joins the queue: each command by its own line of `mem_dueCommands`.
  case sample | capture | ramp | speed | second | negotiation | rotation | holding | express | pass | job | query
      | extendEnd | dwellEnd | retractEnd | gap =>
    simp [queued, mem_dueCommands, mem_tampDue, rotationRuns_iff, holdingRuns_iff, printerFault_iff, inFrame_iff]

end Sys2Proof.Machine.MillisecondEvent
end

section
/-! PROOFS of 10_host_link_calendar_and_settings.md: the receiver's frames (R191 to R194), the codes of payloads (R193),
the frame on the line (R191, R195, R196) and the transmitter (R194 to R196). -/

namespace Sys2Proof.Machine.HostFrames

open RequestDispatch

variable {s : State} {b : Byte}

/-! ## The receiver (R192) -/

/-- The receiver in a state of its own, with the gap timer at a value. -/
def hears (s : State) (r : Receiver) (gap : Nat) : State := s.onLink (fun l => { l with receiver := r, gap := gap })

theorem breakFrame_hunting (hunting : s.link.receiver = .hunting) : s.breakFrame = s := by
  rw [State.breakFrame, hunting]

theorem takeByte_hunting (hunting : s.link.receiver = .hunting) :
    s.takeByte b = if b = 0xA5 then hears s (.inFrame []) 10 else s := by
  rw [State.takeByte, hunting]
  rfl

section
variable {held : List Byte} (gathers : s.link.receiver = .inFrame held)
include gathers

theorem breakFrame_inFrame : s.breakFrame = s.discardFrame := by
  rw [State.breakFrame, gathers]

theorem takeByte_inFrame : s.takeByte b =
    if (held ++ [b]).length = 2 ∧ 1024 < word16 (held ++ [b]) 0 then s.discardFrame
    else if 2 ≤ (held ++ [b]).length ∧ (held ++ [b]).length = word16 (held ++ [b]) 0 + 6 then s.testFrame (held ++ [b])
    else hears s (.inFrame (held ++ [b])) 10 := by
  rw [State.takeByte, gathers]
  rfl

/-- A payload length beyond 1,024 ends the frame at its second byte. -/
theorem takeByte_tooLong (long : (held ++ [b]).length = 2 ∧ 1024 < word16 (held ++ [b]) 0) :
    s.takeByte b = s.discardFrame := by
  rw [takeByte_inFrame gathers, if_pos long]

theorem takeByte_gathers (fits : ¬((held ++ [b]).length = 2 ∧ 1024 < word16 (held ++ [b]) 0))
    (more : ¬(2 ≤ (held ++ [b]).length ∧ (held ++ [b]).length = word16 (held ++ [b]) 0 + 6)) :
    s.takeByte b = hears s (.inFrame (held ++ [b])) 10 := by
  rw [takeByte_inFrame gathers, if_neg fits, if_neg more]

/-- The frame is whole with the second byte of its check. -/
theorem takeByte_whole (two : 2 < (held ++ [b]).length) (whole : (held ++ [b]).length = word16 (held ++ [b]) 0 + 6) :
    s.takeByte b = s.testFrame (held ++ [b]) := by
  rw [takeByte_inFrame gathers, if_neg fun long => two.ne' long.1, if_pos ⟨two.le, whole⟩]

end

/-- The tests of a frame: a payload, kind REQUEST, and its check (R192). -/
def FramePasses (bs : List Byte) : Prop :=
  word16 bs 0 ≠ 0 ∧ bs.getD 2 0 = 1 ∧ (crc16 (bs.take (word16 bs 0 + 4))).toNat = word16 bs (word16 bs 0 + 4)

theorem byteAt_eq_one (bs : List Byte) (i : Nat) : byteAt bs i = 1 ↔ bs.getD i 0 = 1 :=
  (BitVec.toNat_inj (y := 1#8))

theorem framePasses_iff (bs : List Byte) : FramePasses bs ↔ word16 bs 0 ≠ 0 ∧ byteAt bs 2 = 1 ∧
    (crc16 (bs.take (word16 bs 0 + 4))).toNat = word16 bs (word16 bs 0 + 4) := by
  rw [FramePasses, byteAt_eq_one]

theorem testFrame_fails {bs : List Byte} (fails : ¬FramePasses bs) : s.testFrame bs = s.discardFrame :=
  if_neg (mt (framePasses_iff bs).mpr fails)

theorem testFrame_passes {bs : List Byte} (passes : FramePasses bs) : s.testFrame bs =
    (hears s .hunting 0).dispatchPayload (bs.getD 3 0) (bs.getD 4 0) ((bs.drop 5).take (word16 bs 0 - 1)) :=
  if_pos ((framePasses_iff bs).mp passes)

/-! ## The commands of the receiver -/

section
variable (running : s.running = true)
include running

theorem exec_byteReceived : exec (.byteReceived b) s = .next (s.takeByte b) := congrArg _ (if_pos running)

theorem exec_byteFramingError : exec .byteFramingError s = .next s.breakFrame := congrArg _ (if_pos running)

theorem exec_byteGapTimeout : exec .byteGapTimeout s = .next s.breakFrame := congrArg _ (if_pos running)

theorem exec_transmitFrameEnd : exec .transmitFrameEnd s = .next s.frameSent := congrArg _ (if_pos running)

end

/-! ## A payload at dispatch (R193) -/

section
variable {tag code : Byte} {fields : List Byte}

section
variable {i : SlotId} (slot : s.link.freeSlot = some i)
include slot

theorem dispatchPayload_unknown (read : readPayload code fields = .unknown) :
    s.dispatchPayload tag code fields = (s.onLink (Link.hold i tag (.other code))).answer i .unknown := by
  rw [State.dispatchPayload, read]
  exact dispatch_unknown slot

theorem dispatchPayload_badLength {n : ReqName} (read : readPayload code fields = .badLength n) :
    s.dispatchPayload tag code fields = (s.onLink (Link.hold i tag (.req n))).answer i .badLength := by
  rw [State.dispatchPayload, read]
  exact dispatch_badLength slot

end

/-- A request in a frame does what its row does. -/
theorem dispatchPayload_request {r : Request} (read : readPayload code fields = .request r) {c : Instr}
    (row : c.request = some (tag, r)) (running : s.running = true) :
    .next (s.dispatchPayload tag code fields) = exec c s := by
  rw [State.dispatchPayload, read, exec_request row]
  exact congrArg _ (if_pos running).symm

/-- Without a free slot a payload that is no request is BUSY or lost under its message code (R194). -/
theorem dispatchPayload_busy {name : MsgCode} (full : s.link.freeSlot = none)
    (read : (readPayload code fields = .unknown ∧ name = .other code) ∨
      ∃ r, readPayload code fields = .badLength r ∧ name = .req r) :
    s.dispatchPayload tag code fields = s.onLink (Link.busy tag name) := by
  obtain ⟨unknown, rfl⟩ | ⟨r, wrong, rfl⟩ := read
  · rw [State.dispatchPayload, unknown]
    exact dispatch_busy full
  · rw [State.dispatchPayload, wrong]
    exact dispatch_busy full

end

/-! ## What a payload is read as (R193) -/

section
variable {code : Byte} {fields : List Byte}

/-- A payload is unknown by its code alone; else it is a request of that code or has the wrong length for it. -/
theorem readPayload_cases (code : Byte) (fields : List Byte) :
    (requestOfCode code = none ∧ readPayload code fields = .unknown) ∨
    ∃ n, requestOfCode code = some n ∧ (readPayload code fields = .badLength n ∨
      ∃ r, r.name = n ∧ readPayload code fields = .request r) := by
  cases named : requestOfCode code with
  | none => exact .inl ⟨rfl, by rw [readPayload, named]⟩
  | some n =>
    refine .inr ⟨n, rfl, ?_⟩
    cases spelt : readRequest n fields with
    | none => exact .inl (by simp only [readPayload, named, spelt])
    | some r => exact .inr ⟨r, readRequest_name spelt, by simp only [readPayload, named, spelt]⟩

theorem readPayload_unknown_iff : readPayload code fields = .unknown ↔ ∀ n, Config.messageCode n ≠ code := by
  rw [← requestOfCode_none]
  obtain ⟨named, read⟩ | ⟨n, named, read | ⟨r, -, read⟩⟩ := readPayload_cases code fields <;> simp [named, read]

theorem readPayload_badLength_code {n : ReqName} (wrong : readPayload code fields = .badLength n) :
    Config.messageCode n = code := by
  obtain ⟨-, read⟩ | ⟨m, named, read | ⟨r, -, read⟩⟩ := readPayload_cases code fields <;> cases read.symm.trans wrong
  exact requestOfCode_some named

theorem readPayload_request_code {r : Request} (whole : readPayload code fields = .request r) :
    Config.messageCode r.name = code := by
  obtain ⟨-, read⟩ | ⟨m, named, read | ⟨q, rfl, read⟩⟩ := readPayload_cases code fields <;> cases read.symm.trans whole
  exact requestOfCode_some named

/-- The requests that have no fields. -/
def bareRequests : List Request :=
  [.tClose, .tActivate, .tStatus, .cPurge, .iList, .iCounts, .nStatus, .bStop, .bReset, .bStatus, .bQueue, .pStatus,
    .lStatus, .sGet, .sRestart]

theorem bare_of_mem : ∀ r ∈ bareRequests, r.name.bare = some r := by decide

end

/-! ## The frame on the line (R191, R195, R196) -/

section
variable {l : Link}

theorem onLine_idle (idle : l.transmitter = .idle) : l.onLine = none := by rw [Link.onLine, idle]

theorem onLine_reply {i : SlotId} {tag : Byte} {code : MsgCode} {r : Reply}
    (sending : l.transmitter = .sending (.reply i)) (slot : l.slots[i] = some ⟨tag, code, .replyReady r⟩) :
    l.onLine = some (frameBytes 2 tag (r.payload code)) := by
  simp only [Link.onLine, sending, Link.bytesOf, slot]

theorem onLine_busy {tag : Byte} {code : MsgCode} (sending : l.transmitter = .sending (.busy tag code)) :
    l.onLine = some (frameBytes 2 tag (busyPayload code)) := by
  rw [Link.onLine, sending]
  rfl

theorem onLine_notice {q : Byte} {d : Nat} {n : Notice} (sending : l.transmitter = .sending (.notice q d n)) :
    l.onLine = some (frameBytes 3 q (n.payload d)) := by
  rw [Link.onLine, sending]
  rfl

/-! ## The transmitter (R194 to R196) -/

theorem sendNext_sending (sending : l.transmitter ≠ .idle) : l.sendNext = l := by
  cases transmitter : l.transmitter with
  | idle => exact absurd transmitter sending
  | sending f => rw [Link.sendNext, transmitter]

section
variable (idle : l.transmitter = .idle)
include idle

theorem sendNext_reply {i : SlotId} {rest : List ReadyItem} (first : l.ready = .slot i :: rest) :
    l.sendNext = { l with transmitter := .sending (.reply i) } := by
  rw [Link.sendNext, idle, first]

theorem sendNext_busy {tag : Byte} {code : MsgCode} {rest : List ReadyItem} (first : l.ready = .busy tag code :: rest) :
    l.sendNext = { l with transmitter := .sending (.busy tag code) } := by
  rw [Link.sendNext, idle, first]

theorem sendNext_notice {n : Notice} {rest : List Notice} (empty : l.ready = []) (first : l.notices = n :: rest) :
    l.sendNext = { l with
      notices := rest, drops := 0, noticeSeq := l.noticeSeq + 1
      transmitter := .sending (.notice l.noticeSeq l.drops n) } := by
  rw [Link.sendNext, idle, empty, first]

theorem sendNext_nothing (empty : l.ready = []) (quiet : l.notices = []) : l.sendNext = l := by
  rw [Link.sendNext, idle, empty, quiet]

end

theorem answer_slot {i : SlotId} {q : ReqSlot} (slot : l.slots[i] = some q) (r : Reply) :
    Link.answer i r l = Link.sendNext { l with
      slots := l.slots.set i (some { q with phase := .replyReady r }), ready := l.ready ++ [.slot i] } := by
  simp only [Link.answer, slot]

end

theorem frameSent_idle (idle : s.link.transmitter = .idle) : s.frameSent = s := by rw [State.frameSent, idle]

theorem frameSent_reply {i : SlotId} (sending : s.link.transmitter = .sending (.reply i))
    (stays : s.link.restartSlot ≠ some i) : s.frameSent = s.onLink (fun l => Link.sendNext { l with
      transmitter := .idle, slots := l.slots.set i none, ready := l.ready.tail }) := by
  simp only [State.frameSent, sending, if_neg stays, List.drop_one]

theorem frameSent_busy {tag : Byte} {code : MsgCode} (sending : s.link.transmitter = .sending (.busy tag code)) :
    s.frameSent = s.onLink (fun l => Link.sendNext { l with transmitter := .idle, ready := l.ready.tail }) := by
  simp only [State.frameSent, sending, List.drop_one]

theorem frameSent_notice {q : Byte} {d : Nat} {n : Notice} (sending : s.link.transmitter = .sending (.notice q d n)) :
    s.frameSent = s.onLink (fun l => Link.sendNext { l with transmitter := .idle }) := by
  simp only [State.frameSent, sending]

/-- Settles O54: the receiver by where it stands and by what its frame comes to, the codes by what a payload is read as,
the line by the frame being sent, and the transmitter by what waits first. -/
theorem framesReceivedAndSent : Obligations.FramesReceivedAndSent := by
  refine ⟨?receiver, fun a b => messageCode_injective, ?codes, ?line, ?frameEnd, ?transmitter⟩
  case receiver =>
    intro s b running
    refine ⟨rfl, fun hunting => ?_, fun held gathers => ?_⟩
    · rw [exec_byteReceived running, exec_byteFramingError running, exec_byteGapTimeout running,
        takeByte_hunting hunting, breakFrame_hunting hunting, apply_ite Host.Outcome.next]
      exact ⟨rfl, rfl, rfl⟩
    · rw [exec_byteReceived running, exec_byteFramingError running, exec_byteGapTimeout running,
        breakFrame_inFrame gathers]
      refine ⟨rfl, rfl, fun two long => congrArg _ (takeByte_tooLong gathers ⟨two, long⟩),
        fun fits more => congrArg _ (takeByte_gathers gathers fits more), fun two whole => ?_⟩
      rw [takeByte_whole gathers two whole]
      refine ⟨fun fails => congrArg _ (testFrame_fails fails), fun passes => ?_⟩
      rw [testFrame_passes passes]
      exact ⟨fun i slot read => congrArg _ (dispatchPayload_unknown (s := hears s .hunting 0) slot read),
        fun i r slot read => congrArg _ (dispatchPayload_badLength (s := hears s .hunting 0) slot read),
        fun name full read => congrArg _ (dispatchPayload_busy (s := hears s .hunting 0) full read),
        fun r c read row => dispatchPayload_request read row running⟩
  case codes =>
    exact fun code fields => ⟨readPayload_unknown_iff, fun n => readPayload_badLength_code,
      fun r => readPayload_request_code, fun r bare => readPayload_bare (bare_of_mem r bare) fields⟩
  case line =>
    intro l
    exact ⟨onLine_idle, fun i tag code r sending slot => ⟨payloadOf_length _, onLine_reply sending slot⟩,
      fun tag code sending => ⟨⟨payloadOf_length [code.byte, Config.statusByte .busy], onLine_busy sending⟩, _,
        onLine_busy sending, frameBytes_length ..⟩, fun q d n sending => ⟨payloadOf_length _, onLine_notice sending⟩⟩
  case frameEnd =>
    intro s running
    rw [exec_transmitFrameEnd running]
    exact ⟨fun idle => congrArg _ (frameSent_idle idle),
      fun i sending stays => congrArg _ (frameSent_reply sending stays),
      fun tag code sending => congrArg _ (frameSent_busy sending),
      fun q d n sending => congrArg _ (frameSent_notice sending)⟩
  case transmitter =>
    intro l
    exact ⟨sendNext_sending, fun idle => ⟨fun i rest => sendNext_reply idle, fun t c rest => sendNext_busy idle,
      fun n rest => sendNext_notice idle, sendNext_nothing idle⟩, fun n => rfl, fun i r q slot => answer_slot slot r⟩

end Sys2Proof.Machine.HostFrames
end

section
/-! PROOFS of 95_what_each_step_holds.md: a step with a command waiting. -/

namespace Sys2Proof.Machine.CommandQueue

/-- Settles O1: with a command waiting the queue is not empty, so the step takes its second branch. -/
theorem stepRunsFrontCommand : Obligations.StepRunsFrontCommand := by
  intro c rest s waiting
  rw [step, waiting]

end Sys2Proof.Machine.CommandQueue
end

section
/-! PROOFS of the requests that read the part's state, with the statistics requests (R22, R35, R58, R74, R112, R122,
R137, R151, R171, R189, R203, R205). -/

namespace Sys2Proof.Machine.StatusRequests

/-- A request row that takes slot i is handed to the block that serves it (R193). -/
theorem exec_takes {s : State} {i : SlotId} (takes : s.takes i) {c : Instr} {tag : Byte} {name : ReqName}
    {serve : SlotId → State → State} (row : exec c s = .next (s.request tag name serve)) {t : State}
    (serves : serve i (s.held i tag name) = t) : exec c s = .next t :=
  row.trans (congrArg _ ((s.request_takes takes tag name serve).trans serves))

/-- A request served at the position its field names. -/
theorem atPosition_named {n : Nat} {k : Pos} (named : Pos.ofNumber n = some k) (f : FieldName) (i : SlotId) (s : State)
    (serve : Pos → State) : atPosition n f i s serve = serve k := by rw [atPosition, named]

section
variable {s : State} (i : SlotId) {ds : List Nat} {n : Nat}

theorem serveIRead_found (number : numberField ds = some n) {e : RegEntry} (found : s.findItem n = some e) :
    serveIRead ds i s = s.ok i (.regEntry e) := by simp only [serveIRead, number, found]

theorem serveIRead_unknown (number : numberField ds = some n) (absent : s.findItem n = none) :
    serveIRead ds i s = s.refuse i .noSuchItem := by simp only [serveIRead, number, absent]

theorem serveIRead_malformed (number : numberField ds = none) : serveIRead ds i s = s.badField i .number := by
  simp only [serveIRead, number]

end

/-! ## S_STATUS (R205) -/

/-- The two counts of the link, as they stand after a reply that may clear them. -/
def cleared (l : Link) (clear : Bool) : Link :=
  { l with
    frameErrors := if clear then 0 else l.frameErrors
    lostRequests := if clear then 0 else l.lostRequests }

theorem serveSStatus_eq (s : State) (i : SlotId) (clear : Bool) :
    serveSStatus clear i s = { s with link := Link.answer i (.ok (.part s.partView)) (cleared s.link clear) } := by
  cases clear <;> rfl

/-- A request answered where it holds its slot waits there with its reply. -/
theorem answer_slots {l : Link} {i : SlotId} {q : ReqSlot} (slot : l.slots[i] = some q) (r : Reply) :
    (Link.answer i r l).slots[i] = some { q with phase := .replyReady r } := by
  rw [HostFrames.answer_slot slot r, Link.sendNext_slots]
  simp

/-- Settles O4: each of the requests is served by one answer, before which the statistics may be cleared. -/
theorem statusAndStatisticsAnswered : Obligations.StatusAndStatisticsAnswered := by
  refine ⟨fun s i tag takes => ⟨fun n k named => ?position, ?tariff, fun ds n e number found => ?found,
    fun ds n number absent => ?unknown, fun ds number => ?malformed, ?list, ?counts, ?pool, ?belt, ?queue, ?release,
    ?label, ?settings⟩, fun s i tag clear takes => ⟨?cacheStats, ?releaseStats, ?labelStats, ?part⟩⟩
  case position =>
    have at_k := fun f t serve => atPosition_named named f i t serve
    exact ⟨exec_takes takes rfl (at_k ..),
      exec_takes takes rfl (at_k ..), exec_takes takes rfl (at_k ..)⟩
  case found => exact exec_takes takes rfl (serveIRead_found i number found)
  case unknown => exact exec_takes takes rfl (serveIRead_unknown i number absent)
  case malformed => exact exec_takes takes rfl (serveIRead_malformed i number)
  case tariff | list | counts | pool | belt | queue | release | label | settings => exact exec_takes takes rfl rfl
  case cacheStats | releaseStats | labelStats =>
    refine exec_takes takes rfl ?_
    cases clear <;> rfl
  case part =>
    refine ⟨_, exec_takes takes rfl (serveSStatus_eq _ i clear), ?_⟩
    obtain ⟨-, -, -, errors, lost, -⟩ := Link.answer_keeps (cleared (s.serving i tag .sStatus) clear) i
      (.ok (.part (s.held i tag .sStatus).partView))
    have slot : (cleared (s.serving i tag .sStatus) clear).slots[i] = some ⟨tag, .req .sStatus, .serving⟩ :=
      Link.hold_slot s.link i tag _
    obtain ⟨-, ready, -⟩ := takes
    rw [← ready]
    exact ⟨errors, lost, answer_slots slot _⟩

end Sys2Proof.Machine.StatusRequests
end

section
/-! PROOFS of 01_weighing_channels.md: conversion, mean and report (R3, R4, R6). -/

namespace Sys2Proof.Machine.WeighingArithmetic

/-- A magnitude divided and rounded half up lies within half the divisor of the quotient, and above it at exactly
half. -/
theorem roundHalfUp_nearest (n d : Int) (pos : 0 < d) :
    2 * ((2 * n + d) / (2 * d) * d - n) ≤ d ∧ -d < 2 * ((2 * n + d) / (2 * d) * d - n) := by
  have split := Int.mul_ediv_add_emod (2 * n + d) (2 * d)
  have low := Int.emod_nonneg (2 * n + d) (show 2 * d ≠ 0 by omega)
  have high := Int.emod_lt_of_pos (2 * n + d) (show 0 < 2 * d by omega)
  have regroup : 2 * d * ((2 * n + d) / (2 * d)) = 2 * ((2 * n + d) / (2 * d) * d) := by ring
  omega

theorem roundHalfUp_nonneg (n d : Int) (low : 0 ≤ n) (pos : 0 < d) : 0 ≤ (2 * n + d) / (2 * d) * d :=
  Int.mul_nonneg (Int.ediv_nonneg (by omega) (by omega)) pos.le

/-- A negative quotient is rounded by its magnitude. -/
theorem roundHalfAway_neg {num : Int} (den : Nat) (neg : num < 0) :
    roundHalfAway num den = -((2 * -num + den) / (2 * den)) := if_pos neg

theorem roundHalfAway_nonneg {num : Int} (den : Nat) (nonneg : ¬num < 0) :
    roundHalfAway num den = (2 * num + den) / (2 * den) := if_neg nonneg

/-- Settles O6, by the sign of the dividend: its magnitude is rounded half up, away from zero. -/
theorem weighingRoundsHalfAway : Obligations.WeighingRoundsHalfAway := by
  intro num den pos
  have dpos : (0 : Int) < den := Int.natCast_pos.mpr pos
  have near : 2 * (roundHalfAway num den * den - num).natAbs ≤ den ∧
      (2 * (roundHalfAway num den * den - num).natAbs = den → num.natAbs < (roundHalfAway num den * den).natAbs) := by
    by_cases neg : num < 0
    · obtain ⟨above, below⟩ := roundHalfUp_nearest (-num) den dpos
      have sign := roundHalfUp_nonneg (-num) den (by omega) dpos
      rw [roundHalfAway_neg den neg, Int.neg_mul]
      omega
    · obtain ⟨above, below⟩ := roundHalfUp_nearest num den dpos
      have sign := roundHalfUp_nonneg num den (by omega) dpos
      rw [roundHalfAway_nonneg den neg]
      omega
  refine ⟨near.1, near.2, fun zero raw counts => ?_, fun w sum length => ?_⟩
  · rw [fineAbout, counts, Int.toNat_natCast]
  · rw [meanOf, sum, length]

/-- Settles O7, by the two intervals. -/
theorem reportedGrossNearest : Obligations.ReportedGrossNearest := by
  intro f
  refine ⟨?interval, (f + 5 * intervalAt f) / (10 * intervalAt f), rfl, ?nearest⟩
  case interval => exact Nat.cast_ite ..
  case nearest =>
    rw [reportedGross, intervalAt]
    split <;> omega

end Sys2Proof.Machine.WeighingArithmetic
end

section
/-! PROOFS of 01_weighing_channels.md: the notices of a channel (R8, R21). -/

namespace Sys2Proof.Machine.ChannelNotices

/-- The WEIGHT_STATE that an event of channel k sends, where its class is enabled (R21). -/
def told (k : Pos) (c : Channel) (e : WeightEvent) : List Notice :=
  if Enables.allows c.enables e then [.weightState k e c.state c.shownReport] else []

/-- The notice of a change of state (R8). -/
def toldChange (k : Pos) (c : Channel) (before : ChanState) : List Notice :=
  if c.state = before then [] else told k c (.change before c.state)

theorem weightNotice_eq (s : State) (k : Pos) (e : WeightEvent) :
    s.weightNotice k e = s.onLink (fun l => l.offers (told k (s.channel k) e)) := by
  unfold State.weightNotice told
  split <;> rfl

theorem changeNotice_eq (s : State) (k : Pos) (before : ChanState) :
    s.changeNotice k before = s.onLink (fun l => l.offers (toldChange k (s.channel k) before)) := by
  unfold State.changeNotice toldChange
  rw [weightNotice_eq]
  split <;> rfl

theorem offers_ite {c : Prop} [Decidable c] (l : Link) (n : Notice) :
    l.offers (if c then [n] else []) = if c then l.offer n else l := by split <;> rfl

theorem offers_append (l : Link) (a b : List Notice) : l.offers (a ++ b) = (l.offers a).offers b :=
  List.foldl_append ..

end Sys2Proof.Machine.ChannelNotices
end

section
/-! PROOFS of 01_weighing_channels.md: the settings, zero, tare and calibration requests of a channel (R7, R10, R12 to
R14). -/

namespace Sys2Proof.Machine.WeighingRequests

open StatusRequests ChannelNotices

/-- A value limited to a range that is one. -/
theorem limit_eq {lo hi : Nat} (range : lo ≤ hi) (v : Nat) :
    limit lo hi v = if v < lo then lo else if hi < v then hi else v := by
  unfold limit
  split
  · omega
  · split <;> omega

/-! ## W_SET (R7) -/

/-- W_SET is told of where a changed N takes a STABLE channel to MOTION. -/
theorem toldChange_setSettle (k : Pos) (c : Channel) (n b : Nat) (e : Enables) :
    toldChange k (c.setSettle n b e) c.state = if n ≠ c.n ∧ c.state = .stable ∧ e.motionStable = true then
      [.weightState k (.change .stable .motion) .motion c.report] else [] := by
  unfold toldChange told Channel.setSettle
  by_cases same : n = c.n
  · simp [same]
  · by_cases stable : c.state = .stable
    · simp [same, stable, Enables.allows, Channel.shownReport]
    · simp [same, stable]

section
variable {s : State} {n : Nat} {k : Pos} (named : Pos.ofNumber n = some k) (i : SlotId)
include named

theorem serveWSet_eq (m b : Nat) (e : Enables) : serveWSet n m b e i s =
    (((s.onChannel k (fun _ => (s.channel k).setSettle (limit 4 32 m) (limit 1 5 b) e)).onLink fun l =>
      l.offers (toldChange k ((s.channel k).setSettle (limit 4 32 m) (limit 1 5 b) e) (s.channel k).state))).okOrClamped
      i (decide (limit 4 32 m ≠ m) || decide (limit 1 5 b ≠ b)) (.settle (limit 4 32 m) (limit 1 5 b)) := by
  rw [serveWSet, atPosition_named named]
  dsimp only
  rw [changeNotice_eq, State.channel_onChannel]
  rfl

/-! ## W_ZERO, W_TARE, W_CLEAR_TARE (R10, R12) -/

theorem serveWZero_refuses {r : Reason} (refusal : (s.channel k).zeroRefusal = some r) :
    serveWZero n i s = s.refuse i r := by
  simp only [serveWZero, atPosition_named named, refusal]

theorem serveWZero_zeroes (refusal : (s.channel k).zeroRefusal = none) :
    serveWZero n i s = (s.onChannel k fun c => { c with zw := c.mean }).ok i := by
  simp only [serveWZero, atPosition_named named, refusal]

theorem serveWTare_refuses {r : Reason} (refusal : (s.channel k).tareRefusal = some r) :
    serveWTare n i s = s.refuse i r := by
  simp only [serveWTare, atPosition_named named, refusal]

theorem serveWTare_tares (refusal : (s.channel k).tareRefusal = none) :
    serveWTare n i s = (s.onChannel k fun c => { c with tare := c.report.map (·.gross) }).ok i := by
  simp only [serveWTare, atPosition_named named, refusal]

theorem serveWClearTare_held (held : (s.channel k).capture ≠ none) :
    serveWClearTare n i s = s.refuse i .captureHeld := by
  rw [serveWClearTare, atPosition_named named]
  exact if_pos (Option.isSome_iff_ne_none.mpr held)

theorem serveWClearTare_clears (free : ¬(s.channel k).capture ≠ none) :
    serveWClearTare n i s = (s.onChannel k fun c => { c with tare := none }).ok i := by
  rw [serveWClearTare, atPosition_named named]
  exact if_neg (Option.isSome_iff_ne_none.not.mpr free)

end

/-- The mean lies more than 600 g from Z0, or there is no Z0 (R10). -/
theorem not_nearZ0_iff (c : Channel) (raw : Int) :
    (!c.nearZ0 raw) = true ↔ ∀ z, c.z0 = some z → 6000 < (fineAbout z c.k raw).natAbs := by
  unfold Channel.nearZ0
  cases c.z0 <;> simp

theorem zeroRefusal_eq (c : Channel) : c.zeroRefusal =
    if notStable c.state ≠ none then notStable c.state
    else if c.capture ≠ none then some .captureHeld
    else if c.tare ≠ none then some .tareHeld
    else if (!c.nearZ0 c.mean) = true then some .zeroRange
    else none := by
  unfold Channel.zeroRefusal
  cases notStable c.state <;> simp [Option.isSome_iff_ne_none]

theorem tareRefusal_eq (c : Channel) : c.tareRefusal =
    if notStable c.state ≠ none then notStable c.state
    else if c.capture ≠ none then some .captureHeld
    else if ∀ r, c.report = some r → r.gross < 1 ∨ 2000 < r.gross then some .tareRange
    else none := by
  unfold Channel.tareRefusal
  cases notStable c.state with
  | some r => simp
  | none =>
    cases c.report with
    | none => simp [Option.isSome_iff_ne_none]
    | some r =>
      have outside : (r.gross < 1 ∨ 2000 < r.gross) ↔ ¬(1 ≤ r.gross ∧ r.gross ≤ 2000) := by omega
      simp only [Option.isSome_iff_ne_none, Option.some.injEq, forall_eq', outside, ite_not, ne_eq, if_true]

/-- Settles O11: the settings by their limits, the others by the first check that fails. -/
theorem weighingRequests : Obligations.WeighingRequests := by
  refine ⟨fun s i tag takes => ⟨fun n k m b e named => ?set, fun ms => ?timeout⟩,
    fun s i tag n k takes named => ?_⟩
  case set =>
    refine exec_takes takes rfl ((serveWSet_eq named i m b e).trans ?_)
    rw [toldChange_setSettle, limit_eq (by decide), limit_eq (by decide), State.okOrClamped]
    simp only [offers_ite, Bool.or_eq_true, decide_eq_true_eq]
    rfl
  case timeout =>
    refine exec_takes takes rfl ?_
    rw [serveWTimeout, limit_eq (by decide), State.okOrClamped]
    simp only [decide_eq_true_eq, ite_not]
    rfl
  intro c notStable zeroRefusal tareRefusal
  have stable : Machine.notStable c.state = notStable := by
    simp only [notStable]
    cases c.state <;> rfl
  have zero : zeroRefusal = c.zeroRefusal := by
    rw [zeroRefusal_eq, stable]
    simp only [zeroRefusal, not_nearZ0_iff, Channel.mean]
  have tare : tareRefusal = c.tareRefusal := by rw [tareRefusal_eq, stable]
  refine ⟨?zero, ?tare, ?clear⟩
  case zero =>
    rw [zero]
    cases refusal : c.zeroRefusal with
    | some r => exact exec_takes takes rfl (serveWZero_refuses named i refusal)
    | none => exact exec_takes takes rfl (serveWZero_zeroes named i refusal)
  case tare =>
    rw [tare]
    cases refusal : c.tareRefusal with
    | some r => exact exec_takes takes rfl (serveWTare_refuses named i refusal)
    | none => exact exec_takes takes rfl (serveWTare_tares named i refusal)
  case clear =>
    split
    next held => exact exec_takes takes rfl (serveWClearTare_held named i held)
    next free => exact exec_takes takes rfl (serveWClearTare_clears named i free)

/-! ## Calibration (R13, R14) -/

/-- A channel in MOTION refuses a calibration of zero. -/
theorem calibrateZeroRefusal_motion {c : Channel} (motion : c.state = .motion) : c.calibrateZeroRefusal = some .unstable := by
  simp [Channel.calibrateZeroRefusal, motion]

/-- A calibration of zero is told of where the channel was not STABLE: by the class of faults, since none is carried
out in MOTION. -/
theorem toldChange_calibrateZero (k : Pos) {c : Channel} (accepted : c.calibrateZeroRefusal = none) :
    toldChange k c.calibrateZero c.state = if c.state ≠ .stable ∧ c.enables.fault = true then
      [.weightState k (.change c.state .stable) .stable (some ⟨0, 0, 2, false⟩)] else [] := by
  unfold toldChange told Channel.calibrateZero
  cases state : c.state with
  | motion => cases (calibrateZeroRefusal_motion state).symm.trans accepted
  | stable => rfl
  | _ => simp [Enables.allows, Channel.shownReport]; rfl

section
variable {s : State} {n : Nat} {k : Pos} (named : Pos.ofNumber n = some k) (i : SlotId)
include named

theorem serveWCalibrateZero_refuses {r : Reason} (refusal : (s.channel k).calibrateZeroRefusal = some r) :
    serveWCalibrateZero n i s = s.refuse i r := by
  simp only [serveWCalibrateZero, atPosition_named named, refusal]

theorem serveWCalibrateZero_calibrates (refusal : (s.channel k).calibrateZeroRefusal = none) :
    serveWCalibrateZero n i s = ((s.onChannel k fun _ => (s.channel k).calibrateZero).onLink fun l =>
      if (s.channel k).state ≠ .stable ∧ (s.channel k).enables.fault = true then
        l.offer (.weightState k (.change (s.channel k).state .stable) .stable (some ⟨0, 0, 2, false⟩)) else l).ok i := by
  simp only [serveWCalibrateZero, atPosition_named named, refusal]
  rw [changeNotice_eq, State.channel_onChannel, toldChange_calibrateZero k refusal]
  simp only [offers_ite]
  rfl

theorem serveWCalibrateSpan_outside {g : Nat} (outside : g < 1000 ∨ 30000 < g) :
    serveWCalibrateSpan n g i s = s.badField i .grams := by
  rw [serveWCalibrateSpan, atPosition_named named]
  exact if_pos outside

section
variable {g : Nat} (low : 1000 ≤ g) (high : g ≤ 30000)
include low high

theorem serveWCalibrateSpan_refuses {r : Reason} (refusal : (s.channel k).spanRefusal g = some r) :
    serveWCalibrateSpan n g i s = s.refuse i r := by
  simp only [serveWCalibrateSpan, atPosition_named named, refusal, gt_iff_lt, not_lt.mpr low, not_lt.mpr high, or_self,
    if_false]

theorem serveWCalibrateSpan_calibrates (refusal : (s.channel k).spanRefusal g = none) :
    serveWCalibrateSpan n g i s =
      (s.onChannel k fun c => { c with k := c.spanK g, tare := none, calibration := .calibrated }).ok i := by
  simp only [serveWCalibrateSpan, atPosition_named named, refusal, gt_iff_lt, not_lt.mpr low, not_lt.mpr high, or_self,
    if_false]

end
end

/-- Settles O12, by the first check that fails. -/
theorem calibrationRequests : Obligations.CalibrationRequests := by
  intro s i tag n k takes named c mean zeroRefusal zeroed held told
  refine ⟨?zero, fun g outside => ?outside, fun g low high => ?span⟩
  case zero =>
    have zero : zeroRefusal = c.calibrateZeroRefusal := by
      unfold Channel.calibrateZeroRefusal
      simp only [zeroRefusal, Bool.or_eq_true, Bool.not_eq_true', beq_iff_eq, Option.isSome_iff_ne_none]
    rw [zero]
    cases refusal : c.calibrateZeroRefusal with
    | some r => exact exec_takes takes rfl (serveWCalibrateZero_refuses named i refusal)
    | none => exact exec_takes takes rfl (serveWCalibrateZero_calibrates (s := s.held i tag _) named i refusal)
  case outside => exact exec_takes takes rfl (serveWCalibrateSpan_outside named i outside)
  case span =>
    intro span spanRefusal
    have spans : spanRefusal = c.spanRefusal g := by
      unfold Channel.spanRefusal
      simp only [spanRefusal, Bool.not_eq_true', Option.isSome_iff_ne_none]
      rfl
    rw [spans]
    cases refusal : c.spanRefusal g with
    | some r => exact exec_takes takes rfl (serveWCalibrateSpan_refuses named i low high refusal)
    | none => exact exec_takes takes rfl (serveWCalibrateSpan_calibrates (s := s.held i tag _) named i low high refusal)

end Sys2Proof.Machine.WeighingRequests
end

section
/-! PROOFS of 01_weighing_channels.md, 02_dimension_gauges.md and 06_items_and_numbers.md: the capture and the dimensions
of an item to be rated (R15, R16, R32), and I_RATE (R105, R106). -/

namespace Sys2Proof.Machine.ItemRating

open StatusRequests

/-! ## A slot, a channel or a gauge written twice, or with what it holds -/

theorem set_set {α : Type} (v : Six α) (k : Pos) (x y : α) : (v.set k x).set k y = v.set k y := by cases k <;> rfl

section
variable (s : State) (k : Pos)

theorem setOpenSlot_setOpenSlot (o p : OpenSlot) : (s.setOpenSlot k o).setOpenSlot k p = s.setOpenSlot k p := by
  simp only [State.setOpenSlot, State.onItems, set_set]

theorem onChannel_onChannel (c d : Channel) :
    (s.onChannel k fun _ => c).onChannel k (fun _ => d) = s.onChannel k fun _ => d := by
  simp only [State.onChannel, State.onWeighing, set_set]

theorem onChannel_self : (s.onChannel k fun _ => s.channel k) = s := by
  simp only [State.onChannel, State.onWeighing, State.channel, Six.set_get]

theorem onGauge_self : (s.onGauge k fun _ => s.gauges.get k) = s := by simp only [State.onGauge, Six.set_get]

end

/-! ## A capture request (R15, R16) -/

/-- A capture request may be answered by the state of the channel. -/
def Free (c : Channel) : Prop := c.capture = none ∧ c.calibration = .calibrated ∧ c.interlock = false

/-- The channel refuses a capture request for this reason. -/
def Refuses (c : Channel) (reason : Reason) : Prop :=
  (c.capture = none ∧ c.calibration ≠ .calibrated ∧ reason = .uncalibrated) ∨
  (c.capture = none ∧ c.calibration = .calibrated ∧ c.interlock = true ∧ reason = .removeFirst) ∨
  (Free c ∧ ((c.state = .offline ∧ reason = .channelOffline) ∨
    (c.state = .zeroing ∧ reason = .channelZeroing) ∨ (c.state = .over ∧ reason = .channelOver) ∨
    (c.state = .under ∧ reason = .channelUnder) ∨
    (c.state = .stable ∧ ∃ r, c.report = some r ∧
      ((r.net < 20 ∧ reason = .tooLight) ∨ (30000 < r.net ∧ reason = .tooHeavy)))))

section
variable {c : Channel} {minute : Option Minute} {timeout : Nat}

section
variable {r : Report} (report : c.report = some r)
include report

theorem captureNow_light (light : r.net < 20) : c.captureNow minute = .error .tooLight := by
  simp only [Channel.captureNow, report, light, if_true]

theorem captureNow_heavy (heavy : 30000 < r.net) : c.captureNow minute = .error .tooHeavy := by
  have enough : ¬r.net < 20 := by omega
  simp only [Channel.captureNow, report, enough, gt_iff_lt, heavy, if_true, if_false]

theorem captureNow_within (enough : 20 ≤ r.net) (bearable : r.net ≤ 30000) :
    c.captureNow minute = .ok ⟨r.net, r.e, minute⟩ := by
  simp only [Channel.captureNow, report, gt_iff_lt, not_lt.mpr enough, not_lt.mpr bearable, if_false]

end

theorem requestCapture_held {x : Capture} (held : c.capture = some x) :
    c.requestCapture minute timeout = (c, .captured x) := by simp only [Channel.requestCapture, held]

section
variable (free : Free c)
include free

theorem requestCapture_waits (motion : c.state = .motion) :
    c.requestCapture minute timeout = ({ c with waiting := some timeout }, .waits) := by
  obtain ⟨empty, calibrated, unlocked⟩ := free
  simp [Channel.requestCapture, empty, calibrated, unlocked, motion]

theorem requestCapture_captures (stable : c.state = .stable) {x : Capture} (now : c.captureNow minute = .ok x) :
    c.requestCapture minute timeout = (c.takeCapture x, .captured x) := by
  obtain ⟨empty, calibrated, unlocked⟩ := free
  simp [Channel.requestCapture, empty, calibrated, unlocked, stable, now]

theorem requestCapture_unfit (stable : c.state = .stable) {reason : Reason} (now : c.captureNow minute = .error reason) :
    c.requestCapture minute timeout = (c, .refused reason) := by
  obtain ⟨empty, calibrated, unlocked⟩ := free
  simp [Channel.requestCapture, empty, calibrated, unlocked, stable, now]

end

theorem requestCapture_refuses {reason : Reason} (refuses : Refuses c reason) :
    c.requestCapture minute timeout = (c, .refused reason) := by
  obtain ⟨empty, uncalibrated, rfl⟩ | ⟨empty, calibrated, locked, rfl⟩ | ⟨free, states⟩ := refuses
  · simp [Channel.requestCapture, empty, uncalibrated]
  · simp [Channel.requestCapture, empty, calibrated, locked]
  · have ⟨empty, calibrated, unlocked⟩ := free
    obtain ⟨state, rfl⟩ | ⟨state, rfl⟩ | ⟨state, rfl⟩ | ⟨state, rfl⟩ | ⟨stable, r, report, unfit⟩ := states
    rotate_left 4
    · obtain ⟨light, rfl⟩ | ⟨heavy, rfl⟩ := unfit
      · exact requestCapture_unfit free stable (captureNow_light report light)
      · exact requestCapture_unfit free stable (captureNow_heavy report heavy)
    all_goals simp [Channel.requestCapture, empty, calibrated, unlocked, state]

end

/-! ## The dimensions of an item (R32, R106) -/

/-- The record a rating latches where the three axes are READY. -/
def ratingLatch (g : Gauge) : LatchRecord :=
  ⟨g.axes.map (·.count), g.axes.map (fun a => (a.count.toNat + 19) / 20), .rating, true⟩

/-- The first axis that is not READY, in the order L, W, H (R29). -/
theorem failsLatch_of {g : Gauge} {a : Axis} (here : (g.axes.get a).state ≠ .ready)
    (width : a = .width → (g.axes.get .length).state = .ready)
    (height : a = .height → (g.axes.get .length).state = .ready ∧ (g.axes.get .width).state = .ready) :
    DimensionGauges.failsLatch g a := by
  refine ⟨here, fun other => ?_, fun is_height => (height is_height).2⟩
  cases a with
  | length => exact absurd rfl other
  | width => exact width rfl
  | height => exact (height rfl).1

section
variable {g : Gauge}

theorem requestDims_record {r : LatchRecord} (record : g.record = some r) : g.requestDims =
    ({ g with record := some { r with claimed := true } }, .ok { r with claimed := true }) := by
  simp only [Gauge.requestDims, record]

variable (empty : g.record = none)
include empty

theorem requestDims_latches (ready : ∀ a, (g.axes.get a).state = .ready) :
    g.requestDims = ({ g with record := some (ratingLatch g) }, .ok (ratingLatch g)) := by
  simp only [Gauge.requestDims, empty, Gauge.latch, DimensionGauges.notReady_eq_none ready]
  rfl

theorem requestDims_fails {a : Axis} (fails : DimensionGauges.failsLatch g a) : g.requestDims = (g, .error a) := by
  simp only [Gauge.requestDims, empty, Gauge.latch, DimensionGauges.notReady_eq_some fails]

end

/-! ## The rating request placed (R77, R106) -/

/-- The item of position k QUEUED with its dimensions in hand: the gauge with its record, the slot and the request, which
waits. -/
def queued (s : State) (k : Pos) (i : SlotId) (it : OpenItem) (d : Three Nat) (r : Option LatchRecord) : State :=
  ((s.onGauge k fun _ => { s.gauges.get k with record := r }).setOpenSlot k (.rating it .queued i)).onRating fun u =>
    { u with pendingList := u.pendingList ++ [it.request k ((it.capture.map Capture.net).getD 0).toNat d] }

section
variable {s : State} {k : Pos} {it : OpenItem} {i : SlotId}

theorem gatherDims_keyed {d : Three Nat} (keyed : it.keyed = some d) :
    s.gatherDims k it i = (queued s k i it d (s.gauges.get k).record).arbitrate := by
  have same : (s.onGauge k fun _ => { s.gauges.get k with record := (s.gauges.get k).record }) = s := onGauge_self s k
  rw [queued, same]
  simp only [State.gatherDims, keyed]
  rfl

section
variable (unkeyed : it.keyed = none)
include unkeyed

theorem gatherDims_record {r : LatchRecord} (record : (s.gauges.get k).record = some r) :
    s.gatherDims k it i = (queued s k i { it with latched := some { r with claimed := true } } r.cm
      (some { r with claimed := true })).arbitrate := by
  simp only [State.gatherDims, unkeyed, requestDims_record record]
  rfl

variable (empty : (s.gauges.get k).record = none)
include empty

theorem gatherDims_latches (ready : ∀ a, ((s.gauges.get k).axes.get a).state = .ready) :
    s.gatherDims k it i = (queued s k i { it with latched := some (ratingLatch (s.gauges.get k)) }
      (ratingLatch (s.gauges.get k)).cm (some (ratingLatch (s.gauges.get k)))).arbitrate := by
  simp only [State.gatherDims, unkeyed, requestDims_latches empty ready]
  rfl

theorem gatherDims_fails {a : Axis} (fails : DimensionGauges.failsLatch (s.gauges.get k) a) :
    s.gatherDims k it i = (s.setOpenSlot k (.opened it)).refuse i .gaugeNotReady
      (.latchFailed a (s.gauges.get k).states) := by
  simp only [State.gatherDims, unkeyed, requestDims_fails empty fails, onGauge_self]

end

/-- A rating in progress leaves the arbiter nothing to choose. -/
theorem arbitrate_busy {s : State} (busy : s.rating.current ≠ none) : s.arbitrate = s :=
  RatingEnds.arbitrateN_stays (.inl busy) _

/-! ## The I_RATE in GATHERING (R105) -/

/-- What gathering makes of the slot does not depend on what it held. -/
theorem gatherDims_setOpenSlot (o : OpenSlot) : (s.setOpenSlot k o).gatherDims k it i = s.gatherDims k it i := by
  have overwrites (t : State) (p : OpenSlot) : (t.setOpenSlot k o).setOpenSlot k p = t.setOpenSlot k p :=
    setOpenSlot_setOpenSlot t k o p
  unfold State.gatherDims State.queueRating
  rw [State.setOpenSlot_gauges]
  cases it.keyed with
  | some d => exact congrArg (State.placeRating · _) (overwrites s _)
  | none =>
    obtain ⟨g, answer⟩ := (s.gauges.get k).requestDims
    cases answer with
    | error a => exact congrArg (State.refuse · i _ _) (overwrites (s.onGauge k fun _ => g) _)
    | ok r => exact congrArg (State.placeRating · _) (overwrites (s.onGauge k fun _ => g) _)

section
variable (gathers : s.openSlot k = .rating it .gathering i)
include gathers

theorem captureGathered_gathers (x : Capture) :
    s.captureGathered k x = s.gatherDims k { it with capture := some x } i := by
  simp only [State.captureGathered, gathers]

theorem captureRefused_opens (r : Reason) : s.captureRefused k r = (s.setOpenSlot k (.opened it)).refuse i r := by
  simp only [State.captureRefused, gathers]

end

section
variable {c d : Channel} (here : s.channel k = d)
include here

theorem beginRate_refused {r : Reason}
    (asked : d.requestCapture s.minuteNow s.weighing.timeout = (c, .refused r)) :
    s.beginRate k it i = ((s.onChannel k fun _ => c).setOpenSlot k (.opened it)).refuse i r := by
  simp only [State.beginRate, here, asked]
  have gathers := State.openSlot_setOpenSlot (s.onChannel k fun _ => c) k (.rating it .gathering i)
  exact (captureRefused_opens gathers r).trans (congrArg (State.refuse · i r) (setOpenSlot_setOpenSlot ..))

theorem beginRate_waits
    (asked : d.requestCapture s.minuteNow s.weighing.timeout = (c, .waits)) :
    s.beginRate k it i = (s.onChannel k fun _ => c).setOpenSlot k (.rating it .gathering i) := by
  simp only [State.beginRate, here, asked]
  rfl

theorem beginRate_captured {x : Capture}
    (asked : d.requestCapture s.minuteNow s.weighing.timeout = (c, .captured x)) :
    s.beginRate k it i = (s.onChannel k fun _ => c).gatherDims k { it with capture := some x } i := by
  simp only [State.beginRate, here, asked]
  have gathers := State.openSlot_setOpenSlot (s.onChannel k fun _ => c) k (.rating it .gathering i)
  exact (captureGathered_gathers gathers x).trans (gatherDims_setOpenSlot _)

end
end

/-! ## I_RATE (R105, R106) -/

section
variable {s : State} {n : Nat} {k : Pos} (named : Pos.ofNumber n = some k) (i : SlotId)
include named

theorem serveIRate_idle (idle : s.openSlot k = .idle) : serveIRate n i s = s.refuse i .noItem := by
  simp only [serveIRate, atPosition_named named, idle]

theorem serveIRate_rating {it : OpenItem} {ph : RatePhase} {j : SlotId} (rating : s.openSlot k = .rating it ph j) :
    serveIRate n i s = s.refuse i .busyRating := by
  simp only [serveIRate, atPosition_named named, rating]

/-- The rating of an item begins with its channel, a RATED item's SERVICE_LIMIT unloaded. -/
theorem serveIRate_begins {it : OpenItem} {c : Channel} (holds : (s.openSlot k = .opened it ∧ c = s.channel k) ∨
    ∃ r stale, s.openSlot k = .rated it r stale ∧ c = { s.channel k with limit := none }) :
    serveIRate n i s = (s.onChannel k fun _ => c).beginRate k it i := by
  obtain ⟨opened, rfl⟩ | ⟨r, stale, rated, rfl⟩ := holds
  · rw [onChannel_self]
    simp only [serveIRate, atPosition_named named, opened]
  · simp only [serveIRate, atPosition_named named, rated]
    rfl

end

/-- A capture is in hand: the one held, or one that the report of a STABLE channel gives now. -/
theorem requestCapture_gets {c c' : Channel} {x : Capture} {minute : Option Minute} {timeout : Nat}
    (gets : (c.capture = some x ∧ c' = c) ∨ (Free c ∧ c.state = .stable ∧
      ∃ r, c.report = some r ∧ 20 ≤ r.net ∧ r.net ≤ 30000 ∧ x = ⟨r.net, r.e, minute⟩ ∧
        c' = { c with capture := some x, disturb := some x.net, waiting := none })) :
    c.requestCapture minute timeout = (c', .captured x) := by
  obtain ⟨held, rfl⟩ | ⟨free, stable, r, report, enough, bearable, rfl, rfl⟩ := gets
  · exact requestCapture_held held
  · exact requestCapture_captures free stable (captureNow_within report enough bearable)

/-- Settles O37, by what the slot holds, then by the answer of the channel and that of the gauge. -/
theorem itemRated : Obligations.ItemRated := by
  intro s i tag n k takes named
  refine ⟨fun idle => ?idle, fun it ph j rating => ?rating, fun it c holds => ?begins⟩
  case idle => exact exec_takes takes rfl (serveIRate_idle (s := s.held i tag _) named i idle)
  case rating => exact exec_takes takes rfl (serveIRate_rating (s := s.held i tag _) named i rating)
  intro held free
  have begins {t : State} (begun : held.beginRate k it i = t) : exec (.iRate tag n) s = .next t :=
    exec_takes takes rfl ((serveIRate_begins (s := s.held i tag _) named i holds).trans begun)
  have channel : held.channel k = c := State.channel_onChannel ..
  have again (d : Channel) := onChannel_onChannel (s.held i tag .iRate) k c d
  refine ⟨fun reason refuses => begins ?refused, fun isFree motion =>
    begins (beginRate_waits channel (requestCapture_waits isFree motion)), fun x c' gets => ?captured⟩
  case refused => rw [beginRate_refused channel (requestCapture_refuses refuses), again]
  intro got weighed g queues
  have gathers {t : State} (gathered : weighed.gatherDims k got i = t) : exec (.iRate tag n) s = .next t :=
    begins ((beginRate_captured channel (requestCapture_gets gets)).trans gathered)
  have stays {y : OpenItem} {d : Three Nat} {r : Option LatchRecord} (busy : s.rating.current ≠ none) :
      (queued weighed k i y d r).arbitrate = queued weighed k i y d r := arbitrate_busy busy
  have by_key {d : Three Nat} := gatherDims_keyed (s := weighed) (k := k) (it := got) (i := i) (d := d)
  have by_record {r : LatchRecord} := gatherDims_record (s := weighed) (k := k) (it := got) (i := i) (r := r)
  have by_latch := gatherDims_latches (s := weighed) (k := k) (it := got) (i := i)
  have by_none {a : Axis} := gatherDims_fails (s := weighed) (k := k) (it := got) (i := i) (a := a)
  exact ⟨fun a unkeyed empty here width height => gathers (by_none unkeyed empty (failsLatch_of here width height)),
    ⟨fun d keyed => gathers (by_key keyed), fun r unkeyed record => gathers (by_record unkeyed record),
      fun unkeyed empty ready => gathers (by_latch unkeyed empty ready)⟩,
    fun busy => ⟨fun d keyed => gathers ((by_key keyed).trans (stays busy)),
      fun r unkeyed record => gathers ((by_record unkeyed record).trans (stays busy)),
      fun unkeyed empty ready => gathers ((by_latch unkeyed empty ready).trans (stays busy))⟩⟩

end Sys2Proof.Machine.ItemRating
end

section
/-! PROOFS of 05_rating.md and 06_items_and_numbers.md: what ratings leave of the weighing channels (R84), and what a
lost capture does to an item (R111, R80, R81). -/

namespace Sys2Proof.Machine.LostCaptures

open RatingEnds ItemRating

/-! ## A rating touches the channels' SERVICE_LIMIT alone -/

/-- Every channel of `t` is that of `s`, but for its SERVICE_LIMIT. -/
structure SameButLimits (s t : State) : Prop where
  channel : ∀ j, ∃ m, t.channel j = { s.channel j with limit := m }

namespace SameButLimits
variable {s t u : State}

theorem refl (s : State) : SameButLimits s s := ⟨fun _ => ⟨_, rfl⟩⟩

theorem andThen (a : SameButLimits s t) (b : SameButLimits t u) : SameButLimits s u := ⟨fun j => by
  obtain ⟨m, first⟩ := a.channel j
  obtain ⟨n, second⟩ := b.channel j
  exact ⟨n, by rw [second, first]⟩⟩

theorem same (weighing : t.weighing = s.weighing) : SameButLimits s t :=
  ⟨fun j => ⟨(s.channel j).limit, congrArg (fun w => w.channels.get j) weighing⟩⟩

theorem after (b : SameButLimits t u) (weighing : t.weighing = s.weighing) : SameButLimits s u :=
  (same weighing).andThen b

theorem ite {c : Prop} [Decidable c] (a : SameButLimits s t) (b : SameButLimits s u) :
    SameButLimits s (if c then t else u) := by split <;> assumption

theorem core (a : SameButLimits s t) (j : Pos) : (t.channel j).core = (s.channel j).core := by
  obtain ⟨m, same⟩ := a.channel j
  rw [same]
  rfl

theorem waiting (a : SameButLimits s t) (j : Pos) : (t.channel j).waiting = (s.channel j).waiting := by
  obtain ⟨m, same⟩ := a.channel j
  rw [same]

end SameButLimits

open SameButLimits

section
variable (s : State)

theorem loadLimit_channels (k : Pos) (most : Nat) : SameButLimits s (s.loadLimit k most) := by
  refine ⟨fun j => ?_⟩
  by_cases here : j = k
  · subst here
    rw [State.loadLimit, State.channel_onChannel]
    split
    · exact ⟨_, rfl⟩
    · exact ⟨_, rfl⟩
  · exact ⟨_, State.channel_onChannel_ne s _ here⟩

theorem handResult_channels (k : Pos) (r : RateResult) : SameButLimits s (s.handResult k r) := by
  unfold State.handResult
  split
  · exact SameButLimits.ite (same rfl) (same rfl)
  all_goals exact refl s

theorem completeRating_channels (k : Pos) (r : RateResult) (most : Nat) :
    SameButLimits s (s.completeRating k r most) := by
  have handed : SameButLimits s ((s.onRating fun u => { u with current := none }).handResult k r) :=
    (handResult_channels _ k r).after rfl
  exact SameButLimits.ite (handed.andThen (loadLimit_channels _ k most)) handed

theorem giveLookup_channels (l : Lookup) : SameButLimits s (s.giveLookup l).1 := by
  unfold State.giveLookup
  split
  · exact same rfl
  · obtain ⟨c, p, leaves, -⟩ := takeLookup_leaves s l
    rw [leaves]
    exact same rfl

theorem giveOn_channels (k : Pos) (most : Nat) (st : Stage) : SameButLimits s (s.giveOn k most st).1 := by
  cases st with
  | decided r => exact completeRating_channels s k r most
  | goesOn u => exact (giveLookup_channels _ u.lookup).after rfl

theorem workStage_channels (k : Pos) (most : Nat) (st : Stage) : SameButLimits s (s.workStage k most st) := by
  have first := giveOn_channels s k most st
  unfold State.workStage
  split
  next given => exact (given ▸ first :)
  next t u a given =>
    rw [given] at first
    have second := giveOn_channels t k u.service.maxWeight (u.answered a)
    split
    next given' => exact first.andThen (given' ▸ second :)
    next given' =>
      rw [given'] at second
      exact (first.andThen second).andThen (giveOn_channels ..)

theorem arbitrateN_channels (n : Nat) : ∀ s : State, SameButLimits s (State.arbitrateN n s) := by
  induction n with
  | zero => exact refl
  | succ n ih =>
    intro s
    obtain ⟨current, q, next⟩ | stays := arbiter_cases s
    · rw [arbitrateN_chooses current next]
      have chooses : SameButLimits s (chosen s q) := by
        obtain ⟨i, leaves⟩ := slotInProgress_leaves (s.onRating fun r => { r with
          pendingList := r.pendingList.filter fun o => o.position != q.position, lastServed := q.position }) q.position
        rw [chosen, leaves]
        exact same rfl
      exact (chooses.andThen (workStage_channels ..)).andThen (ih _)
    · rw [arbitrateN_stays stays]
      exact refl s

theorem arbitrate_channels : SameButLimits s s.arbitrate := arbitrateN_channels _ s

end

/-! ## The request or the rating of an item withdrawn (R80, R81) -/

section
variable {s : State} {k : Pos}

/-- The lookup of a withdrawn rating is dropped from the cache where it waits there, else it becomes the orphan. -/
def lookupLeft (s : State) (u : RatingRun) : State :=
  if s.cache.waiting.isSome = true then s.onCache fun x => { x with waiting := none }
  else s.onRating fun x => { x with orphan := some u.lookup }

theorem withdrawRating_waits (elsewhere : ∀ u, s.rating.current = some u → u.req.position ≠ k) :
    s.withdrawRating k = s.onRating fun x => { x with
      pendingList := x.pendingList.filter (fun q => q.position != k) } := by
  unfold State.withdrawRating
  split
  next u current => exact if_neg (elsewhere u current)
  next => rfl

theorem withdrawRating_runs {u : RatingRun} (current : s.rating.current = some u) (here : u.req.position = k) :
    s.withdrawRating k = ((lookupLeft s u).onRating fun x => { x with current := none }).arbitrate := by
  simp only [State.withdrawRating, State.leaveLookup, current, here, if_true]
  rfl

theorem withdrawRating_channels : SameButLimits s (s.withdrawRating k) := by
  by_cases elsewhere : ∀ u, s.rating.current = some u → u.req.position ≠ k
  · rw [withdrawRating_waits elsewhere]
    exact same rfl
  · push Not at elsewhere
    obtain ⟨u, current, here⟩ := elsewhere
    rw [withdrawRating_runs current here]
    refine (arbitrate_channels _).after ?_
    unfold lookupLeft
    split <;> rfl

/-! ## A lost capture (R111) -/

/-- Nothing is lost by a slot without an item, or by one whose capture is not yet taken. -/
theorem captureLost_nothing (holds : s.openSlot k = .idle ∨ ∃ it i, s.openSlot k = .rating it .gathering i)
    (cause : LostCause) : s.captureLost k cause = s := by
  obtain idle | ⟨it, i, gathers⟩ := holds
  · simp only [State.captureLost, idle]
  · simp only [State.captureLost, gathers]

theorem captureLost_opened {it : OpenItem} (opened : s.openSlot k = .opened it) (cause : LostCause) :
    s.captureLost k cause =
      (s.setOpenSlot k (.opened { it with capture := none })).offer (.itemDisturbed k cause .opened) := by
  simp only [State.captureLost, opened]

theorem captureLost_rated {it : OpenItem} {r : RateResult} {stale : Bool} (rated : s.openSlot k = .rated it r stale)
    (cause : LostCause) : s.captureLost k cause =
      (s.setOpenSlot k (.opened { it with capture := none })).offer (.itemDisturbed k cause .rated) := by
  simp only [State.captureLost, rated]

theorem captureLost_rating {it : OpenItem} {ph : RatePhase} {i : SlotId} (rating : s.openSlot k = .rating it ph i)
    (placed : ph ≠ .gathering) (cause : LostCause) : s.captureLost k cause =
      (((s.setOpenSlot k (.opened { it with capture := none })).withdrawRating k).refuse i .disturbed).offer
        (.itemDisturbed k cause .rating) := by
  cases ph with
  | gathering => exact absurd rfl placed
  | queued | inProgress => simp only [State.captureLost, rating]

theorem captureLost_channels (s : State) (k : Pos) (cause : LostCause) : SameButLimits s (s.captureLost k cause) := by
  unfold State.captureLost
  split
  case h_3 it i _ | h_4 it i _ =>
    have withdrawn := withdrawRating_channels (s := s.setOpenSlot k (.opened { it with capture := none })) (k := k)
    exact SameButLimits.andThen (withdrawn.after rfl) (same rfl)
  all_goals exact same rfl

/-! ## A capture request that fails, or ends with a capture (R16, R105) -/

theorem captureRefused_stays (other : ∀ it i, s.openSlot k ≠ .rating it .gathering i) (r : Reason) :
    s.captureRefused k r = s := by
  unfold State.captureRefused
  split
  next gathers => exact absurd gathers (other _ _)
  all_goals rfl

theorem captureRefused_channels (s : State) (k : Pos) (r : Reason) : SameButLimits s (s.captureRefused k r) := by
  unfold State.captureRefused
  split
  all_goals exact same rfl

theorem gatherDims_channels (s : State) (k : Pos) (it : OpenItem) (i : SlotId) :
    SameButLimits s (s.gatherDims k it i) := by
  unfold State.gatherDims State.queueRating State.placeRating
  split
  · exact (arbitrate_channels _).after rfl
  · split
    · exact same rfl
    · exact (arbitrate_channels _).after rfl

theorem captureGathered_channels (s : State) (k : Pos) (x : Capture) : SameButLimits s (s.captureGathered k x) := by
  unfold State.captureGathered
  split
  · exact gatherDims_channels ..
  all_goals exact refl s

end

end Sys2Proof.Machine.LostCaptures
end

section
/-! PROOFS of 01_weighing_channels.md: a channel and its notices as one state (R8, R21), a missed sample and the end of
a capture wait (R1, R16, R17, R19, R111). -/

namespace Sys2Proof.Machine.MissedSamples

open ChannelNotices ItemRating LostCaptures

/-! ## A channel and its notices -/

/-- `s` with channel k at `c`, and these notices offered. -/
def standsAt (s : State) (k : Pos) (c : Channel) (ns : List Notice) : State :=
  (s.onChannel k fun _ => c).onLink fun l => l.offers ns

section
variable (s : State) (k : Pos) (c : Channel) (ns : List Notice)

@[simp] theorem standsAt_channel : (standsAt s k c ns).channel k = c :=
  State.channel_onChannel s k fun _ => c

theorem standsAt_channel_ne {j : Pos} (other : j ≠ k) : (standsAt s k c ns).channel j = s.channel j :=
  State.channel_onChannel_ne s (fun _ => c) other

theorem standsAt_onChannel (f : Channel → Channel) :
    (standsAt s k c ns).onChannel k f = standsAt s k (f c) ns := by
  have same : (s.onChannel k fun _ => c).onChannel k f = s.onChannel k fun _ => f c := by
    simp only [State.onChannel, State.onWeighing, set_set, Six.get_set_self]
  exact congrArg (State.onLink · fun l => l.offers ns) same

theorem standsAt_weightNotice (e : WeightEvent) :
    (standsAt s k c ns).weightNotice k e = standsAt s k c (ns ++ told k c e) := by
  rw [weightNotice_eq, standsAt_channel]
  simp only [standsAt, State.onLink, offers_append]

theorem standsAt_changeNotice (before : ChanState) :
    (standsAt s k c ns).changeNotice k before = standsAt s k c (ns ++ toldChange k c before) := by
  rw [changeNotice_eq, standsAt_channel]
  simp only [standsAt, State.onLink, offers_append]

theorem onChannel_standsAt (f : Channel → Channel) : s.onChannel k f = standsAt s k (f (s.channel k)) [] := rfl

/-- The comparator that a lost capture is noticed by. -/
def eventOf : LostCause → WeightEvent
  | .disturb => .disturb
  | .serviceLimit => .serviceLimit

/-- A lost capture of a channel: released and told of, and then lost to the item (R17, R19, R20). -/
theorem standsAt_loseCapture (cause : LostCause) : (standsAt s k c ns).loseCapture k cause =
    (standsAt s k c.release (ns ++ told k c.release (eventOf cause))).captureLost k cause := by
  unfold State.loseCapture
  rw [standsAt_onChannel]
  exact congrArg (State.captureLost · k cause) (standsAt_weightNotice ..)

end

theorem release_waiting (c : Channel) : c.release.waiting = c.waiting := by
  unfold Channel.release
  split <;> rfl

theorem release_core (c : Channel) : c.release.core = c.core := by
  unfold Channel.release
  split <;> rfl

theorem release_held {c : Channel} {x : Capture} (held : c.capture = some x) :
    c.release = { c with capture := none, disturb := none, limit := none } := by simp only [Channel.release, held]

/-! ## What captures leave of the channels -/

/-- Every channel of `t` is that of `s`, but for captures and their comparators. -/
structure SameCores (s t : State) : Prop where
  core : ∀ j, (t.channel j).core = (s.channel j).core

namespace SameCores
variable {s t u : State}

theorem refl (s : State) : SameCores s s := ⟨fun _ => rfl⟩

theorem andThen (a : SameCores s t) (b : SameCores t u) : SameCores s u := ⟨fun j => (b.core j).trans (a.core j)⟩

theorem ofLimits (a : SameButLimits s t) : SameCores s t := ⟨a.core⟩

theorem ite {c : Prop} [Decidable c] (a : SameCores s t) (b : SameCores s u) : SameCores s (if c then t else u) := by
  split <;> assumption

theorem onChannel {f : Channel → Channel} (keeps : ∀ c, (f c).core = c.core) (s : State) (k : Pos) :
    SameCores s (s.onChannel k f) := ⟨fun j => by
  by_cases here : j = k
  · subst here
    rw [State.channel_onChannel, keeps]
  · rw [State.channel_onChannel_ne s f here]⟩

theorem weightNotice (s : State) (k : Pos) (e : WeightEvent) : SameCores s (s.weightNotice k e) := by
  rw [weightNotice_eq]
  exact ofLimits (.same rfl)

theorem loseCapture (s : State) (k : Pos) (cause : LostCause) : SameCores s (s.loseCapture k cause) := by
  unfold State.loseCapture
  exact ((onChannel release_core s k).andThen (weightNotice ..)).andThen (ofLimits (captureLost_channels ..))

/-- A waiting capture that fails. -/
theorem waitFails (s : State) (k : Pos) (r : Reason) :
    SameCores s ((s.onChannel k fun c => { c with waiting := none }).captureRefused k r) :=
  (onChannel (f := fun c => { c with waiting := none }) (fun _ => rfl) s k).andThen (ofLimits (captureRefused_channels ..))

end SameCores

/-! ## A missed sample (R1) -/

/-- A channel that has missed a sample. -/
def missed (c : Channel) : Channel :=
  { c with
    sampleTimer := 20
    missCount := if c.missCount < 10 then c.missCount + 1 else c.missCount }

/-- The channel goes OFFLINE at the tenth sample missed. -/
def Leaves (c : Channel) : Prop := (missed c).missCount = 10 ∧ c.state ≠ .offline

/-- The notices of a channel that goes OFFLINE from `before`. -/
def offlineTold (k : Pos) (c : Channel) : List Notice := toldChange k (missed c).goOffline c.state

theorem toldChange_offline (k : Pos) {c : Channel} {before : ChanState} (online : before ≠ .offline) :
    toldChange k c.goOffline before = if c.enables.fault = true then
      [.weightState k (.change before .offline) .offline c.goOffline.report] else [] := by
  have changes : c.goOffline.state ≠ before := online.symm
  rw [toldChange, if_neg changes]
  cases before <;> rfl

section
variable {s : State} {k : Pos}

theorem missSample_stays (stays : ¬Leaves (s.channel k)) :
    s.missSample k = s.onChannel k fun _ => missed (s.channel k) := by
  unfold State.missSample
  dsimp only
  rw [State.channel_onChannel]
  exact if_neg stays

/-- The entry into OFFLINE: its notice, then DISTURB, then the end of the capture's wait (log 14). -/
theorem standsAt_channelOffline (c : Channel) : (standsAt s k c []).channelOffline k =
    let off := standsAt s k c.goOffline (toldChange k c.goOffline c.state)
    let disturbed := if c.disturb.isSome then off.loseCapture k .disturb else off
    if (disturbed.channel k).waiting.isSome then
      (disturbed.onChannel k (fun c => { c with waiting := none })).captureRefused k .channelOffline
    else disturbed := by
  unfold State.channelOffline
  dsimp only
  rw [standsAt_channel, standsAt_onChannel, standsAt_changeNotice, standsAt_channel]
  rfl

variable (leaves : Leaves (s.channel k))
include leaves

theorem missSample_leaves : s.missSample k = (standsAt s k (missed (s.channel k)) []).channelOffline k := by
  unfold State.missSample
  dsimp only
  rw [State.channel_onChannel]
  exact if_pos leaves

section
variable (unarmed : (s.channel k).disturb = none)
include unarmed

theorem missSample_quiet (unasked : (s.channel k).waiting = none) :
    s.missSample k = standsAt s k (missed (s.channel k)).goOffline (offlineTold k (s.channel k)) := by
  rw [missSample_leaves leaves, standsAt_channelOffline]
  simp [missed, unarmed, unasked, Channel.goOffline, offlineTold]

theorem missSample_fails {ms : Nat} (asked : (s.channel k).waiting = some ms) : s.missSample k =
    (standsAt s k { (missed (s.channel k)).goOffline with waiting := none }
      (offlineTold k (s.channel k))).captureRefused k .channelOffline := by
  rw [missSample_leaves leaves, standsAt_channelOffline]
  simp [missed, unarmed, asked, Channel.goOffline, standsAt_onChannel, offlineTold]

end

theorem missSample_loses {d : Int} (armed : (s.channel k).disturb = some d) (unasked : (s.channel k).waiting = none) :
    s.missSample k = (standsAt s k (missed (s.channel k)).goOffline.release (offlineTold k (s.channel k) ++
      told k (missed (s.channel k)).goOffline.release .disturb)).captureLost k .disturb := by
  have armed : (missed (s.channel k)).disturb = some d := armed
  have unasked : (missed (s.channel k)).goOffline.release.waiting = none := (release_waiting _).trans unasked
  rw [missSample_leaves leaves, standsAt_channelOffline]
  dsimp only
  rw [armed, Option.isSome_some, if_pos rfl, standsAt_loseCapture, (captureLost_channels ..).waiting, standsAt_channel,
    unasked]
  rfl

end

/-- An entry into OFFLINE touches no channel further than its captures and comparators. -/
theorem missSample_core {s : State} {k : Pos} (leaves : Leaves (s.channel k)) :
    ((s.missSample k).channel k).core = (missed (s.channel k)).goOffline.core ∧
    ∀ j, j ≠ k → ((s.missSample k).channel j).core = (s.channel j).core := by
  have offline : SameCores (standsAt s k (missed (s.channel k)).goOffline (offlineTold k (s.channel k)))
      (s.missSample k) := by
    rw [missSample_leaves leaves, standsAt_channelOffline]
    have lost := SameCores.ite (c := (missed (s.channel k)).disturb.isSome = true)
      (SameCores.loseCapture _ k .disturb) (.refl (standsAt s k (missed (s.channel k)).goOffline
        (offlineTold k (s.channel k))))
    exact .ite (lost.andThen (.waitFails _ k _)) lost
  exact ⟨by rw [offline.core k, standsAt_channel], fun j other => by rw [offline.core j, standsAt_channel_ne _ _ _ _ other]⟩

/-! ## The end of a capture wait (R16, R105) -/

section
variable {s : State} {k : Pos}

theorem captureExpires_stays (unasked : (s.channel k).waiting = none) : s.captureExpires k = s := by
  simp [State.captureExpires, unasked]

theorem captureExpires_ends (asked : (s.channel k).waiting ≠ none) : s.captureExpires k =
    (s.onChannel k fun c => { c with waiting := none }).captureRefused k
      (if (s.channel k).state = .over then .channelOver
        else if (s.channel k).state = .under then .channelUnder else .weightUnstable) := by
  simp only [State.captureExpires, Option.isSome_iff_ne_none.mpr asked, if_true]
  cases (s.channel k).state <;> rfl

end

theorem exec_sampleTimerExpiry {s : State} (running : s.running = true) (k : Pos) :
    exec (.sampleTimerExpiry k) s = .next (s.missSample k) := congrArg _ (if_pos running)

theorem exec_captureTimeout {s : State} (running : s.running = true) (k : Pos) :
    exec (.captureTimeout k) s = .next (s.captureExpires k) := congrArg _ (if_pos running)

/-- Settles O10: a missed sample by whether the channel goes OFFLINE, then by what it had armed or asked; the end of a
wait by what the slot holds. -/
theorem sampleAndCaptureTimers : Obligations.SampleAndCaptureTimers := by
  refine ⟨fun s k running => ?missed, fun s k running => ⟨fun unasked => ?_, fun asked => ?_⟩⟩
  case missed =>
    intro c missed off told leaves
    rw [exec_sampleTimerExpiry running]
    refine ⟨fun stays => congrArg _ (missSample_stays stays), fun leaves => ?_⟩
    have change : offlineTold k c = _ := toldChange_offline k leaves.2
    have offers {e : WeightEvent} {on : Bool} : told e on = fun l => l.offers
        (if on = true then [.weightState k e .offline off.report] else []) := by
      funext l
      exact (offers_ite l _).symm
    obtain ⟨core, others⟩ := missSample_core leaves
    refine ⟨_, rfl, State.missSample_counter s k, core, others, fun unarmed unasked => ?quiet,
      fun ms it i unarmed asked gathers => ?fails, fun d x armed held unasked => ?loses⟩
    case quiet =>
      rw [missSample_quiet leaves unarmed unasked, change, offers]
      rfl
    case fails =>
      have gathers : (standsAt s k { (MissedSamples.missed c).goOffline with waiting := none }
        (offlineTold k c)).openSlot k = .rating it .gathering i := gathers
      rw [missSample_fails leaves unarmed asked, captureRefused_opens gathers, change, offers]
      rfl
    intro released back
    have lost : s.missSample k = released.captureLost k .disturb := by
      rw [missSample_loses leaves armed unasked, release_held (c := (MissedSamples.missed c).goOffline) held, change]
      simp only [standsAt, offers_append, released, offers]
      rfl
    rw [lost]
    refine ⟨captureLost_nothing (s := released) (cause := .disturb),
      fun it opened => captureLost_opened (s := released) opened _,
      fun it r stale rated => captureLost_rated (s := released) rated _, fun it ph i rating placed => ?_⟩
    have lost := captureLost_rating (s := released) rating placed .disturb
    exact ⟨fun elsewhere => lost.trans (by rw [withdrawRating_waits (s := back it) elsewhere]),
      fun u current here => lost.trans (by rw [withdrawRating_runs (s := back it) current here]; rfl)⟩
  · rw [exec_captureTimeout running, captureExpires_stays unasked]
  · rw [exec_captureTimeout running, captureExpires_ends asked]
    let ended := s.onChannel k fun c => { c with waiting := none }
    exact ⟨fun it i gathers => congrArg _ (captureRefused_opens (s := ended) gathers _),
      fun other => congrArg _ (captureRefused_stays (s := ended) other _)⟩

end Sys2Proof.Machine.MissedSamples
end

section
/-! PROOFS of 01_weighing_channels.md: what a sample decides of its channel (R1, R2, R4 to R6, R8, R9, R11, R18). -/

namespace Sys2Proof.Machine.SampledChannels

open ItemRating LostCaptures MissedSamples

/-! ## The window and its settling (R6) -/

/-- The window once a sample has entered it. -/
def nextWindow (c : Channel) (raw : Int) : List Int := c.window.drop (c.window.length + 1 - c.n) ++ [raw]

/-- The mean of the window once a sample has entered it. -/
def nextMean (c : Channel) (raw : Int) : Int := meanOf (nextWindow c raw)

/-- The window holds N samples, each within B intervals of the mean. -/
abbrev Settles (c : Channel) (raw : Int) : Prop :=
  (nextWindow c raw).length = c.n ∧ ∀ r ∈ nextWindow c raw,
    (fineAbout c.zw c.k r - fineAbout c.zw c.k (nextMean c raw)).natAbs ≤
      c.b * intervalAt (fineAbout c.zw c.k (nextMean c raw)) * 10

/-- The channel with its sample taken and the settled result computed. -/
def entered (c : Channel) (raw : Int) : Channel :=
  { c with window := nextWindow c raw, missCount := 0, sampleTimer := 20, settled := decide (Settles c raw) }

theorem enter_eq (c : Channel) (raw : Int) :
    c.enter raw = { c with window := nextWindow c raw, missCount := 0, sampleTimer := 20 } := by
  unfold Channel.enter nextWindow
  split
  next => rfl
  next short =>
    have nothing : c.window.length + 1 - c.n = 0 := by omega
    rw [nothing, List.drop_zero]
    rfl

theorem judge_enter (c : Channel) (raw : Int) : (c.enter raw).judge = entered c raw := by
  have settled : (c.enter raw).windowSettled = decide (Settles c raw) := by
    rw [enter_eq, Bool.eq_iff_iff]
    simp only [Channel.windowSettled, Bool.and_eq_true, beq_iff_eq, List.all_eq_true, decide_eq_true_eq]
    rfl
  unfold Channel.judge
  rw [settled, enter_eq]
  rfl

/-! ## The try of an initial zero, tracking and the report, one at a time (R4, R9, R11) -/

section
variable {c : Channel}

theorem tryZero_other (other : ¬(c.state = .zeroing ∧ c.settled = true)) : c.tryZero = (c, false) := if_neg other

theorem tryZero_far (tries : c.state = .zeroing ∧ c.settled = true)
    (far : ¬(fineAbout c.zc c.k c.mean).natAbs ≤ 30000) :
    c.tryZero = ({ c with zeroRangeSent := true }, !c.zeroRangeSent) := (if_pos tries).trans (if_neg far)

theorem tryZero_near (tries : c.state = .zeroing ∧ c.settled = true)
    (near : (fineAbout c.zc c.k c.mean).natAbs ≤ 30000) :
    c.tryZero = ({ c with z0 := some c.mean, zw := c.mean, state := .stable }, false) :=
  (if_pos tries).trans (if_pos near)

theorem track_other {st : ChanState} (state : c.state = st) (other : st ≠ .stable) : c.track = c :=
  if_neg fun tracks => other (state.symm.trans tracks.1)

/-- A channel whose zero is its mean has nothing to track. -/
theorem track_zeroed (zeroed : c.zw = c.mean) : c.track = c := by
  unfold Channel.track
  rw [← zeroed]
  exact ite_self c

theorem track_stable (stable : c.state = .stable) {z : Int} (zeroed : c.z0 = some z) : c.track =
    { c with zw := if c.tare = none ∧ c.capture = none ∧ (c.fine c.mean).natAbs ≤ 10 ∧
      (fineAbout z c.k c.mean).natAbs ≤ 6000 then c.mean else c.zw } := by
  have near : c.nearZ0 c.mean = decide ((fineAbout z c.k c.mean).natAbs ≤ 6000) := by
    simp only [Channel.nearZ0, zeroed]
  unfold Channel.track
  simp only [near, eq_true stable, true_and, Option.isNone_iff_eq_none, decide_eq_true_eq]
  split <;> rfl

theorem makeReport_other {st : ChanState} (state : c.state = st) (other : st ≠ .stable ∧ st ≠ .motion) (raw : Int) :
    c.makeReport raw = c := by
  unfold Channel.makeReport
  split
  next stable => exact absurd (state.symm.trans stable) other.1
  next motion => exact absurd (state.symm.trans motion) other.2
  all_goals rfl

theorem makeReport_stable (stable : c.state = .stable) (raw : Int) :
    c.makeReport raw = { c with report := some (c.reportOf (c.fine c.mean)) } := by
  simp only [Channel.makeReport, stable]

theorem makeReport_motion (motion : c.state = .motion) (raw : Int) :
    c.makeReport raw = { c with report := some (c.reportOf (c.fine raw)) } := by
  simp only [Channel.makeReport, motion]

end

/-! ## A sample, by what it decides (R8) -/

/-- The state a sample decides before the try of an initial zero. -/
def decidedState (c : Channel) (raw : Int) : ChanState := (entered c raw).decided raw

/-- The channel in the state its sample decides; ZERO_RANGE counts as reported only within one ZEROING. -/
def placedIn (c : Channel) (raw : Int) (st : ChanState) : Channel :=
  { entered c raw with state := st, zeroRangeSent := c.zeroRangeSent && decide (c.state = .zeroing) }

theorem placedIn_state (c : Channel) (raw : Int) (st : ChanState) : (placedIn c raw st).state = st := rfl

theorem placedIn_settled (c : Channel) (raw : Int) (st : ChanState) :
    (placedIn c raw st).settled = decide (Settles c raw) := rfl

theorem sampled_eq (c : Channel) (raw : Int) : c.sampled raw =
    ((placedIn c raw (decidedState c raw)).tryZero.1.track.makeReport raw,
      (placedIn c raw (decidedState c raw)).tryZero.2) := by
  unfold Channel.sampled
  rw [judge_enter]
  rfl

/-- The mean lies within 300 g of the calibrated zero (R9). -/
abbrev NearZc (c : Channel) (raw : Int) : Prop := (fineAbout c.zc c.k (nextMean c raw)).natAbs ≤ 30000

/-- The mean of a STABLE channel is tracked as its zero (R11). -/
abbrev Tracks (c : Channel) (raw z : Int) : Prop :=
  c.tare = none ∧ c.capture = none ∧ (fineAbout c.zw c.k (nextMean c raw)).natAbs ≤ 10 ∧
  (fineAbout z c.k (nextMean c raw)).natAbs ≤ 6000

section
variable {c : Channel} {raw : Int}

theorem placedIn_tries (settles : Settles c raw) :
    (placedIn c raw .zeroing).state = .zeroing ∧ (placedIn c raw .zeroing).settled = true := by
  rw [placedIn_settled, decide_eq_true settles]
  exact ⟨rfl, rfl⟩

section
variable (unzeroed : c.z0 = none)
include unzeroed

theorem decidedState_unzeroed : decidedState c raw = .zeroing := by
  simp [decidedState, entered, Channel.decided, unzeroed]

theorem sampled_unsettled (moves : ¬Settles c raw) : c.sampled raw = (placedIn c raw .zeroing, false) := by
  have other : ¬((placedIn c raw .zeroing).state = .zeroing ∧ (placedIn c raw .zeroing).settled = true) := by
    rw [placedIn_settled, decide_eq_false moves]
    exact fun tries => Bool.false_ne_true tries.2
  rw [sampled_eq, decidedState_unzeroed unzeroed, tryZero_other other, track_other (placedIn_state ..) (by decide),
    makeReport_other (placedIn_state ..) (by decide)]

section
variable (settles : Settles c raw)
include settles

theorem sampled_far (far : ¬NearZc c raw) : c.sampled raw =
    ({ placedIn c raw .zeroing with zeroRangeSent := true }, !(c.zeroRangeSent && decide (c.state = .zeroing))) := by
  rw [sampled_eq, decidedState_unzeroed unzeroed, tryZero_far (placedIn_tries settles) far,
    track_other (st := .zeroing) rfl (by decide), makeReport_other (st := .zeroing) rfl (by decide)]
  rfl

theorem sampled_near (near : NearZc c raw) : c.sampled raw =
    ({ placedIn c raw .stable with
      z0 := some (nextMean c raw)
      zw := nextMean c raw
      report := some (c.reportOf (fineAbout (nextMean c raw) c.k (nextMean c raw))) }, false) := by
  rw [sampled_eq, decidedState_unzeroed unzeroed, tryZero_near (placedIn_tries settles) near, track_zeroed rfl,
    makeReport_stable rfl]
  rfl

end
end

section
variable {z : Int} (zeroed : c.z0 = some z)
include zeroed

theorem decidedState_zeroed : decidedState c raw =
    if fineAbout c.zw c.k raw > 300900 then .over else if fineAbout c.zw c.k raw < -400 then .under
    else if Settles c raw then .stable else .motion := by
  unfold decidedState Channel.decided
  simp only [entered, zeroed, Option.isNone_some, Bool.false_eq_true, if_false, Channel.fine, decide_eq_true_eq]

/-- A zeroed channel tries no initial zero. -/
theorem tryZero_zeroed :
    (placedIn c raw (decidedState c raw)).tryZero = (placedIn c raw (decidedState c raw), false) := by
  refine tryZero_other fun tries => ?_
  have zeroing : decidedState c raw = .zeroing := tries.1
  rw [decidedState_zeroed zeroed] at zeroing
  split_ifs at zeroing

theorem sampled_outside {st : ChanState} (decides : decidedState c raw = st) (outside : st = .over ∨ st = .under) :
    c.sampled raw = (placedIn c raw st, false) := by
  have still : st ≠ .stable ∧ st ≠ .motion := by obtain rfl | rfl := outside <;> decide
  rw [sampled_eq, tryZero_zeroed zeroed, decides, track_other (placedIn_state ..) still.1,
    makeReport_other (placedIn_state ..) still]

theorem sampled_moves (motion : decidedState c raw = .motion) : c.sampled raw =
    ({ placedIn c raw .motion with report := some (c.reportOf (fineAbout c.zw c.k raw)) }, false) := by
  rw [sampled_eq, tryZero_zeroed zeroed, motion, track_other (placedIn_state ..) (by decide),
    makeReport_motion (placedIn_state ..)]
  rfl

theorem sampled_rests (stable : decidedState c raw = .stable) : c.sampled raw =
    ({ placedIn c raw .stable with
      zw := if Tracks c raw z then nextMean c raw else c.zw
      report := some (c.reportOf
        (fineAbout (if Tracks c raw z then nextMean c raw else c.zw) c.k (nextMean c raw))) }, false) := by
  have tracks := track_stable (placedIn_state c raw .stable) zeroed
  rw [sampled_eq, tryZero_zeroed zeroed, stable, tracks, makeReport_stable rfl]
  rfl

end

end

/-! ## The channel after a sample, as the rules give it -/

/-- The initial zero is taken (R9). -/
abbrev Zeroes (c : Channel) (raw : Int) : Prop := c.z0 = none ∧ Settles c raw ∧ NearZc c raw

/-- The state of the first condition that holds (R8). -/
def nextState (c : Channel) (raw : Int) : ChanState :=
  if c.z0 = none then (if Zeroes c raw then .stable else .zeroing)
  else if fineAbout c.zw c.k raw > 300900 then .over else if fineAbout c.zw c.k raw < -400 then .under
  else if Settles c raw then .stable else .motion

/-- The mean of a STABLE channel is tracked as its zero (R11). -/
abbrev TracksZero (c : Channel) (raw : Int) : Prop :=
  c.z0 ≠ none ∧ nextState c raw = .stable ∧ c.tare = none ∧ c.capture = none ∧
  (fineAbout c.zw c.k (nextMean c raw)).natAbs ≤ 10 ∧
  ∀ z, c.z0 = some z → (fineAbout z c.k (nextMean c raw)).natAbs ≤ 6000

/-- The zero in use after the sample. -/
def nextZero (c : Channel) (raw : Int) : Int := if Zeroes c raw ∨ TracksZero c raw then nextMean c raw else c.zw

/-- The fine weight the sample reports: of the mean in STABLE, else of the sample (R4). -/
def nextFine (c : Channel) (raw : Int) : Int :=
  if nextState c raw = .stable then fineAbout (nextZero c raw) c.k (nextMean c raw) else fineAbout c.zw c.k raw

/-- A weight is reported in MOTION and STABLE (R4). -/
abbrev Weighs (st : ChanState) : Prop := st = .motion ∨ st = .stable

/-- The channel with what its sample decides, but for REMOVAL. -/
def decidedBy (c : Channel) (raw : Int) : Channel :=
  { entered c raw with
    state := nextState c raw
    z0 := if Zeroes c raw then some (nextMean c raw) else c.z0
    zw := nextZero c raw
    report := if Weighs (nextState c raw) then some (c.reportOf (nextFine c raw)) else c.report
    zeroRangeSent := (c.zeroRangeSent && decide (c.state = .zeroing)) ||
      decide (c.z0 = none ∧ Settles c raw ∧ ¬Zeroes c raw) }

section
variable {c : Channel} {raw : Int}

theorem decidedBy_unzeroed (unzeroed : c.z0 = none) (stays : ¬Zeroes c raw) : decidedBy c raw =
    { placedIn c raw .zeroing with
      zeroRangeSent := (c.zeroRangeSent && decide (c.state = .zeroing)) || decide (Settles c raw) } := by
  have zeroing : nextState c raw = .zeroing := (if_pos unzeroed).trans (if_neg stays)
  have same_zero : nextZero c raw = c.zw := if_neg (not_or.mpr ⟨stays, fun tracks => tracks.1 unzeroed⟩)
  have idle : ¬Weighs .zeroing := by decide
  have far : (c.z0 = none ∧ Settles c raw ∧ ¬Zeroes c raw) ↔ Settles c raw :=
    ⟨fun h => h.2.1, fun settles => ⟨unzeroed, settles, stays⟩⟩
  unfold decidedBy
  rw [zeroing, same_zero, if_neg stays, if_neg idle, decide_eq_decide.mpr far]
  rfl

theorem decidedBy_zeroes (zeroes : Zeroes c raw) : decidedBy c raw =
    { placedIn c raw .stable with
      z0 := some (nextMean c raw)
      zw := nextMean c raw
      report := some (c.reportOf (fineAbout (nextMean c raw) c.k (nextMean c raw))) } := by
  have stable : nextState c raw = .stable := (if_pos zeroes.1).trans (if_pos zeroes)
  have mean_zero : nextZero c raw = nextMean c raw := if_pos (.inl zeroes)
  have mean_fine : nextFine c raw = fineAbout (nextMean c raw) c.k (nextMean c raw) :=
    (if_pos stable).trans (by rw [mean_zero])
  have near : ¬(c.z0 = none ∧ Settles c raw ∧ ¬Zeroes c raw) := fun far => far.2.2 zeroes
  have weighs : Weighs .stable := by decide
  unfold decidedBy
  rw [stable, mean_zero, mean_fine, if_pos zeroes, if_pos weighs, decide_eq_false near, Bool.or_false]
  rfl

section
variable {z : Int} (zeroed : c.z0 = some z)
include zeroed

theorem nextState_zeroed : nextState c raw = decidedState c raw := by
  have stands : ¬c.z0 = none := by simp [zeroed]
  exact (if_neg stands).trans (decidedState_zeroed zeroed).symm

/-- A channel with a zero in the state its sample decides. -/
theorem decidedBy_zeroed {st : ChanState} (decides : decidedState c raw = st) : decidedBy c raw =
    { placedIn c raw st with
      zw := if st = .stable ∧ Tracks c raw z then nextMean c raw else c.zw
      report := if Weighs st then some (c.reportOf (if st = .stable then
          fineAbout (if Tracks c raw z then nextMean c raw else c.zw) c.k (nextMean c raw)
        else fineAbout c.zw c.k raw)) else c.report } := by
  have stands : ¬c.z0 = none := by simp [zeroed]
  have state : nextState c raw = st := (nextState_zeroed zeroed).trans decides
  have stays : ¬Zeroes c raw := fun zeroes => stands zeroes.1
  have tracks : (Zeroes c raw ∨ TracksZero c raw) ↔ st = .stable ∧ Tracks c raw z := by
    simp [stays, TracksZero, Tracks, zeroed, state]
  have zero : nextZero c raw = if st = .stable ∧ Tracks c raw z then nextMean c raw else c.zw := by
    simp only [nextZero, tracks]
  have fine : nextFine c raw = if st = .stable then
      fineAbout (if Tracks c raw z then nextMean c raw else c.zw) c.k (nextMean c raw)
      else fineAbout c.zw c.k raw := by
    unfold nextFine
    rw [state, zero]
    split
    next stable => simp only [stable, true_and]
    next => rfl
  have far : ¬(c.z0 = none ∧ Settles c raw ∧ ¬Zeroes c raw) := fun far => stands far.1
  unfold decidedBy
  rw [state, zero, fine, if_neg stays, decide_eq_false far, Bool.or_false]
  rfl

end

/-- What a sample makes of its channel, but for REMOVAL, captures and comparators. -/
theorem sampled_fst (c : Channel) (raw : Int) : (c.sampled raw).1 = decidedBy c raw := by
  cases zero : c.z0 with
  | none =>
    by_cases settles : Settles c raw
    · by_cases near : NearZc c raw
      · rw [sampled_near zero settles near, decidedBy_zeroes ⟨zero, settles, near⟩]
      · rw [sampled_far zero settles near, decidedBy_unzeroed zero fun zeroes => near zeroes.2.2, decide_eq_true settles,
          Bool.or_true]
    · rw [sampled_unsettled zero settles, decidedBy_unzeroed zero fun zeroes => settles zeroes.2.1,
        decide_eq_false settles, Bool.or_false]
      rfl
  | some z =>
    cases state : decidedState c raw with
    | offline | zeroing =>
      rw [decidedState_zeroed zero] at state
      split_ifs at state
    | motion =>
      rw [sampled_moves zero state, decidedBy_zeroed zero state]
      rfl
    | stable =>
      rw [sampled_rests zero state, decidedBy_zeroed zero state]
      simp [Weighs]
    | _ =>
      rw [sampled_outside zero state (by decide), decidedBy_zeroed zero state]
      rfl

end

/-! ## The rest of a sample: REMOVAL, comparators and a waiting capture (R16, R18) -/

/-- REMOVAL is evaluated in MOTION and STABLE; true, it clears the interlock (R18). -/
theorem judgeRemoval_eq (c : Channel) : c.judgeRemoval =
    { c with
      removal := if c.state = .motion ∨ c.state = .stable then decide (c.netNow < 10) else c.removal
      interlock := c.interlock && !decide ((c.state = .motion ∨ c.state = .stable) ∧ c.netNow < 10) } := by
  have weighs : c.weighs = true ↔ c.state = .motion ∨ c.state = .stable := by simp [Channel.weighs]
  unfold Channel.judgeRemoval
  by_cases moves : c.state = .motion ∨ c.state = .stable
  · simp [weighs, moves]
  · simp [weighs, moves]

/-- The reported net after the sample. -/
def nextNet (c : Channel) (raw : Int) : Int := reportedGross (nextFine c raw) - c.tare.getD 0

theorem judgeRemoval_decidedBy (c : Channel) (raw : Int) : (decidedBy c raw).judgeRemoval =
    { decidedBy c raw with
      removal := if Weighs (nextState c raw) then decide (nextNet c raw < 10) else c.removal
      interlock := c.interlock && !decide (Weighs (nextState c raw) ∧ nextNet c raw < 10) } := by
  have state : (decidedBy c raw).state = nextState c raw := rfl
  have locked : (decidedBy c raw).interlock = c.interlock := rfl
  rw [judgeRemoval_eq, state, locked]
  by_cases weighs : Weighs (nextState c raw)
  · have report : (decidedBy c raw).report = some (c.reportOf (nextFine c raw)) := if_pos weighs
    have net : (decidedBy c raw).netNow = nextNet c raw := by
      rw [Channel.netNow, report]
      rfl
    rw [net]
    rfl
  · simp only [weighs, if_false, false_and]
    rfl

/-- The notices of a sample's state change and of a zero out of range. -/
def sampleTold (k : Pos) (c : Channel) (raw : Int) : List Notice :=
  ChannelNotices.toldChange k (c.sampled raw).1 c.state ++
    if (c.sampled raw).2 then ChannelNotices.told k (c.sampled raw).1 .zeroRange else []

/-- The notice of a change of REMOVAL (R18). -/
def removalTold (k : Pos) (c : Channel) : List Notice :=
  if c.judgeRemoval.removal = c.removal then []
  else ChannelNotices.told k c.judgeRemoval (if c.judgeRemoval.removal then .removalOn else .removalOff)

section
variable (s : State) (k : Pos)

theorem sample_eq (raw : Int) : s.sample k raw =
    ((standsAt s k ((s.channel k).sampled raw).1 (sampleTold k (s.channel k) raw)).comparators k
      (s.channel k).state).serveWaiting k := by
  unfold State.sample sampleTold
  dsimp only
  rw [onChannel_standsAt, standsAt_changeNotice, List.nil_append]
  split
  · rw [standsAt_weightNotice]
  · rw [List.append_nil]

theorem standsAt_removalStep (c : Channel) (ns : List Notice) :
    (standsAt s k c ns).removalStep k = standsAt s k c.judgeRemoval (ns ++ removalTold k c) := by
  unfold State.removalStep removalTold
  dsimp only
  rw [standsAt_onChannel, standsAt_channel, standsAt_channel]
  split
  · rw [List.append_nil]
  · rw [standsAt_weightNotice]

theorem serveWaiting_cores : SameCores s (s.serveWaiting k) := by
  unfold State.serveWaiting
  dsimp only
  refine .ite ?_ (.refl s)
  split
  next x _ =>
    have taken := SameCores.onChannel (f := fun c => c.takeCapture x) (fun _ => rfl) s k
    exact taken.andThen (.ofLimits (captureGathered_channels ..))
  next r _ => exact SameCores.waitFails s k r

theorem comparators_cores (before : ChanState) : SameCores (s.removalStep k) (s.comparators k before) := by
  unfold State.comparators
  dsimp only
  have disturbed := SameCores.ite (c := ((s.removalStep k).channel k).disturbFires before = true)
    (SameCores.loseCapture (s.removalStep k) k .disturb) (.refl (s.removalStep k))
  exact .ite (disturbed.andThen (.loseCapture _ k _)) disturbed

/-- What a sample decides of its channel stands before captures and comparators are looked at. -/
theorem sample_cores (raw : Int) : ((s.sample k raw).channel k).core = ((s.channel k).sampled raw).1.judgeRemoval.core ∧
    ∀ j, j ≠ k → ((s.sample k raw).channel j).core = (s.channel j).core := by
  have cores := (comparators_cores (standsAt s k ((s.channel k).sampled raw).1 (sampleTold k (s.channel k) raw)) k
    (s.channel k).state).andThen (serveWaiting_cores _ k)
  rw [← sample_eq, standsAt_removalStep] at cores
  exact ⟨by rw [cores.core k, standsAt_channel], fun j other => by rw [cores.core j, standsAt_channel_ne _ _ _ _ other]⟩

end

theorem exec_sampleArrival {s : State} (running : s.running = true) (k : Pos) (raw : BitVec 24) :
    exec (.sampleArrival k raw) s = .next (s.sample k raw.toInt) := congrArg _ (if_pos running)

/-- Settles O8, by whether the channel had a zero, and then by the state its sample decides. -/
theorem sampleDecidesChannel : Obligations.SampleDecidesChannel := by
  intro s k raw running
  obtain ⟨own, others⟩ := sample_cores s k raw.toInt
  refine ⟨_, exec_sampleArrival running k raw, State.sample_counter s k _, others, ?_⟩
  rw [own, sampled_fst, judgeRemoval_decidedBy]
  rfl

end Sys2Proof.Machine.SampledChannels
end

section
/-! PROOFS of 01_weighing_channels.md and 06_items_and_numbers.md: what a sample does to captures, comparators and the
item (R16 to R21, R80, R81, R105, R106, R111). -/

namespace Sys2Proof.Machine.SampleCaptures

open ChannelNotices ItemRating LostCaptures MissedSamples SampledChannels

/-! ## The channel a sample leaves to its comparators -/

/-- The channel once its sample has decided it and REMOVAL has been evaluated. -/
def judged (c : Channel) (raw : Int) : Channel := (c.sampled raw).1.judgeRemoval

/-- The notices a sample sends before its comparators are looked at (R8, R9, R18). -/
def judgedTold (k : Pos) (c : Channel) (raw : Int) : List Notice :=
  sampleTold k c raw ++ removalTold k (c.sampled raw).1

section
variable (c : Channel) (raw : Int)

theorem judged_eq : judged c raw =
    { decidedBy c raw with
      removal := if Weighs (nextState c raw) then decide (nextNet c raw < 10) else c.removal
      interlock := c.interlock && !decide (Weighs (nextState c raw) ∧ nextNet c raw < 10) } := by
  rw [judged, sampled_fst, judgeRemoval_decidedBy]

/-- A sample leaves the channel's captures, their comparators and its enables as they were. -/
theorem judged_keeps : (judged c raw).capture = c.capture ∧ (judged c raw).disturb = c.disturb ∧
    (judged c raw).limit = c.limit ∧ (judged c raw).waiting = c.waiting ∧ (judged c raw).enables = c.enables := by
  rw [judged_eq]
  exact ⟨rfl, rfl, rfl, rfl, rfl⟩

theorem judged_state : (judged c raw).state = nextState c raw := by
  rw [judged_eq]
  rfl

/-- No sample leaves its channel OFFLINE. -/
theorem nextState_online : nextState c raw ≠ .offline := by
  unfold nextState
  split_ifs <;> decide

/-- A channel that a sample leaves weighing has a report. -/
theorem judged_report (weighs : Weighs (nextState c raw)) :
    (judged c raw).report = some (c.reportOf (nextFine c raw)) := by
  rw [judged_eq]
  exact if_pos weighs

/-- ZERO_RANGE is reported where it is now, and was not within this ZEROING. -/
theorem sampled_snd : (c.sampled raw).2 = true ↔
    (judged c raw).zeroRangeSent = true ∧ ¬(c.zeroRangeSent = true ∧ c.state = .zeroing) := by
  have sent : (judged c raw).zeroRangeSent = ((c.zeroRangeSent && decide (c.state = .zeroing)) ||
      decide (c.z0 = none ∧ Settles c raw ∧ ¬Zeroes c raw)) := by
    rw [judged_eq]
    rfl
  have told : (c.sampled raw).2 = (decide (c.z0 = none ∧ Settles c raw ∧ ¬Zeroes c raw) &&
      !(c.zeroRangeSent && decide (c.state = .zeroing))) := by
    obtain zero | ⟨z, zero⟩ := c.z0.eq_none_or_eq_some
    · by_cases settles : Settles c raw
      · by_cases near : NearZc c raw
        · rw [sampled_near zero settles near, decide_eq_false fun far => far.2.2 ⟨zero, settles, near⟩]
          rfl
        · have far : c.z0 = none ∧ Settles c raw ∧ ¬Zeroes c raw := ⟨zero, settles, fun zeroes => near zeroes.2.2⟩
          rw [sampled_far zero settles near, decide_eq_true far, Bool.true_and]
      · rw [sampled_unsettled zero settles, decide_eq_false fun far => settles far.2.1]
        rfl
    · have stands : ¬(c.z0 = none ∧ Settles c raw ∧ ¬Zeroes c raw) := by simp [zero]
      rw [sampled_eq, tryZero_zeroed zero, decide_eq_false stands]
      rfl
  have once : (c.zeroRangeSent && decide (c.state = .zeroing)) = true ↔ c.zeroRangeSent = true ∧ c.state = .zeroing := by
    simp
  rw [sent, told, ← once]
  generalize decide (c.z0 = none ∧ Settles c raw ∧ ¬Zeroes c raw) = far
  generalize (c.zeroRangeSent && decide (c.state = .zeroing)) = before
  cases far <;> cases before <;> decide

end

/-! ## A lost capture of an item that is not being rated -/

/-- `s` with channel k at `c`, these notices offered and the slot of k at `o`. -/
def holdsAt (s : State) (k : Pos) (c : Channel) (ns : List Notice) (o : OpenSlot) : State :=
  (standsAt s k c ns).setOpenSlot k o

/-- What a lost capture leaves of a slot (R111). -/
def lostSlot (o : OpenSlot) : OpenSlot :=
  match o.item? with
  | none => .idle
  | some it => .opened { it with capture := none }

/-- The ITEM_DISTURBED of a slot that is not IDLE. -/
def itemTold (k : Pos) (cause : LostCause) (o : OpenSlot) : List Notice :=
  if o = .idle then [] else [.itemDisturbed k cause o.state]

theorem told_release (k : Pos) (c : Channel) (e : WeightEvent) : told k c.release e = told k c e := by
  unfold Channel.release
  split <;> rfl

section
variable {s : State} {k : Pos} {c : Channel} {ns : List Notice} {o : OpenSlot}

theorem holdsAt_channel : (holdsAt s k c ns o).channel k = c := standsAt_channel s k c ns

theorem holdsAt_openSlot : (holdsAt s k c ns o).openSlot k = o := State.openSlot_setOpenSlot ..

theorem setOpenSlot_self (s : State) (k : Pos) : s.setOpenSlot k (s.openSlot k) = s := by
  simp only [State.setOpenSlot, State.onItems, State.openSlot, Six.set_get]

theorem standsAt_eq_holdsAt : standsAt s k c ns = holdsAt s k c ns (s.openSlot k) :=
  (setOpenSlot_self (standsAt s k c ns) k).symm

theorem holdsAt_setOpenSlot (p : OpenSlot) : (holdsAt s k c ns o).setOpenSlot k p = holdsAt s k c ns p :=
  setOpenSlot_setOpenSlot (standsAt s k c ns) k o p

theorem holdsAt_offer (n : Notice) : (holdsAt s k c ns o).offer n = holdsAt s k c (ns ++ [n]) o := by
  simp only [holdsAt, standsAt, State.offer, State.onLink, State.setOpenSlot, State.onItems, offers_append]
  rfl

theorem holdsAt_captureLost (settled : ∀ it ph i, o ≠ .rating it ph i) (cause : LostCause) :
    (holdsAt s k c ns o).captureLost k cause = holdsAt s k c (ns ++ itemTold k cause o) (lostSlot o) := by
  have slot : (holdsAt s k c ns o).openSlot k = o := holdsAt_openSlot
  cases o with
  | idle =>
    rw [captureLost_nothing (.inl slot), itemTold, if_pos rfl, List.append_nil]
    rfl
  | opened it =>
    rw [captureLost_opened slot, holdsAt_setOpenSlot, holdsAt_offer]
    rfl
  | rated it r stale =>
    rw [captureLost_rated slot, holdsAt_setOpenSlot, holdsAt_offer]
    rfl
  | rating it ph i => exact absurd rfl (settled it ph i)

theorem holdsAt_loseCapture (settled : ∀ it ph i, o ≠ .rating it ph i) (cause : LostCause) :
    (holdsAt s k c ns o).loseCapture k cause =
      holdsAt s k c.release (ns ++ (told k c (eventOf cause) ++ itemTold k cause o)) (lostSlot o) := by
  have released : ((holdsAt s k c ns o).onChannel k Channel.release).weightNotice k (eventOf cause) =
      holdsAt s k c.release (ns ++ told k c (eventOf cause)) o := by
    have moved : (holdsAt s k c ns o).onChannel k Channel.release = holdsAt s k c.release ns o :=
      congrArg (State.setOpenSlot · k o) (standsAt_onChannel s k c ns Channel.release)
    rw [moved, weightNotice_eq, holdsAt_channel, told_release]
    simp only [holdsAt, standsAt, State.onLink, State.setOpenSlot, State.onItems, offers_append]
  have lost := holdsAt_captureLost (s := s) (k := k) (c := c.release) (ns := ns ++ told k c (eventOf cause)) settled cause
  rw [List.append_assoc] at lost
  exact (congrArg (State.captureLost · k cause) released).trans lost

end

/-! ## The comparators (R18 to R20) -/

theorem disturbFires_iff {c : Channel} {before : ChanState} : c.disturbFires before = true ↔ ∃ d, c.disturb = some d ∧
    ((Weighs c.state ∧ (c.netNow - d).natAbs > 2 * ((c.capture.map (·.e)).getD 0)) ∨
      (Weighs before ∧ (c.state = .over ∨ c.state = .under))) := by
  unfold Channel.disturbFires Channel.weighs
  cases c.disturb with
  | none => simp
  | some d => cases c.state <;> simp [Weighs]

theorem limitFires_iff {c : Channel} : c.limitFires = true ↔
    ∃ m, c.limit = some m ∧ Weighs c.state ∧ c.netNow > m := by
  unfold Channel.limitFires Channel.weighs
  cases c.limit <;> simp [Weighs]

section
variable (s : State) (k : Pos) (raw : Int)

/-- The state once a sample's comparators have been looked at, before a waiting capture is. -/
def compared : State :=
  (standsAt s k ((s.channel k).sampled raw).1 (sampleTold k (s.channel k) raw)).comparators k (s.channel k).state

theorem sample_compared : s.sample k raw = (compared s k raw).serveWaiting k := sample_eq s k raw

/-- DISTURB is looked at first, and SERVICE_LIMIT where it has left the capture. -/
theorem compared_eq : compared s k raw =
    let x := standsAt s k (judged (s.channel k) raw) (judgedTold k (s.channel k) raw)
    let y := if (judged (s.channel k) raw).disturbFires (s.channel k).state then x.loseCapture k .disturb else x
    if (y.channel k).limitFires then y.loseCapture k .serviceLimit else y := by
  unfold compared State.comparators
  dsimp only
  rw [standsAt_removalStep, standsAt_channel]
  rfl

variable {s k raw}

theorem compared_quiet (undisturbed : ¬(judged (s.channel k) raw).disturbFires (s.channel k).state = true)
    (unlimited : ¬(judged (s.channel k) raw).limitFires = true) :
    compared s k raw = standsAt s k (judged (s.channel k) raw) (judgedTold k (s.channel k) raw) := by
  rw [compared_eq]
  simp [undisturbed, unlimited]

theorem compared_limited (undisturbed : ¬(judged (s.channel k) raw).disturbFires (s.channel k).state = true)
    (limited : (judged (s.channel k) raw).limitFires = true) : compared s k raw =
      (standsAt s k (judged (s.channel k) raw) (judgedTold k (s.channel k) raw)).loseCapture k .serviceLimit := by
  rw [compared_eq]
  simp [undisturbed, limited]

theorem compared_disturbed (disturbed : (judged (s.channel k) raw).disturbFires (s.channel k).state = true) :
    compared s k raw =
      let y := (standsAt s k (judged (s.channel k) raw) (judgedTold k (s.channel k) raw)).loseCapture k .disturb
      if (y.channel k).limitFires then y.loseCapture k .serviceLimit else y := by
  rw [compared_eq]
  simp [disturbed]

/-! ### A slot that is not being rated -/

theorem lostSlot_settled (o : OpenSlot) : ∀ it ph i, lostSlot o ≠ .rating it ph i := by
  intro it ph i same
  cases o <;> cases same

theorem lostSlot_lostSlot (o : OpenSlot) : lostSlot (lostSlot o) = lostSlot o := by
  cases o <;> rfl

/-- The two comparators at a slot that is not being rated, one after the other. -/
theorem compared_settled (settled : ∀ it ph i, s.openSlot k ≠ .rating it ph i) : compared s k raw =
    let a := judged (s.channel k) raw
    let disturbed := a.disturbFires (s.channel k).state
    let b := if disturbed = true then a.release else a
    let slot := if disturbed = true then lostSlot (s.openSlot k) else s.openSlot k
    holdsAt s k (if b.limitFires = true then b.release else b)
      (judgedTold k (s.channel k) raw ++
        ((if disturbed = true then told k a .disturb ++ itemTold k .disturb (s.openSlot k) else []) ++
          if b.limitFires = true then told k a .serviceLimit ++ itemTold k .serviceLimit slot else []))
      (if b.limitFires = true then lostSlot slot else slot) := by
  by_cases disturbed : (judged (s.channel k) raw).disturbFires (s.channel k).state = true
  · rw [compared_disturbed disturbed]
    simp only [disturbed, if_true]
    rw [standsAt_eq_holdsAt, holdsAt_loseCapture settled, holdsAt_channel]
    split
    · rw [holdsAt_loseCapture (lostSlot_settled _), told_release, List.append_assoc]
      rfl
    · rw [List.append_nil]
      rfl
  · by_cases limited : (judged (s.channel k) raw).limitFires = true
    · rw [compared_limited disturbed limited, standsAt_eq_holdsAt, holdsAt_loseCapture settled]
      simp only [disturbed, limited, Bool.false_eq_true, if_false, if_true]
      rfl
    · rw [compared_quiet disturbed limited, standsAt_eq_holdsAt]
      simp only [disturbed, limited, Bool.false_eq_true, if_false, List.append_nil]

/-! ### A rating QUEUED or IN_PROGRESS -/

section
variable {it : OpenItem} {ph : RatePhase} {i : SlotId} (rating : s.openSlot k = .rating it ph i) (placed : ph ≠ .gathering)
include rating placed

theorem loseCapture_rating (a : Channel) (ns : List Notice) (cause : LostCause) :
    (standsAt s k a ns).loseCapture k cause =
      (((holdsAt s k a.release (ns ++ told k a (eventOf cause)) (.opened { it with capture := none })).withdrawRating
        k).refuse i .disturbed).offer (.itemDisturbed k cause .rating) := by
  rw [standsAt_loseCapture, told_release]
  exact captureLost_rating (s := standsAt s k a.release (ns ++ told k a (eventOf cause))) rating placed cause

end

/-! ### A waiting capture (R16) -/

/-- A channel without a waiting capture has nothing to serve. -/
theorem serveWaiting_none {s : State} (unasked : (s.channel k).waiting = none) : s.serveWaiting k = s := by
  simp [State.serveWaiting, unasked]

section
variable {s : State} {a : Channel} {ns : List Notice}

theorem serveWaiting_waits (unstable : a.state ≠ .stable) :
    (standsAt s k a ns).serveWaiting k = standsAt s k a ns := by
  simp [State.serveWaiting, unstable]

variable (asked : a.waiting.isSome = true) (stable : a.state = .stable)
include asked stable

theorem serveWaiting_fails {r : Reason} (now : a.captureNow s.minuteNow = .error r) :
    (standsAt s k a ns).serveWaiting k = (standsAt s k { a with waiting := none } ns).captureRefused k r := by
  have now : a.captureNow (standsAt s k a ns).minuteNow = .error r := now
  unfold State.serveWaiting
  simp only [standsAt_channel, asked, stable, and_self, if_true, now, standsAt_onChannel]

theorem serveWaiting_takes {x : Capture} (now : a.captureNow s.minuteNow = .ok x) :
    (standsAt s k a ns).serveWaiting k = (standsAt s k (a.takeCapture x) ns).captureGathered k x := by
  have now : a.captureNow (standsAt s k a ns).minuteNow = .ok x := now
  unfold State.serveWaiting
  simp only [standsAt_channel, asked, stable, and_self, if_true, now, standsAt_onChannel]

end
end

end Sys2Proof.Machine.SampleCaptures
end

section
/-! PROOFS of 01_weighing_channels.md: the notices of a sample (R8, R9, R18 to R21) and the settlement of its comparators
and of a waiting capture. -/

namespace Sys2Proof.Machine.SampleCaptures

open ChannelNotices ItemRating LostCaptures MissedSamples SampledChannels

/-! ## The notices of a sample (logs 14, 15) -/

/-- A WEIGHT_STATE of channel k, which shows its report while it weighs. -/
def tell (k : Pos) (a : Channel) (e : WeightEvent) (on : Bool) : List Notice :=
  if on then [.weightState k e a.state (if Weighs a.state then a.report else none)] else []

theorem told_eq_tell (k : Pos) {a : Channel} (online : a.state ≠ .offline) (e : WeightEvent) :
    told k a e = tell k a e (Enables.allows a.enables e) := by
  have shown : a.shownReport = if Weighs a.state then a.report else none := by
    unfold Channel.shownReport
    cases state : a.state with
    | offline => exact absurd state online
    | _ => rfl
  rw [told, tell, shown]

theorem told_judgeRemoval (k : Pos) (c : Channel) (e : WeightEvent) : told k c.judgeRemoval e = told k c e := by
  rw [judgeRemoval_eq]
  rfl

/-- A change between MOTION and STABLE is of one class, any other of the class of faults (R21). -/
theorem allows_change (e : Enables) {before after : ChanState} (changes : after ≠ before) :
    Enables.allows e (.change before after) = if Weighs before ∧ Weighs after then e.motionStable else e.fault := by
  cases before with
  | motion =>
    cases after with
    | motion => exact absurd rfl changes
    | _ => rfl
  | stable =>
    cases after with
    | stable => exact absurd rfl changes
    | _ => rfl
  | _ => rfl

section
variable (k : Pos) (c : Channel) (raw : Int)

theorem judgedTold_eq : judgedTold k c raw =
    (if (judged c raw).state = c.state then [] else tell k (judged c raw) (.change c.state (judged c raw).state)
      (if Weighs c.state ∧ Weighs (judged c raw).state then c.enables.motionStable else c.enables.fault)) ++
    (if (judged c raw).zeroRangeSent = true ∧ ¬(c.zeroRangeSent = true ∧ c.state = .zeroing) then
      tell k (judged c raw) .zeroRange c.enables.fault else []) ++
    (if (judged c raw).removal = c.removal then [] else
      tell k (judged c raw) (if (judged c raw).removal = true then .removalOn else .removalOff) c.enables.removal) := by
  have online : (judged c raw).state ≠ .offline := by
    rw [judged_state]
    exact nextState_online c raw
  obtain ⟨-, -, -, -, enables⟩ := judged_keeps c raw
  have same_told (e : WeightEvent) :
      told k (c.sampled raw).1 e = tell k (judged c raw) e (Enables.allows c.enables e) := by
    rw [← told_judgeRemoval, ← enables]
    exact told_eq_tell k online e
  have state : (c.sampled raw).1.state = (judged c raw).state := by
    rw [judged, judgeRemoval_eq]
  have was : (c.sampled raw).1.removal = c.removal := by
    rw [sampled_fst]
    rfl
  have change : toldChange k (c.sampled raw).1 c.state = if (judged c raw).state = c.state then [] else
      tell k (judged c raw) (.change c.state (judged c raw).state)
        (if Weighs c.state ∧ Weighs (judged c raw).state then c.enables.motionStable else c.enables.fault) := by
    unfold toldChange
    rw [same_told, state]
    split
    next => rfl
    next changes => rw [allows_change _ changes]
  have removed : removalTold k (c.sampled raw).1 = if (judged c raw).removal = c.removal then [] else
      tell k (judged c raw) (if (judged c raw).removal = true then .removalOn else .removalOff) c.enables.removal := by
    unfold removalTold
    rw [told_judgeRemoval, was, same_told]
    change (if (judged c raw).removal = c.removal then [] else tell k (judged c raw)
      (if (judged c raw).removal = true then .removalOn else .removalOff) (Enables.allows c.enables
        (if (judged c raw).removal = true then .removalOn else .removalOff))) = _
    cases (judged c raw).removal <;> rfl
  unfold judgedTold sampleTold
  rw [change, removed, same_told]
  simp only [sampled_snd]
  rfl

end

/-! ## What the comparators leave of the channel -/

section
variable (a : Channel) (d : Prop) [Decidable d]

/-- SERVICE_LIMIT fires only where DISTURB has not released the capture with it. -/
theorem limitFires_released : (if d then a.release else a).limitFires = true ↔
    ¬(d ∧ a.capture ≠ none) ∧ a.limitFires = true := by
  rw [OpenItems.release_eq]
  by_cases fires : d
  · by_cases held : a.capture = none
    · simp [fires, held]
    · simp [fires, held, Channel.limitFires]
  · simp [fires]

/-- The channel has its capture and its comparators, or it has lost them to one of the two. -/
theorem released_twice (l : Prop) [Decidable l] :
    (if l then (if d then a.release else a).release else if d then a.release else a) =
      if (d ∨ l) ∧ a.capture ≠ none then { a with capture := none, disturb := none, limit := none } else a := by
  rw [OpenItems.release_eq a]
  by_cases held : a.capture = none
  · by_cases first : d
    · by_cases second : l <;> simp [first, second, held, OpenItems.release_eq a]
    · by_cases second : l <;> simp [first, second, held, OpenItems.release_eq a]
  · by_cases first : d
    · by_cases second : l <;> simp [first, second, held, OpenItems.release_eq]
    · by_cases second : l <;> simp [first, second, held, OpenItems.release_eq]

end

theorem core_fields {a b : Channel} (same : a.core = b.core) :
    a.state = b.state ∧ a.report = b.report ∧ a.removal = b.removal ∧ a.zeroRangeSent = b.zeroRangeSent :=
  ⟨(congrArg Channel.state same :), (congrArg Channel.report same :), (congrArg Channel.removal same :),
    (congrArg Channel.zeroRangeSent same :)⟩

/-! ## A slot that is not being rated -/

theorem holdsAt_channel_ne {s : State} {k j : Pos} {c : Channel} {ns : List Notice} {o : OpenSlot} (other : j ≠ k) :
    (holdsAt s k c ns o).channel j = s.channel j := standsAt_channel_ne s k c ns other

section
variable {s : State} {k : Pos} {raw : Int} {d l : Prop} [Decidable d] [Decidable l]
  (disturbs : d ↔ (judged (s.channel k) raw).disturbFires (s.channel k).state = true)
  (limits : l ↔ ¬(d ∧ (s.channel k).capture ≠ none) ∧ (judged (s.channel k) raw).limitFires = true)
include disturbs limits

theorem sample_settled (unasked : (s.channel k).waiting = none)
    (settled : ∀ it ph i, s.openSlot k ≠ .rating it ph i) :
    s.sample k raw =
      let a := judged (s.channel k) raw
      let slot := s.openSlot k
      holdsAt s k
        (if (d ∨ l) ∧ a.capture ≠ none then { a with capture := none, disturb := none, limit := none } else a)
        (judgedTold k (s.channel k) raw ++
          ((if d then told k a .disturb ++ itemTold k .disturb slot else []) ++
            if l then told k a .serviceLimit ++ itemTold k .serviceLimit (if d then lostSlot slot else slot) else []))
        (if d ∨ l then lostSlot slot else slot) := by
  obtain ⟨capture, -, -, waiting, -⟩ := judged_keeps (s.channel k) raw
  have second : (if d then (judged (s.channel k) raw).release else judged (s.channel k) raw).limitFires = true ↔ l := by
    rw [limitFires_released, limits, capture]
  have slots : (if l then lostSlot (if d then lostSlot (s.openSlot k) else s.openSlot k)
      else if d then lostSlot (s.openSlot k) else s.openSlot k) =
        if d ∨ l then lostSlot (s.openSlot k) else s.openSlot k := by
    by_cases first : d <;> by_cases then_ : l <;> simp [first, then_, lostSlot_lostSlot]
  have left := compared_settled (raw := raw) settled
  simp only [← disturbs, second, slots, released_twice] at left
  have unasked : ((compared s k raw).channel k).waiting = none := by
    rw [left, holdsAt_channel]
    split <;> exact waiting.trans unasked
  rw [sample_compared, serveWaiting_none unasked, left]

theorem settled_leaves (unasked : (s.channel k).waiting = none)
    (settled : ∀ it ph i, s.openSlot k ≠ .rating it ph i) :
    let t := s.sample k raw
    let c := s.channel k
    let now := t.channel k
    let lost : Prop := (d ∨ l) ∧ c.capture ≠ none
    now.capture = (if lost then none else c.capture) ∧ now.disturb = (if lost then none else c.disturb) ∧
    now.limit = (if lost then none else c.limit) ∧ now.waiting = none ∧
    t.items.slots = (if d ∨ l then s.items.slots.set k (lostSlot (s.openSlot k)) else s.items.slots) ∧
    (∀ j, j ≠ k → t.channel j = s.channel j) ∧
    t.gauges = s.gauges ∧ t.port = s.port ∧ t.cache = s.cache ∧ t.rating = s.rating ∧
    t.link = s.link.offers (judgedTold k c raw ++
      ((if d then told k (judged c raw) .disturb ++ itemTold k .disturb (s.openSlot k) else []) ++
        if l then told k (judged c raw) .serviceLimit ++
          itemTold k .serviceLimit (if d then lostSlot (s.openSlot k) else s.openSlot k) else [])) := by
  obtain ⟨capture, disturb, limit, waiting, -⟩ := judged_keeps (s.channel k) raw
  dsimp only
  rw [sample_settled disturbs limits unasked settled, holdsAt_channel, capture]
  refine ⟨?_, ?_, ?_, ?_, ?_, fun j other => holdsAt_channel_ne other, rfl, rfl, rfl, rfl, rfl⟩
  · split
    next => rfl
    next => exact capture
  · split
    next => rfl
    next => exact disturb
  · split
    next => rfl
    next => exact limit
  · split <;> exact waiting.trans unasked
  · by_cases lost : d ∨ l
    · simp only [lost, if_true]
      rfl
    · simp only [lost, if_false]
      exact Six.set_get ..

end

theorem itemTold_lostSlot (k : Pos) (cause : LostCause) (d : Prop) [Decidable d] (o : OpenSlot) :
    itemTold k cause (if d then lostSlot o else o) =
      if o = .idle then [] else [.itemDisturbed k cause (if d then .opened else o.state)] := by
  by_cases idle : o = .idle
  · subst idle
    simp [itemTold, lostSlot, OpenSlot.item?]
  · obtain ⟨it, item⟩ : ∃ it, lostSlot o = .opened it := by
      cases o with
      | idle => exact absurd rfl idle
      | _ => exact ⟨_, rfl⟩
    rw [itemTold, item]
    split <;> simp [OpenSlot.state]

/-! ## A rating that has its capture -/

/-- The only rating withdrawn: no other is chosen, and its lookup is the orphan or waits no longer (R80, R81). -/
theorem withdrawRating_alone {s : State} {k : Pos} {u : RatingRun} (current : s.rating.current = some u)
    (here : u.req.position = k) (empty : s.rating.pendingList = []) : s.withdrawRating k =
      { s with
        rating := { s.rating with
          current := none
          orphan := if s.cache.waiting.isSome then s.rating.orphan else some u.lookup }
        cache := { s.cache with waiting := none } } := by
  rw [withdrawRating_runs current here, lookupLeft]
  cases waits : s.cache.waiting with
  | none =>
    have idle : { s.cache with waiting := none } = s.cache := by rw [← waits]
    rw [idle]
    exact RatingEnds.arbitrate_empty empty
  | some w => exact RatingEnds.arbitrate_empty empty

/-- The item of position k back in OPEN after a sample that took its capture (R111). -/
def losing (s : State) (k : Pos) (raw : Int) (it : OpenItem) (cause : LostCause) : State :=
  holdsAt s k (judged (s.channel k) raw).release
    (judgedTold k (s.channel k) raw ++ told k (judged (s.channel k) raw) (eventOf cause))
    (.opened { it with capture := none })

theorem refuse_offer_link (w : State) (i : SlotId) (r : Reason) (n : Notice) :
    ((w.refuse i r).offer n).link = (w.link.answer i (.refused r .none)).offer n := rfl

section
variable {s : State} {k : Pos} {raw : Int} {d l : Prop}
  (disturbs : d ↔ (judged (s.channel k) raw).disturbFires (s.channel k).state = true)
  (limits : l ↔ ¬(d ∧ (s.channel k).capture ≠ none) ∧ (judged (s.channel k) raw).limitFires = true)
include disturbs limits

theorem sample_compared_quiet (undisturbed : ¬d) (unlimited : ¬l) : s.sample k raw =
    (standsAt s k (judged (s.channel k) raw) (judgedTold k (s.channel k) raw)).serveWaiting k := by
  have quiet : ¬(judged (s.channel k) raw).limitFires = true := fun fires =>
    unlimited (limits.mpr ⟨fun released => undisturbed released.1, fires⟩)
  rw [sample_compared, compared_quiet (mt disturbs.mpr undisturbed) quiet]

/-- The capture is lost once: SERVICE_LIMIT goes with it. -/
theorem sample_rating_loses {it : OpenItem} {ph : RatePhase} {i : SlotId} (rating : s.openSlot k = .rating it ph i)
    (placed : ph ≠ .gathering) (held : (s.channel k).capture ≠ none) (unasked : (s.channel k).waiting = none)
    [Decidable d] (lost : d ∨ l) {w : State}
    (withdrawn : (losing s k raw it (if d then .disturb else .serviceLimit)).withdrawRating k = w)
    (channel : w.channel k = (judged (s.channel k) raw).release) :
    s.sample k raw =
      (w.refuse i .disturbed).offer (.itemDisturbed k (if d then .disturb else .serviceLimit) .rating) := by
  obtain ⟨capture, -, -, waiting, -⟩ := judged_keeps (s.channel k) raw
  have loses := (loseCapture_rating rating placed (judged (s.channel k) raw) (judgedTold k (s.channel k) raw)
    (if d then .disturb else .serviceLimit)).trans (congrArg (fun x : State =>
      (x.refuse i .disturbed).offer (.itemDisturbed k (if d then .disturb else .serviceLimit) .rating)) withdrawn)
  have compares : compared s k raw =
      (w.refuse i .disturbed).offer (.itemDisturbed k (if d then .disturb else .serviceLimit) .rating) := by
    by_cases disturbed : d
    · simp only [disturbed, if_true] at loses ⊢
      have once : ¬(w.channel k).limitFires = true := by
        rw [channel, OpenItems.release_eq, if_pos (capture ▸ held)]
        simp [Channel.limitFires]
      rw [compared_disturbed (disturbs.mp disturbed), loses]
      exact if_neg once
    · have limited := (limits.mp (lost.resolve_left disturbed)).2
      simp only [disturbed, if_false] at loses ⊢
      rw [compared_limited (mt disturbs.mpr disturbed) limited, loses]
  have unasked : ((compared s k raw).channel k).waiting = none := by
    rw [compares]
    exact (congrArg Channel.waiting channel).trans ((release_waiting _).trans (waiting.trans unasked))
  rw [sample_compared, serveWaiting_none unasked, compares]

theorem rating_leaves {it : OpenItem} {ph : RatePhase} {i : SlotId} (rating : s.openSlot k = .rating it ph i)
    (placed : ph ≠ .gathering) (held : (s.channel k).capture ≠ none) (unasked : (s.channel k).waiting = none)
    [Decidable d] (lost : d ∨ l) {r : Rating} {q : Cache}
    (leaves : (losing s k raw it (if d then .disturb else .serviceLimit)).withdrawRating k =
      { losing s k raw it (if d then .disturb else .serviceLimit) with rating := r, cache := q }) :
    let t := s.sample k raw
    let now := t.channel k
    let cause : LostCause := if d then .disturb else .serviceLimit
    (now.waiting = none ∧ (∀ j, j ≠ k → t.channel j = s.channel j) ∧ t.gauges = s.gauges ∧ t.port = s.port) ∧
    now.capture = none ∧ now.disturb = none ∧ now.limit = none ∧
    t.items.slots = s.items.slots.set k (.opened { it with capture := none }) ∧
    t.link = ((s.link.offers (judgedTold k (s.channel k) raw ++ told k (judged (s.channel k) raw) (eventOf cause))).answer
      i (.refused .disturbed .none)).offer (.itemDisturbed k cause .rating) ∧
    t.cache = q ∧ t.rating = r := by
  obtain ⟨capture, -, -, waiting, -⟩ := judged_keeps (s.channel k) raw
  have release : (judged (s.channel k) raw).release =
      { judged (s.channel k) raw with capture := none, disturb := none, limit := none } := by
    rw [OpenItems.release_eq, if_pos (capture ▸ held)]
  have ends := sample_rating_loses disturbs limits rating placed held unasked lost leaves (standsAt_channel s k _ [])
  dsimp only
  clear leaves
  generalize (if d then LostCause.disturb else .serviceLimit) = cause at ends ⊢
  have channel (j : Pos) : (s.sample k raw).channel j = (losing s k raw it cause).channel j := by
    rw [ends]
    rfl
  have now : (s.sample k raw).channel k =
      { judged (s.channel k) raw with capture := none, disturb := none, limit := none } := by
    rw [channel, losing, holdsAt_channel, release]
  have others : ∀ j, j ≠ k → (s.sample k raw).channel j = s.channel j := fun j other => by
    rw [channel, losing, holdsAt_channel_ne other]
  rw [now]
  refine ⟨⟨waiting.trans unasked, others, ?_, ?_⟩, rfl, rfl, rfl, ?_, ?_, ?_, ?_⟩
  · rw [ends]
    rfl
  · rw [ends]
    rfl
  · rw [ends]
    rfl
  · have link : (losing s k raw it cause).link = s.link.offers (judgedTold k (s.channel k) raw ++
        told k (judged (s.channel k) raw) (eventOf cause)) := rfl
    rw [ends, refuse_offer_link, ← link]
  · rw [ends]
    rfl
  · rw [ends]
    rfl

end

/-! ## A capture that waits (R16) -/

section
variable {s t : State} {k : Pos} {a : Channel} {ns : List Notice} {it : OpenItem} {i : SlotId}

/-- The slot of k and the link are these, and all else but the weighing channel k is as it was. -/
def Answers (s t : State) (k : Pos) (o : OpenSlot) (l : Link) : Prop :=
  t.items.slots = s.items.slots.set k o ∧ t.link = l ∧ t.gauges = s.gauges ∧
    (∀ j, j ≠ k → t.channel j = s.channel j) ∧ t.rating = s.rating ∧ t.cache = s.cache ∧ t.port = s.port

theorem holdsAt_refuse_answers (s : State) (k : Pos) (c : Channel) (ns : List Notice) (o : OpenSlot) (i : SlotId)
    (r : Reason) (f : Fields) :
    Answers s ((holdsAt s k c ns o).refuse i r f) k o ((s.link.offers ns).answer i (.refused r f)) :=
  ⟨rfl, rfl, rfl, fun _ other => standsAt_channel_ne s k c ns other, rfl, rfl, rfl⟩

/-- A capture that waits on a STABLE channel does so no longer. -/
theorem serveWaiting_clears (asked : a.waiting.isSome = true) (stable : a.state = .stable) :
    (((standsAt s k a ns).serveWaiting k).channel k).waiting = none := by
  cases now : a.captureNow s.minuteNow with
  | error r => rw [serveWaiting_fails asked stable now, (captureRefused_channels ..).waiting, standsAt_channel]
  | ok x =>
    rw [serveWaiting_takes asked stable now, (captureGathered_channels ..).waiting, standsAt_channel]
    rfl

section
variable (gathers : s.openSlot k = .rating it .gathering i) (serves : t = (standsAt s k a ns).serveWaiting k)
  (asked : a.waiting.isSome = true) (stable : a.state = .stable)
include gathers serves asked stable

theorem waiting_refused {r : Reason} (now : a.captureNow s.minuteNow = .error r) :
    t.channel k = { a with waiting := none } ∧
    Answers s t k (.opened it) ((s.link.offers ns).answer i (.refused r .none)) := by
  have gathers : (standsAt s k { a with waiting := none } ns).openSlot k = .rating it .gathering i := gathers
  rw [serves, serveWaiting_fails asked stable now, captureRefused_opens gathers]
  exact ⟨standsAt_channel s k _ ns, holdsAt_refuse_answers s k { a with waiting := none } ns _ i r .none⟩

theorem waiting_taken {x : Capture} (now : a.captureNow s.minuteNow = .ok x) :
    t = (standsAt s k (a.takeCapture x) ns).gatherDims k { it with capture := some x } i := by
  have gathers : (standsAt s k (a.takeCapture x) ns).openSlot k = .rating it .gathering i := gathers
  rw [serves, serveWaiting_takes asked stable now, captureGathered_gathers gathers]

end

theorem gatherDims_channel (s : State) (k : Pos) (it : OpenItem) (i : SlotId) :
    ((s.gatherDims k it i).channel k).capture = (s.channel k).capture ∧
      ((s.gatherDims k it i).channel k).disturb = (s.channel k).disturb := by
  obtain ⟨m, same⟩ := (gatherDims_channels s k it i).channel k
  rw [same]
  exact ⟨rfl, rfl⟩

/-- The item is QUEUED with these dimensions, its gauge holds this record, and its request waits. -/
def Queues (s t : State) (k : Pos) (ns : List Notice) (i : SlotId) (y : OpenItem) (d : Three Nat)
    (r : Option LatchRecord) : Prop :=
  t.items.slots = s.items.slots.set k (.rating y .queued i) ∧ t.link = s.link.offers ns ∧
  (∀ j, j ≠ k → t.channel j = s.channel j) ∧ t.gauges = s.gauges.set k { s.gauges.get k with record := r } ∧
  t.cache = s.cache ∧ t.port = s.port ∧
  t.rating = { s.rating with
    pendingList := s.rating.pendingList ++ [y.request k ((y.capture.map Capture.net).getD 0).toNat d] }

/-- A request placed while another rating is in progress waits. -/
theorem queued_waits (busy : s.rating.current ≠ none) (i : SlotId) (y : OpenItem) (d : Three Nat)
    (r : Option LatchRecord) : Queues s (queued (standsAt s k a ns) k i y d r).arbitrate k ns i y d r := by
  have busy : (queued (standsAt s k a ns) k i y d r).rating.current ≠ none := busy
  rw [arbitrate_busy busy]
  exact ⟨rfl, rfl, fun _ other => standsAt_channel_ne s k a ns other, rfl, rfl, rfl, rfl⟩

section
variable (gathered : t = (standsAt s k a ns).gatherDims k it i)
include gathered

theorem gathered_fails (unkeyed : it.keyed = none) (empty : (s.gauges.get k).record = none) {x : Axis}
    (fails : DimensionGauges.failsLatch (s.gauges.get k) x) : Answers s t k (.opened it)
      ((s.link.offers ns).answer i (.refused .gaugeNotReady (.latchFailed x (s.gauges.get k).states))) := by
  rw [gathered, gatherDims_fails (s := standsAt s k a ns) unkeyed empty fails]
  exact holdsAt_refuse_answers ..

theorem gathered_keyed (busy : s.rating.current ≠ none) {d : Three Nat} (keyed : it.keyed = some d) :
    Queues s t k ns i it d (s.gauges.get k).record := by
  rw [gathered, gatherDims_keyed keyed]
  exact queued_waits busy ..

theorem gathered_record (busy : s.rating.current ≠ none) (unkeyed : it.keyed = none) {r : LatchRecord}
    (record : (s.gauges.get k).record = some r) :
    Queues s t k ns i { it with latched := some { r with claimed := true } } r.cm (some { r with claimed := true }) := by
  rw [gathered, gatherDims_record (s := standsAt s k a ns) unkeyed record]
  exact queued_waits busy ..

theorem gathered_latches (busy : s.rating.current ≠ none) (unkeyed : it.keyed = none)
    (empty : (s.gauges.get k).record = none) (ready : ∀ x, ((s.gauges.get k).axes.get x).state = .ready) :
    Queues s t k ns i { it with latched := some (ratingLatch (s.gauges.get k)) } (ratingLatch (s.gauges.get k)).cm
      (some (ratingLatch (s.gauges.get k))) := by
  rw [gathered, gatherDims_latches (s := standsAt s k a ns) unkeyed empty ready]
  exact queued_waits busy ..

end

end

/-- Settles O9, by what the channel and the slot hold: no rating, a rating that has its capture, or one that waits for
it. -/
theorem sampleComparators : Obligations.SampleComparators := by
  intro s k raw running
  obtain ⟨own, -⟩ := sample_cores s k raw.toInt
  refine ⟨_, exec_sampleArrival running k raw, ?_⟩
  intro others c now weighs net shown disturbed released limited lost told first
  have core : now.core = (judged c raw.toInt).core := own
  obtain ⟨capture, disturb, limit, waiting, enables⟩ := judged_keeps c raw.toInt
  obtain ⟨state, report, removal, sent⟩ := core_fields core
  have online : (judged c raw.toInt).state ≠ .offline := by
    rw [judged_state]
    exact nextState_online c raw.toInt
  have telling (e : WeightEvent) (on : Bool) : told e on = tell k (judged c raw.toInt) e on := by
    simp only [told, shown, weighs, state, report]
    rfl
  have first_eq : first = judgedTold k c raw.toInt := by
    rw [judgedTold_eq]
    simp only [first, telling, state, weighs, sent, removal]
  have disturbs : disturbed ↔ (judged c raw.toInt).disturbFires c.state = true := by
    rw [disturbFires_iff, capture, disturb]
    simp only [disturbed, weighs, net, state, report]
    rfl
  have limits : limited ↔ ¬(disturbed ∧ c.capture ≠ none) ∧ (judged c raw.toInt).limitFires = true := by
    rw [limitFires_iff, limit]
    simp only [limited, weighs, net, state, report]
    rfl
  have disturb_told : ChannelNotices.told k (judged c raw.toInt) .disturb = told .disturb c.enables.disturb := by
    rw [told_eq_tell k online, telling, ← enables]
    rfl
  have limit_told :
      ChannelNotices.told k (judged c raw.toInt) .serviceLimit = told .serviceLimit c.enables.serviceLimit := by
    rw [told_eq_tell k online, telling, ← enables]
    rfl
  refine ⟨fun unasked settled => ?settled, fun it ph i unasked held placed rating => ?rating,
    fun it i ms asked empty unarmed unloaded gathers => ?gathers⟩
  case settled =>
    intro item
    obtain ⟨captures, disturbs', limits', waits, slots, others', gauges, port, cache, rating, link⟩ :=
      settled_leaves disturbs limits unasked settled
    refine ⟨captures, disturbs', limits', waits, slots, others', gauges, port, cache, rating, ?_⟩
    rw [link, first_eq, ← List.append_assoc, disturb_told, limit_told, itemTold_lostSlot]
    simp only [item, itemTold, true_and, reduceCtorEq, false_and, if_false]
    rfl
  case rating =>
    intro rest
    refine ⟨fun undisturbed unlimited => ?quiet, fun lost => ?lost⟩
    case quiet =>
      have ends : s.sample k raw.toInt = standsAt s k (judged c raw.toInt) (judgedTold k c raw.toInt) := by
        rw [sample_compared_quiet disturbs limits undisturbed unlimited]
        exact serveWaiting_none ((congrArg Channel.waiting (standsAt_channel ..)).trans (waiting.trans unasked))
      simp only [rest, others, now, first_eq]
      rw [ends, standsAt_channel]
      exact ⟨⟨waiting.trans unasked, fun j other => standsAt_channel_ne s k _ _ other, rfl, rfl⟩, capture, disturb, limit,
        rfl, rfl, rfl, rfl⟩
    intro withdrawn
    have cause_told :
        ChannelNotices.told k (judged c raw.toInt) (eventOf (if disturbed then .disturb else .serviceLimit)) =
        if disturbed then told .disturb c.enables.disturb else told .serviceLimit c.enables.serviceLimit := by
      by_cases first : disturbed
      · simp only [first, if_true]
        exact disturb_told
      · simp only [first, if_false]
        exact limit_told
    have gone {r : Rating} {q : Cache} (leaves : (losing s k raw.toInt it (if disturbed then .disturb else
        .serviceLimit)).withdrawRating k = { losing s k raw.toInt it (if disturbed then .disturb else .serviceLimit) with
          rating := r, cache := q }) :
        withdrawn ∧ (s.sample k raw.toInt).cache = q ∧ (s.sample k raw.toInt).rating = r := by
      obtain ⟨rests, captures, disturbs', limits', slots, link, left⟩ :=
        rating_leaves disturbs limits rating placed held unasked lost leaves
      refine ⟨⟨rests, captures, disturbs', limits', slots, ?_⟩, left⟩
      rw [link, first_eq, cause_told]
    exact ⟨fun elsewhere => gone (withdrawRating_waits elsewhere),
      fun u current here empty => gone (withdrawRating_alone (s := losing ..) current here empty)⟩
  case gathers =>
    intro g kept ends held
    have undisturbed : ¬disturbed := fun ⟨d, armed, _⟩ => nomatch unarmed.symm.trans armed
    have unlimited : ¬limited := fun ⟨_, m, loaded, _⟩ => nomatch unloaded.symm.trans loaded
    have serves := sample_compared_quiet disturbs limits undisturbed unlimited
    refine ⟨fun unstable => ?waits, fun stable => ?serves⟩
    case waits =>
      rw [serveWaiting_waits (state ▸ unstable)] at serves
      simp only [held, kept, others, now, first_eq]
      rw [serves, standsAt_channel]
      exact ⟨waiting.trans asked, capture.trans empty, disturb.trans unarmed, rfl, rfl, rfl,
        fun j other => standsAt_channel_ne s k (judged c raw.toInt) [] other, rfl, rfl, rfl⟩
    case serves =>
      have stable : (judged c raw.toInt).state = .stable := state ▸ stable
      have asked : (judged c raw.toInt).waiting.isSome = true := by rw [waiting, asked]; rfl
      have ended : now.waiting = none := by
        simp only [now]
        rw [serves]
        exact serveWaiting_clears asked stable
      obtain ⟨r, reports⟩ : ∃ r, (judged c raw.toInt).report = some r :=
        ⟨_, judged_report c raw.toInt (.inr ((judged_state c raw.toInt).symm.trans stable))⟩
      have refused {reason : Reason} (unfit : (judged c raw.toInt).captureNow s.minuteNow = .error reason) :
          now.capture = none ∧ now.disturb = none ∧ ends (.opened it) (held.answer i (.refused reason .none)) := by
        obtain ⟨here, answers⟩ := waiting_refused gathers serves asked stable unfit
        rw [← first_eq] at answers
        exact ⟨(congrArg Channel.capture here).trans (capture.trans empty),
          (congrArg Channel.disturb here).trans (disturb.trans unarmed), answers⟩
      refine ⟨ended, r, report.trans reports, fun light => refused (captureNow_light reports light),
        fun heavy => refused (captureNow_heavy reports heavy), fun enough bearable => ?within⟩
      intro x got queued
      have gathered := waiting_taken gathers serves asked stable (captureNow_within reports enough bearable)
      obtain ⟨kept_capture, kept_disturb⟩ :=
        gatherDims_channel (standsAt s k ((judged c raw.toInt).takeCapture x) (judgedTold k c raw.toInt)) k got i
      rw [standsAt_channel] at kept_capture kept_disturb
      have captured : now.capture = some x :=
        (congrArg (fun t : State => (t.channel k).capture) gathered).trans kept_capture
      have armed : now.disturb = some x.net :=
        (congrArg (fun t : State => (t.channel k).disturb) gathered).trans kept_disturb
      have queues {y : OpenItem} {d : Three Nat} {r : Option LatchRecord}
          (placed : Queues s (s.sample k raw.toInt) k (judgedTold k c raw.toInt) i y d r) (holds : y.capture = some x) :
          queued y d r := by
        rw [← first_eq, Queues, holds] at placed
        exact placed
      refine ⟨captured, armed, fun a unkeyed empty here width height => ?fails, fun busy =>
        ⟨fun d keyed => queues (gathered_keyed gathered busy keyed) rfl,
          fun l unkeyed record => queues (gathered_record gathered busy unkeyed record) rfl,
          fun unkeyed empty ready => queues (gathered_latches gathered busy unkeyed empty ready) rfl⟩⟩
      have answers := gathered_fails gathered unkeyed empty (failsLatch_of here width height)
      rw [← first_eq] at answers
      exact answers

end Sys2Proof.Machine.SampleCaptures
end

section
/-! PROOFS of 10_host_link_calendar_and_settings.md and 02_dimension_gauges.md: what a reset leaves of the part, the
settings it loads and the home switches it reads (R23, R36, R172, R190, R201, R206). -/

namespace Sys2Proof.Machine.ResetState

open ChannelNotices

/-! ## The Link Controller of a part that starts (R195, R196) -/

/-- A link that has sent or queued at most `n` notices since its reset, and has dropped none. -/
structure Fresh (n : Nat) (p : PartState) (l : Link) : Prop where
  part : l.part = p
  receiver : l.receiver = .hunting
  slots : l.slots = Vector.replicate 8 none
  ready : l.ready = []
  drops : l.drops = 0
  frameErrors : l.frameErrors = 0
  lostRequests : l.lostRequests = 0
  restartSlot : l.restartSlot = none
  notices : l.notices.length ≤ n

namespace Fresh
variable {n m : Nat} {p : PartState} {l : Link}

theorem reset : Fresh 0 .starting {} := ⟨rfl, rfl, rfl, rfl, rfl, rfl, rfl, rfl, le_rfl⟩

theorem enters (fresh : Fresh n p l) (q : PartState) : Fresh n q { l with part := q } := { fresh with part := rfl }

theorem mono (fresh : Fresh n p l) (more : n ≤ m) : Fresh m p l := { fresh with notices := fresh.notices.trans more }

/-- A notice goes out at once or joins the queue. -/
theorem sendNext (fresh : Fresh n p l) : Fresh n p l.sendNext := by
  unfold Link.sendNext
  split
  · exact fresh
  · rw [fresh.ready]
    dsimp only
    split
    next => exact fresh
    next x rest waits =>
      have fewer : rest.length ≤ n := by
        have := fresh.notices
        rw [waits, List.length_cons] at this
        omega
      exact { fresh with ready := rfl, drops := rfl, notices := fewer }

theorem offer (fresh : Fresh n p l) (room : n < 64) (x : Notice) : Fresh (n + 1) p (l.offer x) := by
  have free : l.notices.length < Config.noticeEntries := fresh.notices.trans_lt room
  rw [Link.offer, if_pos free]
  refine sendNext { fresh with notices := ?_ }
  rw [List.length_append]
  exact Nat.add_le_add_right fresh.notices 1

theorem offers (ns : List Notice) : ∀ {n : Nat} {l : Link}, Fresh n p l → n + ns.length < 64 →
    Fresh (n + ns.length) p (l.offers ns) := by
  induction ns with
  | nil => exact fun fresh _ => fresh
  | cons x ns ih =>
    intro n l fresh room
    rw [List.length_cons] at room ⊢
    have rest := ih (fresh.offer (by omega) x) (by omega)
    rwa [Nat.add_right_comm n 1, Nat.add_assoc] at rest

end Fresh

/-! ## The part without its volatile state (R206) -/

/-- An access of tariff memory cut short touches no more than the memory (R38, R59). -/
theorem cutAccess_leaves (s : State) : ∃ f n, s.cutAccess = { s with flash := f, fresh := n } ∧
    (s.port.current = none → f = s.flash) := by
  have busy {a : Access} {f : Flash} (current : s.port.current = some a) (idle : s.port.current = none) : f = s.flash :=
    nomatch idle.symm.trans current
  unfold State.cutAccess
  split
  next current => exact ⟨s.flash, s.fresh, rfl, fun _ => rfl⟩
  next current => exact ⟨s.flash, s.fresh, rfl, fun _ => rfl⟩
  next current => exact ⟨s.flash, s.fresh, rfl, fun _ => rfl⟩
  next current => exact ⟨_, _, rfl, busy current⟩
  next current => exact ⟨_, _, rfl, busy current⟩
  next current =>
    split
    · exact ⟨_, _, rfl, busy current⟩
    · exact ⟨_, _, rfl, busy current⟩
  next current => exact ⟨_, s.fresh, rfl, busy current⟩

/-- The copies of the settings record, one of them spoilt where its store was cut short (R201). -/
structure Copies (was now : Settings) : Prop where
  kept : was.store = none → now.copy1 = was.copy1 ∧ now.copy2 = was.copy2
  spoilt : ∀ w, was.store = some w → (now.copyOf w.copy).valid = none ∧
    now.copyOf w.copy.other = was.copyOf w.copy.other

theorem Copies.of_same {a b c : Settings} (copies : Copies a b) (one : c.copy1 = b.copy1) (two : c.copy2 = b.copy2) :
    Copies a c := by
  have copy (k : CopyId) : c.copyOf k = b.copyOf k := by cases k <;> assumption
  refine ⟨fun idle => ?_, fun w writing => ?_⟩
  · rw [one, two]
    exact copies.kept idle
  · rw [copy, copy]
    exact copies.spoilt w writing

theorem cutStore_leaves (s : State) : ∃ t n, s.cutStore = { s with settings := t, fresh := n } ∧
    Copies s.settings t := by
  unfold State.cutStore
  split
  next idle =>
    exact ⟨s.settings, s.fresh, rfl, fun _ => ⟨rfl, rfl⟩, fun w writing => nomatch idle.symm.trans writing⟩
  next w writing =>
    refine ⟨_, _, rfl, ⟨fun idle => ?_, fun x same => ?_⟩⟩
    · exact nomatch writing.symm.trans idle
    obtain rfl : w = x := Option.some.inj (writing.symm.trans same)
    cases copy : w.copy <;> exact ⟨Copy.spoilt_invalid _, rfl⟩

/-- A reset leaves the lines and the non-volatile memories (R36, R152, R206). -/
theorem cold_eq (s : State) (time : Time) : ∃ f t n, s.cold time =
      { pins := s.pins, gauges := s.gauges.map State.gaugeLines, flash := f
        belt := { eyes := s.belt.eyes.map fun r => { blocked := r.blocked }
                  applicator := { blocked := s.belt.applicator.blocked } }
        settings := { copy1 := t.copy1, copy2 := t.copy2 }, time := time, fresh := n, pending := s.pending } ∧
    (s.port.current = none → f = s.flash) ∧ Copies s.settings t := by
  obtain ⟨f, n, cut, memory⟩ := cutAccess_leaves s
  obtain ⟨t, m, stored, copies⟩ := cutStore_leaves s.cutAccess
  refine ⟨f, t, m, ?_, memory, ?_⟩
  · rw [State.cold, stored, cut]
    rfl
  · rw [cut] at copies
    exact copies

/-! ## The settings a start loads (R201) -/

/-- The record in force of the copies, with its source and number. -/
def inForce (t : Settings) : Source × BitVec 32 × SettingsRecord :=
  match t.best with
  | some (k, seq, r) => (.copy k, seq, r)
  | none => (.defaulted, 0, .default)

theorem loadSettings_eq (s : State) : ∃ ns : List Notice, ns.length ≤ 1 ∧ s.loadSettings =
    (s.loadRecord (inForce s.settings).2.2 (inForce s.settings).1 (inForce s.settings).2.1).onLink
      fun l => l.offers ns := by
  unfold State.loadSettings inForce
  cases s.settings.best with
  | none => exact ⟨[_], le_rfl, rfl⟩
  | some x => exact ⟨[], Nat.zero_le _, rfl⟩

section
variable {t : Settings} {q q' : BitVec 32} {r r' : SettingsRecord}

theorem inForce_default (one : t.copy1.valid = none) (two : t.copy2.valid = none) :
    inForce t = (.defaulted, 0, .default) := by
  simp only [inForce, Settings.best, one, two]

theorem inForce_one (one : t.copy1.valid = some (q, r)) (two : t.copy2.valid = none) :
    inForce t = (.copy .one, q, r) := by
  simp only [inForce, Settings.best, one, two]

theorem inForce_two (one : t.copy1.valid = none) (two : t.copy2.valid = some (q, r)) :
    inForce t = (.copy .two, q, r) := by
  simp only [inForce, Settings.best, one, two]

section
variable (one : t.copy1.valid = some (q, r)) (two : t.copy2.valid = some (q', r'))
include one two

theorem inForce_first (newer : q'.toNat < q.toNat) : inForce t = (.copy .one, q, r) := by
  simp only [inForce, Settings.best, one, two, if_neg newer.asymm]

theorem inForce_second (newer : q.toNat < q'.toNat) : inForce t = (.copy .two, q', r') := by
  simp only [inForce, Settings.best, one, two, if_pos newer]

end
end

/-! ## The home switches read at a start (R36, log 56) -/

/-- An axis once its home switch has been read. -/
def found (x : AxisRec) (offset : Nat) : AxisRec := if x.closed then (x.home offset).1 else x

/-- The home switch of one axis read. -/
def readSwitch (s : State) (p : Pos × Axis) : State :=
  if ((s.gauges.get p.1).axes.get p.2).closed then s.homeEvent p.1 p.2 else s

/-- The axes in the order their switches are read. -/
def switches : List (Pos × Axis) := Pos.all.flatMap fun g => Axis.all.map fun a => (g, a)

theorem readSwitches_eq (s : State) : s.readSwitches = switches.foldl readSwitch s := by
  simp only [switches, List.foldl_flatMap, List.foldl_map]
  rfl

theorem home_tells (x : AxisRec) (offset : Nat) : (x.home offset).2.length ≤ 1 := by
  unfold AxisRec.home
  split
  · dsimp only
    split
    · exact Nat.le_refl 1
    · exact Nat.zero_le 1
  · exact le_rfl

/-- The gauges with one switch read. -/
def readGauge (s : State) (p : Pos × Axis) : Gauge :=
  { s.gauges.get p.1 with
    axes := (s.gauges.get p.1).axes.set p.2
      (found ((s.gauges.get p.1).axes.get p.2) ((s.settings.host.homeOffsets.get p.1).get p.2)) }

theorem readSwitch_eq (s : State) (p : Pos × Axis) : ∃ ns : List Notice, ns.length ≤ 1 ∧
    readSwitch s p = { s with gauges := s.gauges.set p.1 (readGauge s p), link := s.link.offers ns } := by
  unfold readSwitch readGauge found
  split
  · have few := home_tells ((s.gauges.get p.1).axes.get p.2) ((s.settings.host.homeOffsets.get p.1).get p.2)
    unfold State.homeEvent
    dsimp only
    generalize (((s.gauges.get p.1).axes.get p.2).home ((s.settings.host.homeOffsets.get p.1).get p.2)).2 = events
      at few ⊢
    match events, few with
    | [], _ => exact ⟨[], Nat.zero_le _, rfl⟩
    | [x], _ => exact ⟨[_], le_rfl, rfl⟩
  · refine ⟨[], Nat.zero_le _, ?_⟩
    have axes : (s.gauges.get p.1).axes.set p.2 ((s.gauges.get p.1).axes.get p.2) = (s.gauges.get p.1).axes := by
      cases p.2 <;> rfl
    rw [axes]
    exact congrArg (fun g => { s with gauges := g }) (Six.set_get s.gauges p.1).symm

/-- The gauges of `t` are those of `s` with these switches read. -/
structure Read (s t : State) (l : List (Pos × Axis)) : Prop where
  record : ∀ k, (t.gauges.get k).record = (s.gauges.get k).record
  button : ∀ k, (t.gauges.get k).button = (s.gauges.get k).button
  axis : ∀ k a, (t.gauges.get k).axes.get a = if (k, a) ∈ l then
    found ((s.gauges.get k).axes.get a) ((s.settings.host.homeOffsets.get k).get a) else (s.gauges.get k).axes.get a

theorem readSwitch_reads (s : State) (p : Pos × Axis) : Read s (readSwitch s p) [p] := by
  obtain ⟨ns, -, first⟩ := readSwitch_eq s p
  have gauge (k : Pos) : (readSwitch s p).gauges.get k = if k = p.1 then readGauge s p else s.gauges.get k := by
    rw [first]
    split
    next here => exact here ▸ Six.get_set_self ..
    next other => exact Six.get_set_ne _ _ other
  refine ⟨fun k => ?_, fun k => ?_, fun k a => ?_⟩
  · rw [gauge]
    split
    next here => rw [here]; rfl
    next => rfl
  · rw [gauge]
    split
    next here => rw [here]; rfl
    next => rfl
  · simp only [gauge, List.mem_singleton, Prod.ext_iff]
    by_cases here : k = p.1
    · subst here
      by_cases same : a = p.2
      · subst same
        rw [if_pos rfl, if_pos ⟨rfl, rfl⟩]
        exact Three.get_set_self ..
      · rw [if_pos rfl, if_neg fun both => same both.2]
        exact Three.get_set_ne _ _ same
    · rw [if_neg here, if_neg fun both => here both.1]

theorem Read.cons {s u t : State} {p : Pos × Axis} {l : List (Pos × Axis)} (first : Read s u [p])
    (settings : u.settings = s.settings) (rest : Read u t l) (missing : p ∉ l) : Read s t (p :: l) where
  record k := (rest.record k).trans (first.record k)
  button k := (rest.button k).trans (first.button k)
  axis k a := by
    rw [rest.axis, first.axis, settings]
    by_cases here : (k, a) = p
    · simp [here, missing]
    · simp [here]

theorem readAll (l : List (Pos × Axis)) : l.Nodup → ∀ s : State, ∃ g ns, ns.length ≤ l.length ∧
    l.foldl readSwitch s = { s with gauges := g, link := s.link.offers ns } ∧ Read s (l.foldl readSwitch s) l := by
  induction l with
  | nil => exact fun _ s => ⟨_, [], le_rfl, rfl, fun _ => rfl, fun _ => rfl, fun _ _ => rfl⟩
  | cons p l ih =>
    intro apart s
    obtain ⟨missing, apart⟩ := List.nodup_cons.mp apart
    obtain ⟨ns, few, first⟩ := readSwitch_eq s p
    obtain ⟨g, ms, fewer, rest, read⟩ := ih apart (readSwitch s p)
    refine ⟨g, ns ++ ms, ?_, ?_, (readSwitch_reads s p).cons (by rw [first]) read missing⟩
    · rw [List.length_append, List.length_cons]
      omega
    · rw [List.foldl_cons, rest, first, offers_append]

/-- Every closed home switch is taken as a home event, with no other effect than its notice (R27, R36). -/
theorem readSwitches_leaves (s : State) : ∃ g ns, ns.length ≤ 18 ∧
    s.readSwitches = { s with gauges := g, link := s.link.offers ns } ∧
    ∀ k, (g.get k).record = (s.gauges.get k).record ∧ (g.get k).button = (s.gauges.get k).button ∧
      ∀ a, (g.get k).axes.get a =
        found ((s.gauges.get k).axes.get a) ((s.settings.host.homeOffsets.get k).get a) := by
  obtain ⟨g, ns, few, reads, read⟩ := readAll switches (by decide) s
  refine ⟨g, ns, few, reads, fun k => ⟨?_, ?_, fun a => ?_⟩⟩
  all_goals rw [reads] at read
  · exact read.record k
  · exact read.button k
  · have listed : (k, a) ∈ switches := by cases k <;> cases a <;> decide
    exact (read.axis k a).trans (if_pos listed)

/-- A label found on the pad is one wasted (R190). -/
theorem readPad_eq {s : State} (reset : s.label = {}) (sensor : PadSensor) :
    s.readPad sensor = { s with label := { stats := { wasted := if sensor = .label then 1 else 0 } } } := by
  cases sensor with
  | clear => exact congrArg (fun u => { s with label := u }) reset
  | label =>
    unfold State.readPad State.countWasted State.onLabel
    rw [reset]
    rfl

end Sys2Proof.Machine.ResetState
end

section
/-! PROOFS of 03_tariff_image_and_banks.md, 07_belt_drive_and_tracking.md and 10_host_link_calendar_and_settings.md: the
start-up scan as it begins (R38, R59, R152, R204). -/

namespace Sys2Proof.Machine.StartScan

open TariffBanks VerificationReads DriveCommands

/-! ## What the two state records give (R59) -/

section
variable {x : StateRecord} {o : Option StateRecord} {tie : Bool}

theorem losesTo_iff : State.losesTo (some x) o tie = true ↔ (x.state = .active ∨ x.state = .staged) ∧
    ∃ y, o = some y ∧ y.state = x.state ∧ (x.seq.toNat < y.seq.toNat ∨ (tie = true ∧ x.seq = y.seq)) := by
  cases o with
  | none => simp [State.losesTo]
  | some y =>
    simp only [State.losesTo, Bool.and_eq_true, Bool.or_eq_true, beq_iff_eq, decide_eq_true_eq, Option.some.injEq,
      exists_eq_left', eq_comm (a := y.state)]
    tauto

theorem recordChanged_iff {r : Option StateRecord} : State.recordChanged r o tie = true ↔
    ∃ x, r = some x ∧ (x.state = .loading ∨ State.losesTo (some x) o tie = true) := by
  cases r <;> simp [State.recordChanged]

/-- The bank's description as its record gives it. -/
def described (x : StateRecord) : Description := ⟨x.length, x.crc, some (x.tariffId, x.version, x.effective)⟩

theorem scannedBank_none : State.scannedBank none o tie = {} := rfl

theorem scannedBank_empties (empties : x.state = .empty ∨ x.state = .loading ∨ State.losesTo (some x) o tie = true) :
    State.scannedBank (some x) o tie = {} := by
  obtain state | state | loses := empties
  · simp [State.scannedBank, State.recordedState, state]
  · simp [State.scannedBank, State.recordedState, state]
  · simp [State.scannedBank, loses]

theorem scannedBank_keeps {st : BankState} (wins : ¬State.losesTo (some x) o tie = true)
    (state : State.recordedState (some x) = st) (kept : st ≠ .empty) :
    State.scannedBank (some x) o tie = { state := st, description := some (described x) } := by
  simp [State.scannedBank, wins, state, kept, described]

theorem losesTo_damaged (state : x.state = .damaged) : ¬State.losesTo (some x) o tie = true := by
  rw [losesTo_iff, state]
  rintro ⟨h | h, -⟩ <;> cases h

/-- A bank that keeps a state has its description. -/
theorem scannedBank_described {r : Option StateRecord} (kept : (State.scannedBank r o tie).state ≠ .empty) :
    ∃ d, (State.scannedBank r o tie).description = some d := by
  cases r with
  | none => exact absurd rfl kept
  | some x => exact ⟨described x, by simpa [State.scannedBank, described] using kept⟩

end

/-! ## The scan's tariff and port -/

section
variable (ra rb : Option StateRecord)

def scanBanks : Two BankRec := ⟨State.scannedBank ra rb false, State.scannedBank rb ra true⟩

/-- The banks that wait for re-verification in one state. -/
def recorded (st : BankState) : List Bank := [Bank.a, .b].filter fun k => ((scanBanks ra rb).get k).state == st

def scanning : List Bank := recorded ra rb .active ++ recorded ra rb .staged

/-- The greater number of the two records. -/
def greatest : BitVec 32 :=
  if (State.recordSeqOf ra).toNat < (State.recordSeqOf rb).toNat then State.recordSeqOf rb else State.recordSeqOf ra

/-- The number of the record sequence once bank A's rewrite has been asked. -/
def seqAfterA : BitVec 32 := if State.recordChanged ra rb false then greatest ra rb + 1 else greatest ra rb

def scanSeq : BitVec 32 := if State.recordChanged rb ra true then seqAfterA ra rb + 1 else seqAfterA ra rb

/-- The rewrites the scan asks as it begins, bank A's first (log 59). -/
def rewrites : List Access :=
  (if State.recordChanged ra rb false then
    [.recordErase .a, .recordProgram .a (recordOf (greatest ra rb + 1) .empty none)] else []) ++
  (if State.recordChanged rb ra true then
    [.recordErase .b, .recordProgram .b (recordOf (seqAfterA ra rb + 1) .empty none)] else [])

/-- The Tariff Controller with both records read. -/
def scanTariff : Tariff :=
  { banks := scanBanks ra rb, scanning := scanning ra rb, recordSeq := scanSeq ra rb }

theorem recorded_eq (st : BankState) : recorded ra rb st =
    (if (scanBanks ra rb).a.state = st then [Bank.a] else []) ++ if (scanBanks ra rb).b.state = st then [.b] else [] := by
  by_cases a : (scanBanks ra rb).a.state = st <;> by_cases b : (scanBanks ra rb).b.state = st <;>
    simp [recorded, Two.get, a, b]

omit ra rb in
theorem rewriteRecord_where (s : State) (k : Bank) (changed : Bool) :
    (if changed = true then s.rewriteRecord k .empty none else s) = { s with
      tariff := { s.tariff with recordSeq := if changed then s.tariff.recordSeq + 1 else s.tariff.recordSeq }
      port := s.port.asks (if changed then
        [.recordErase k, .recordProgram k (recordOf (s.tariff.recordSeq + 1) .empty none)] else []) } := by
  cases changed <;> rfl

theorem scanFrom_eq {s : State} (tariff : s.tariff = {}) (port : s.port = {}) : s.scanFrom ra rb =
    State.scanOn { s with tariff := scanTariff ra rb, port := ({} : Port).asks (rewrites ra rb) } false := by
  unfold State.scanFrom
  dsimp only
  rw [rewriteRecord_where, rewriteRecord_where]
  refine congrArg (State.scanOn · false) ?_
  simp only [State.onTariff, tariff, port, scanTariff, scanning, recorded_eq, rewrites, asks_append]
  rfl

/-! ## The scan begins (R59) -/

/-- The verification of the first bank that waits for it. -/
def firstVerify : Option Verify := (scanning ra rb).head?.bind fun k => ((scanBanks ra rb).get k).description.map
  fun d => { bank := k, length := d.length, crc := d.crc, startUp := true }

/-- The first read of that verification (R51). -/
def firstRead : Option Access := (scanning ra rb).head?.map fun k =>
  .verification k 0 (min 256 ((((scanBanks ra rb).get k).description.map (·.length)).getD 0))

theorem scanning_described {k : Bank} (waits : k ∈ scanning ra rb) :
    ∃ d, ((scanBanks ra rb).get k).description = some d := by
  have kept : ((scanBanks ra rb).get k).state ≠ .empty := by
    intro empty
    simp [scanning, recorded, empty] at waits
  cases k <;> exact scannedBank_described kept

variable {s : State}

/-- With a bank to verify, its first read is asked behind the rewrites. -/
theorem scanOn_verifies (tariff : s.tariff = scanTariff ra rb) {k : Bank} {rest : List Bank}
    (waits : scanning ra rb = k :: rest) : s.scanOn false = { s with
      tariff := { scanTariff ra rb with verify := firstVerify ra rb }
      port := s.port.asks (firstRead ra rb).toList } := by
  obtain ⟨d, description⟩ := scanning_described ra rb (waits ▸ List.mem_cons_self : k ∈ scanning ra rb)
  have listed : s.tariff.scanning = k :: rest := by rw [tariff]; exact waits
  have free : s.tariff.verify = none := by rw [tariff]; rfl
  have described : (s.tariff.banks.get k).description = some d := by rw [tariff]; exact description
  rw [scanOn_unchecked, if_pos (listed ▸ List.cons_ne_nil k rest), turnVerifier_scan free listed described]
  have verify : firstVerify ra rb = some { bank := k, length := d.length, crc := d.crc, startUp := true } := by
    simp [firstVerify, waits, description]
  have read : firstRead ra rb = some (.verification k 0 (min 256 d.length)) := by
    simp [firstRead, waits, description]
  rw [verify, read, ← tariff]
  rfl

omit ra rb in
/-- The emergency-stop path of a line at rest stops the drive and no more (R132). -/
theorem stops_still (rest : s.atRest) (dark : s.release.lit = none) (moves : s.belt.drive ≠ .estopped) (before : State) :
    State.settle before (s.estopPath .estop) = (s.onBelt (haltedBelt .estop)).beltNotice := by
  obtain ⟨empty, home, passes, -, -, parked⟩ := rest
  rw [estopPath_empty empty dark home, LineSettled.changeDrive_told (Ne.symm moves)]
  exact LineOperations.settle_atRest (s := (s.onBelt (haltedBelt .estop)).beltNotice)
    ⟨empty, home, passes, nofun, nofun, parked⟩ before

/-- With no bank to verify the part is READY, and an asserted emergency stop input has made the drive ESTOPPED. -/
theorem scanOn_ready (tariff : s.tariff = scanTariff ra rb) (none_waits : scanning ra rb = []) (rest : s.atRest)
    (dark : s.release.lit = none) (moves : s.belt.drive ≠ .estopped) : ∃ ns : List Notice, ns.length ≤ 1 ∧
    s.scanOn false = { s with
      belt := if s.pins.estop then haltedBelt .estop s.belt else s.belt
      link := { s.link with part := .ready }.offers ns } := by
  have listed : ¬s.tariff.scanning ≠ [] := not_not_intro (by rw [tariff]; exact none_waits)
  have same : readied s = { s with link := { s.link with part := .ready } } := by
    have unforced : s.tariffInForce = none := by
      rw [State.tariffInForce, tariff]
      cases s.activeBank <;> rfl
    rw [readied, unforced, tariff]
    rfl
  rw [scanOn_unchecked, if_neg listed, same]
  by_cases estop : s.pins.estop = true
  · rw [if_pos ⟨estop, moves⟩, if_pos estop]
    exact ⟨[_], le_rfl, stops_still (s := { s with link := { s.link with part := .ready } }) rest dark moves _⟩
  · rw [if_neg fun stops => estop stops.1, if_neg estop]
    exact ⟨[], Nat.zero_le _, rfl⟩

end

section
variable {s : State} (tariff : s.tariff = {}) (port : s.port = {}) (rest : s.atRest) (dark : s.release.lit = none)
  (moves : s.belt.drive ≠ .estopped)
include tariff port rest dark moves

theorem beginScan_eq :
    let ra := readStateRecord s.flash.records.a
    let rb := readStateRecord s.flash.records.b
    ∃ ns : List Notice, ns.length ≤ 1 ∧ s.beginScan = { s with
      tariff := { scanTariff ra rb with verify := firstVerify ra rb }
      port := ({} : Port).asks (rewrites ra rb ++ (firstRead ra rb).toList)
      belt := if scanning ra rb = [] ∧ s.pins.estop = true then haltedBelt .estop s.belt else s.belt
      link := { s.link with part := if scanning ra rb = [] then .ready else s.link.part }.offers ns } := by
  intro ra rb
  have begins : s.beginScan = _ := scanFrom_eq ra rb tariff port
  rw [begins, asks_append]
  cases waits : scanning ra rb with
  | nil =>
    have verify : firstVerify ra rb = none := by simp [firstVerify, waits]
    have read : firstRead ra rb = none := by simp [firstRead, waits]
    obtain ⟨ns, few, ready⟩ := scanOn_ready ra rb
      (s := { s with tariff := scanTariff ra rb, port := ({} : Port).asks (rewrites ra rb) }) rfl waits rest dark moves
    refine ⟨ns, few, ?_⟩
    rw [ready, verify, read]
    simp only [true_and, if_true]
    rfl
  | cons k others =>
    refine ⟨[], Nat.zero_le _, ?_⟩
    rw [scanOn_verifies ra rb (s := { s with
      tariff := scanTariff ra rb, port := ({} : Port).asks (rewrites ra rb) }) rfl waits]
    simp only [reduceCtorEq, false_and, if_false]
    rfl

end

/-! ## The scan in the words of the statement (R38, R59) -/

theorem scannedBank_says (r o : Option StateRecord) (tie : Bool) :
    (r = none → State.scannedBank r o tie = {}) ∧ ∀ x, r = some x →
      ((x.state = .empty ∨ x.state = .loading ∨ State.losesTo (some x) o tie = true) → State.scannedBank r o tie = {}) ∧
      (x.state = .damaged → State.scannedBank r o tie = { state := .damaged, description := some (described x) }) ∧
      (¬State.losesTo (some x) o tie = true →
        (x.state = .active → State.scannedBank r o tie = { state := .active, description := some (described x) }) ∧
        (x.state = .staged → State.scannedBank r o tie = { state := .staged, description := some (described x) })) := by
  refine ⟨fun unread => unread ▸ scannedBank_none, ?_⟩
  rintro x rfl
  have gives {st : BankState} {f : RecordedState} (state : x.state = f)
      (same : State.recordedState (some { x with state := f }) = st) : State.recordedState (some x) = st := by
    rw [← same, ← state]
  refine ⟨scannedBank_empties, fun state => scannedBank_keeps (losesTo_damaged state) (gives state rfl) nofun,
    fun wins => ⟨fun state => scannedBank_keeps wins (gives state rfl) nofun,
      fun state => scannedBank_keeps wins (gives state rfl) nofun⟩⟩

theorem rewrites_say (ra rb : Option StateRecord) {a b : Prop} (changedA : a ↔ State.recordChanged ra rb false = true)
    (changedB : b ↔ State.recordChanged rb ra true = true) : ∃ qa qb : StateRecord,
    recordSays qa (greatest ra rb + 1) .empty none ∧ recordSays qb qb.seq .empty none ∧
    (a → b → qb.seq = greatest ra rb + 2) ∧ (¬a → qb.seq = greatest ra rb + 1) ∧
    (a → b → scanSeq ra rb = greatest ra rb + 2) ∧ (a → ¬b → scanSeq ra rb = greatest ra rb + 1) ∧
    (¬a → b → scanSeq ra rb = greatest ra rb + 1) ∧ (¬a → ¬b → scanSeq ra rb = greatest ra rb) ∧
    ∀ asked : List Access,
      (a → b → asked = [.recordErase .a, .recordProgram .a qa, .recordErase .b, .recordProgram .b qb]) →
      (a → ¬b → asked = [.recordErase .a, .recordProgram .a qa]) →
      (¬a → b → asked = [.recordErase .b, .recordProgram .b qb]) → (¬a → ¬b → asked = []) →
      asked = rewrites ra rb := by
  have twice : greatest ra rb + 1#32 + 1#32 = greatest ra rb + 2#32 := BitVec.add_assoc ..
  refine ⟨recordOf (greatest ra rb + 1) .empty none, recordOf (seqAfterA ra rb + 1) .empty none, recordOf_written ..,
    recordOf_written .., ?_⟩
  have seq : (recordOf (seqAfterA ra rb + 1) .empty none).seq = seqAfterA ra rb + 1 := rfl
  rw [seq, changedA, changedB]
  unfold scanSeq rewrites seqAfterA
  cases State.recordChanged ra rb false <;> cases State.recordChanged rb ra true <;> simp [twice]

end Sys2Proof.Machine.StartScan
end

section
/-! PROOFS of 10_host_link_calendar_and_settings.md: the resets, the power and reset lines and S_RESTART (R23, R36, R59,
R76, R100, R123, R152, R172, R190, R201, R204, R206). -/

namespace Sys2Proof.Machine.Restarts

open ResetState StartScan DriveCommands

/-! ## A start (R204) -/

/-- A part as a reset leaves it, but for its memories, lines and clock. -/
structure Cold (s : State) : Prop where
  tariff : s.tariff = {}
  port : s.port = {}
  release : s.release = {}
  label : s.label = {}
  link : s.link = {}
  queue : s.belt.queue = []
  drive : s.belt.drive = .stopped
  reason : s.belt.reason = .none

/-- The part with its settings loaded, its start readings taken and these notices sent. -/
def prepared (s : State) (sensor : PadSensor) (g : Six Gauge) (ns : List Notice) : State :=
  { s with
    settings := { s.settings with
      source := (inForce s.settings).1, seq := (inForce s.settings).2.1, host := (inForce s.settings).2.2.host }
    weighing := { channels := (inForce s.settings).2.2.channels.map Channel.loaded
                  timeout := (inForce s.settings).2.2.timeout }
    release := { s.release with places := (inForce s.settings).2.2.host.defaults.map Place.loaded }
    label := { stats := { wasted := if sensor = .label then 1 else 0 } }
    gauges := g
    link := s.link.offers ns }

/-- The gauges of a start: the lines, and the closed home switches taken as home events. -/
def GaugesFound (s : State) (g : Six Gauge) : Prop :=
  ∀ k, (g.get k).record = (s.gauges.get k).record ∧ (g.get k).button = (s.gauges.get k).button ∧
    ∀ a, (g.get k).axes.get a =
      found ((s.gauges.get k).axes.get a) (((inForce s.settings).2.2.host.homeOffsets.get k).get a)

theorem prepares {s : State} (reset : s.label = {}) (sensor : PadSensor) : ∃ g ns, ns.length ≤ 19 ∧
    (s.loadSettings.readSwitches).readPad sensor = prepared s sensor g ns ∧ GaugesFound s g := by
  obtain ⟨ns, few, loads⟩ := loadSettings_eq s
  obtain ⟨g, ms, events, reads, gauges⟩ := readSwitches_leaves s.loadSettings
  refine ⟨g, ns ++ ms, ?_, ?_, ?_⟩
  · rw [List.length_append]
    omega
  · have label : s.loadSettings.readSwitches.label = {} := by
      rw [reads, loads]
      exact reset
    rw [readPad_eq label, reads, loads, prepared, ChannelNotices.offers_append]
    rfl
  · rw [loads] at gauges
    exact gauges

/-- A part that starts: the settings loaded, the start readings taken and the scan begun. -/
theorem start_eq {s : State} (cold : Cold s) (sensor : PadSensor) {ra rb : Option StateRecord}
    (readA : readStateRecord s.flash.records.a = ra) (readB : readStateRecord s.flash.records.b = rb) : ∃ g l,
    GaugesFound s g ∧ Fresh 20 (if scanning ra rb = [] then .ready else .starting) l ∧
    s.start sensor = { prepared s sensor g [] with
      tariff := { scanTariff ra rb with verify := firstVerify ra rb }
      port := ({} : Port).asks (rewrites ra rb ++ (firstRead ra rb).toList)
      belt := if scanning ra rb = [] ∧ s.pins.estop = true then haltedBelt .estop s.belt else s.belt
      link := l } := by
  obtain ⟨tariff, port, release, label, link, queue, drive, reason⟩ := cold
  obtain ⟨g, ns, few, prepares, gauges⟩ := prepares label sensor
  have rest : (prepared s sensor g ns).atRest :=
    ⟨queue, rfl, rfl, (by rw [reason]; nofun : s.belt.reason ≠ _), (by rw [drive]; nofun : s.belt.drive ≠ _),
      .inl (by rw [prepared, release])⟩
  have dark : (prepared s sensor g ns).release.lit = none := by rw [prepared, release]
  have moves : s.belt.drive ≠ .estopped := by rw [drive]; nofun
  obtain ⟨ms, fewer, begins⟩ := beginScan_eq (s := prepared s sensor g ns) tariff port rest dark moves
  subst readA readB
  have sent : Fresh ns.length .starting (s.link.offers ns) := by
    have offered := Fresh.reset.offers ns (by omega)
    rwa [Nat.zero_add, ← link] at offered
  have begun := ((sent.enters (if scanning (readStateRecord s.flash.records.a) (readStateRecord s.flash.records.b) = []
    then .ready else .starting)).offers ms (by omega)).mono (by omega : ns.length + ms.length ≤ 20)
  have starting : (prepared s sensor g ns).link.part = .starting := sent.part
  rw [starting] at begins
  refine ⟨g, _, gauges, begun, ?_⟩
  rw [State.start, prepares, begins]
  rfl

/-! ## The resets of a part (R206) -/

theorem exec_powerOnReset (s : State) (sensor : PadSensor) : exec (.powerOnReset sensor) s =
    .next ((s.onPins fun p => { p with powerGood := true }).startUp sensor) := rfl

theorem exec_pinReset (s : State) (sensor : PadSensor) : exec (.pinReset sensor) s =
    .next ((s.onPins fun p => { p with resetLine := false }).startUp sensor) := rfl

theorem startUp_starts {s : State} (runs : s.running = true) (sensor : PadSensor) :
    s.startUp sensor = (s.cold {}).start sensor := if_pos runs

theorem startUp_dark {s : State} (held : s.running = false) (sensor : PadSensor) : s.startUp sensor = s.cold {} :=
  if_neg (by simp [held])

/-- The end of the reply of an accepted S_RESTART restarts the part with its calendar kept (R206). -/
theorem exec_transmitFrameEnd_restarts {s : State} {i : SlotId} (running : s.running = true)
    (sends : s.link.transmitter = .sending (.reply i)) (asked : s.link.restartSlot = some i) :
    exec .transmitFrameEnd s = .next (({ s with fresh := s.fresh + 1 }.cold
      { calendar := s.time.calendar, msPhase := s.time.msPhase }).start (Config.padSensor s.fresh)) := by
  refine (congrArg Host.Outcome.next (if_pos running)).trans (congrArg _ ?_)
  simp only [State.frameSent, sends, asked, if_true]
  rfl

theorem serveSRestart_busy {s : State} (storing : s.settings.store.isSome = true) (i : SlotId) :
    serveSRestart i s = s.refuse i .storeBusy := if_pos storing

theorem serveSRestart_takes {s : State} (idle : s.settings.store = none) (i : SlotId) : serveSRestart i s =
    (s.onLink fun l => { l with restartSlot := some (l.restartSlot.getD i) }).ok i := by
  rw [serveSRestart, idle]
  rfl

/-- `u` has the memories, the gauges, the belt's lines and the queue of `s`: all that a reset of `s` keeps but its pins
and its calendar. -/
structure SameMemory (s u : State) : Prop where
  pending : u.pending = s.pending
  gauges : u.gauges = s.gauges
  belt : u.belt = s.belt
  settings : u.settings = s.settings
  port : u.port = s.port
  flash : u.flash = s.flash

theorem sameMemory_onPins (s : State) (f : Pins → Pins) : SameMemory s (s.onPins f) := ⟨rfl, rfl, rfl, rfl, rfl, rfl⟩

/-- Settles O57: what is left of a part that has lost its volatile state, and what a start makes of it; then each reset
by which of the two it is. -/
theorem resets : Obligations.Resets := by
  intro s lines copies dark loads scans starts powered let_go
  have darkens {u : State} (memory : SameMemory s u) : dark u.pins (u.cold {}) := by
    obtain ⟨pending, gauges, belt, settings, port, flash⟩ := memory
    obtain ⟨f, t, n, cold, memory, stored⟩ := cold_eq u {}
    rw [settings] at stored
    rw [port, flash] at memory
    rw [cold, gauges, belt, pending]
    refine ⟨rfl, rfl, rfl, rfl, rfl, rfl, rfl, rfl, rfl, rfl, rfl, rfl, rfl, fun k a => ?_, fun k => ?_, ?_, rfl, memory⟩
    · dsimp only
      rw [Six.get_map]
      exact Three.get_map ..
    · dsimp only
      rw [Six.get_map]
      exact ⟨rfl, rfl⟩
    · have same := stored.of_same (c := { copy1 := t.copy1, copy2 := t.copy2 }) rfl rfl
      exact ⟨same.kept, same.spoilt⟩
  have begins {u : State} (memory : SameMemory s u) (time : Time) (sensor : PadSensor) :
      starts u.pins time sensor ((u.cold time).start sensor) := by
    obtain ⟨pending, gauges, belt, settings, port, flash⟩ := memory
    obtain ⟨f, t, n, cold, memory, stored⟩ := cold_eq u time
    rw [settings] at stored
    rw [port, flash] at memory
    obtain ⟨g, l, found, sent, started⟩ := start_eq (s := { pins := u.pins, gauges := u.gauges.map State.gaugeLines
                                                            flash := f, belt := lines
                                                            settings := { copy1 := t.copy1, copy2 := t.copy2 }
                                                            time := time, fresh := n, pending := u.pending })
      ⟨rfl, rfl, rfl, rfl, rfl, rfl, rfl, rfl⟩ sensor rfl rfl
    have same : (u.cold time).start sensor = _ := (congrArg (State.start · sensor) (by rw [cold, belt])).trans started
    rw [gauges] at found
    generalize (u.cold time).start sensor = v at same
    have loaded {source : Source} {seq : BitVec 32} {r : SettingsRecord}
        (holds : inForce { copy1 := t.copy1, copy2 := t.copy2 } = (source, seq, r)) : loads v source seq r := by
      rw [same]
      dsimp only [loads, prepared]
      rw [holds]
      exact ⟨rfl, rfl, rfl, rfl⟩
    have scanned : scans v := by
      unfold scans
      intro read loses changed seq most waiting length
      have lost (k : Bank) (x : StateRecord) : loses k x ↔
          State.losesTo (some x) (read k.other) (k == .b) = true := by
        rw [losesTo_iff, beq_iff_eq]
      have rewritten (k : Bank) : changed k ↔ State.recordChanged (read k) (read k.other) (k == .b) = true := by
        simp only [recordChanged_iff, changed, lost]
      have banks (k : Bank) : v.tariff.banks.get k = State.scannedBank (read k) (read k.other) (k == .b) := by
        simp only [read]
        rw [same]
        cases k <;> rfl
      have sequence (k : Bank) : seq k = State.recordSeqOf (read k) := by
        simp only [seq]
        split <;> simp [State.recordSeqOf, *]
      have greater : most = StartScan.greatest (read .a) (read .b) := by
        simp only [most, sequence]
        rfl
      have tells := rewrites_say (read .a) (read .b) (rewritten .a) (rewritten .b)
      rw [← greater] at tells
      obtain ⟨qa, qb, saysA, saysB, bothB, onlyB, both, first, second, neither, asks⟩ := tells
      have number : v.tariff.recordSeq = scanSeq (read .a) (read .b) := by
        simp only [read]
        rw [same]
        rfl
      rw [← number] at both first second neither
      refine ⟨fun k => ?banks, ?scanning, ?verify, ?_, ?_, ?_, ?_, ?_, ?_, qa, qb, saysA, saysB, bothB, onlyB, both, first,
        second, neither, fun asked bothAsk firstAsks secondAsks noneAsks => ?asked⟩
      case banks =>
        simp only [banks, lost]
        exact scannedBank_says (read k) (read k.other) (k == .b)
      case scanning =>
        simp only [waiting]
        rw [same]
        rfl
      case verify =>
        rw [same]
        rfl
      case asked =>
        rw [asks asked bothAsk firstAsks secondAsks noneAsks]
        simp only [read, length]
        rw [same]
        rfl
      all_goals
        rw [same]
        rfl
    subst same
    refine ⟨rfl, pending, rfl, rfl, rfl, rfl, rfl, rfl, ?belt, fun k a => ?axis, fun k => ?gauge, ?copies, rfl, memory,
      ?loads, sent.part, sent.receiver, sent.slots, sent.ready, sent.drops, sent.frameErrors, sent.lostRequests,
      sent.restartSlot, scanned⟩
    case belt =>
      have begun : l.part = .ready ↔ scanning (readStateRecord f.records.a) (readStateRecord f.records.b) = [] := by
        rw [sent.part]
        split <;> simp [*]
      simp only [begun]
      rfl
    case axis =>
      refine (found k).2.2 a |>.trans ?_
      dsimp only
      rw [Six.get_map]
      exact congrArg (ResetState.found · _) (Three.get_map ..)
    case gauge =>
      obtain ⟨record, button, -⟩ := found k
      rw [Six.get_map] at record button
      exact ⟨record, button⟩
    case copies =>
      have kept := stored.of_same (c := { copy1 := t.copy1, copy2 := t.copy2 }) rfl rfl
      exact ⟨kept.kept, kept.spoilt⟩
    case loads =>
      split
      next one two => exact loaded (inForce_default one two)
      next q r one two => exact loaded (inForce_one one two)
      next q r one two => exact loaded (inForce_two one two)
      next q r q' r' one two => exact ⟨fun newer => loaded (inForce_first one two newer),
        fun newer => loaded (inForce_second one two newer)⟩
  refine ⟨fun sensor => ⟨_, exec_powerOnReset s sensor, fun released => ?_, fun held => ?_⟩,
    fun sensor => ⟨_, exec_pinReset s sensor, fun good => ?_, fun off => ?_⟩,
    ⟨_, rfl, darkens (sameMemory_onPins s _)⟩, ⟨_, rfl, darkens (sameMemory_onPins s _)⟩,
    fun i tag takes => ⟨fun storing => ?_, fun idle => ?_⟩,
    fun i running sends asked => ⟨_, _, exec_transmitFrameEnd_restarts running sends asked,
      begins (u := { s with fresh := s.fresh + 1 }) ⟨rfl, rfl, rfl, rfl, rfl, rfl⟩ _ _⟩⟩
  · rw [startUp_starts (show (s.onPins _).running = true by simp [State.running, State.onPins, released])]
    exact begins (sameMemory_onPins s _) _ _
  · rw [startUp_dark (show (s.onPins _).running = false by simp [State.running, State.onPins, held])]
    exact darkens (sameMemory_onPins s _)
  · rw [startUp_starts (show (s.onPins _).running = true by simp [State.running, State.onPins, good])]
    exact begins (sameMemory_onPins s _) _ _
  · rw [startUp_dark (show (s.onPins _).running = false by simp [State.running, State.onPins, off])]
    exact darkens (sameMemory_onPins s _)
  · exact StatusRequests.exec_takes takes rfl (serveSRestart_busy (s := s.held i tag _) storing i)
  · exact StatusRequests.exec_takes takes rfl (serveSRestart_takes (s := s.held i tag _) idle i)

end Sys2Proof.Machine.Restarts
end
